-- ==== Sys2Proof/Word.lean ====
section
/-! DEFINITION. The plainest data of the part: bytes, node indices and the clamp of spec/00_scope.md,
section 0.8 ("to replace a value below the range by the lower bound and a value above it by the upper bound"). -/

namespace Sys2Proof

/-- One data byte of a record (R3). -/
abbrev Byte := BitVec 8

/-- One of the eight ZC48 stations. The node number of the manual (1 to 8) is this index plus 1 (R153). -/
abbrev Node := Fin 8

/-- The node number of the manual, 1 to 8. -/
abbrev nodeNumber (n : Node) : Nat := n.val + 1

/-- The eight stations in rising node number. -/
def allNodes : List Node := [0, 1, 2, 3, 4, 5, 6, 7]

/-- Clamping a natural number to an inclusive range (section 0.8). -/
def clampNat (lo hi x : Nat) : Nat := if x < lo then lo else if hi < x then hi else x

/-- Clamping an integer to an inclusive range (section 0.8). -/
def clampInt (lo hi x : Int) : Int := if x < lo then lo else if hi < x then hi else x

end Sys2Proof
end

