-- ==== Sys2Proof/Syntax.lean ====
section
/-! DEFINITION. The commands of the part: one constructor of `Instr` for each row of spec/opcode_table.json,
with the operands the row's rule gives it. -/

namespace Sys2Proof.Machine

/-- The five strap pins latched at reset release (R153). -/
structure Straps where
  node0 : Bool
  node1 : Bool
  node2 : Bool
  cfgm : Bool
  hold : Bool
  deriving DecidableEq, Repr

/-- The entries of the measurement table that have a sensor fault (Table 7-3), in the order of the
sensors-fitted flags of Table 12-1. -/
inductive Sensor
  | cabTemp | dischargeTemp | intakeTemp | intakeSmoke | cabSmoke
  deriving DecidableEq, Repr

/-- The three duty-output temperature inputs (Table 7-1). -/
inductive TempInput
  | cab | discharge | intake
  deriving DecidableEq, Repr

/-- The two pulse-width smoke inputs (Table 7-1). -/
inductive SmokeInput
  | intake | cab
  deriving DecidableEq, Repr

/-- The two dampers (chapter 9). -/
inductive Damper
  | fresh | blend
  deriving DecidableEq, Repr

/-- The three output channels (chapter 8). -/
inductive Channel
  | blower | heater | clutch
  deriving DecidableEq, Repr

/-- The two door inputs (R73). -/
inductive Door
  | door1 | door2
  deriving DecidableEq, Repr

/-- What trips a channel: an over-current (R124) or a blower stall (R125). -/
inductive TripCause
  | overCurrent | stall
  deriving DecidableEq, Repr

/-- A frame on the line as the transceiver delivers it: the identifier's length, the remote bit, the identifier
and the data bytes (R1). -/
structure Frame where
  extended : Bool
  remote : Bool
  ident : Nat
  data : List Byte
  deriving DecidableEq, Repr

/-- The end of one reception: a receive error reported by the transceiver logic, or a frame (R12). -/
inductive Reception
  | error
  | frame (f : Frame)
  deriving DecidableEq, Repr

/-- The seven data bytes of a Demand record (Table 1-6). -/
structure DemandBytes where
  b0 : Byte
  b1 : Byte
  b2 : Byte
  b3 : Byte
  b4 : Byte
  b5 : Byte
  b6 : Byte
  deriving DecidableEq, Repr

/-- The eight data bytes of a Panel record (Table 1-4). -/
structure PanelBytes where
  b0 : Byte
  b1 : Byte
  b2 : Byte
  b3 : Byte
  b4 : Byte
  b5 : Byte
  b6 : Byte
  b7 : Byte
  deriving DecidableEq, Repr

end Sys2Proof.Machine

namespace Sys2Proof

open Sys2Proof.Machine

/-- The commands of the part, in the order of spec/opcode_table.json. Each is one whole event at the part. -/
inductive Instr
  /-- COLD_START (R153): reset release with the strap levels. -/
  | coldStart (straps : Straps)
  /-- LOADING_COMPLETE (R155): the 83 bytes read over SPI; not looked at when CFGM latched low. -/
  | loadingComplete (image : Vector Byte 83)
  /-- LISTENING_TIMER_EXPIRY (R156). -/
  | listeningTimerExpiry
  /-- SUPPLY_OK_ASSERTED (R157). -/
  | supplyOkAsserted
  /-- SUPPLY_OK_DEASSERTED (R157). -/
  | supplyOkDeasserted
  /-- IGN_ACCEPTED_LOW (R158). -/
  | ignAcceptedLow
  /-- IGN_ACCEPTED_HIGH (R159). -/
  | ignAcceptedHigh
  /-- SLEEP_DELAY_EXPIRY (R158). -/
  | sleepDelayExpiry
  /-- PARKING_TIMER_EXPIRY (R159). -/
  | parkingTimerExpiry
  /-- LEAVING_TIMER_EXPIRY (R159). -/
  | leavingTimerExpiry
  /-- ALLOWANCE_ARRIVAL (R31): the node field of the identifier and the three data bytes (Table 1-3). -/
  | allowanceArrival (nodeField : BitVec 4) (b0 b1 b2 : Byte)
  /-- DEMAND_ARRIVAL (R19, R20): the sending node and the seven data bytes. -/
  | demandArrival (sender : Node) (data : DemandBytes)
  /-- PANEL_ARRIVAL (R142): the eight data bytes of a Panel record addressed to the own node. -/
  | panelArrival (data : PanelBytes)
  /-- CONDITION_READ (R149): Service code 1. -/
  | conditionRead
  /-- CONDITION_CLEAR (R150): Service code 2 with its three condition set bytes. -/
  | conditionClear (b1 b2 b3 : Byte)
  /-- CONDITION_RELEASE (R151): Service code 3. -/
  | conditionRelease
  /-- CHANNEL_UNLOCK (R128): Service code 4 with its channel set byte. -/
  | channelUnlock (b1 : Byte)
  /-- REHOME_DAMPERS (R139): Service code 5. -/
  | rehomeDampers
  /-- IGNORED_FRAME (R2): a well-formed Zone Exchange frame that Table 1-2 marks as ignored. -/
  | ignoredFrame (f : Frame)
  /-- OUTSIDE_EXCHANGE_FRAME (R1): a frame outside the Exchange, and whether it was received without error. -/
  | outsideExchangeFrame (f : Frame) (withoutError : Bool)
  /-- RECEIVE_ERROR (R12). -/
  | receiveError
  /-- ADDRESS_CONFLICT (R14): a Demand, Status A or Status B frame bearing the own node number. -/
  | addressConflict (f : Frame)
  /-- ERROR_WINDOW_CLOSE (R12): the reception that would bring the received count to 256. -/
  | errorWindowClose (r : Reception)
  /-- OFFER_FRAME (R6): the line is idle. -/
  | offerFrame
  /-- LOST_ARBITRATION (R7). -/
  | lostArbitration
  /-- TRANSMIT_FAILURE (R7). -/
  | transmitFailure
  /-- LINE_OFF (R11): the failure that brings the line fault counter to 32. -/
  | lineOff
  /-- DEMAND_COMPLETION (R7). -/
  | demandCompletion
  /-- FRAME_COMPLETION (R7): a Status A, Status B or Condition Report completes. -/
  | frameCompletion
  /-- LINE_OFF_TIMER_EXPIRY (R11). -/
  | lineOffTimerExpiry
  /-- INHIBIT_TIMER_EXPIRY (R8). -/
  | inhibitTimerExpiry
  /-- REFRESH_TIMER_EXPIRY (R8). -/
  | refreshTimerExpiry
  /-- STATUS_TIMER_EXPIRY (R9). -/
  | statusTimerExpiry
  /-- STATUS_B_GUARD_EXPIRY (R9). -/
  | statusBGuardExpiry
  /-- SILENCE_TIMER_EXPIRY (R13). -/
  | silenceTimerExpiry
  /-- PEER_AGING (R22). -/
  | peerAging (n : Node)
  /-- PEER_STALE (R22). -/
  | peerStale (n : Node)
  /-- PEER_HOLD_LIMIT (R23). -/
  | peerHoldLimit (n : Node)
  /-- ALLOWANCE_TIMEOUT (R32). -/
  | allowanceTimeout
  /-- SHARE_EXPIRY (R36). -/
  | shareExpiry
  /-- AIR_EXPIRY (R67). -/
  | airExpiry
  /-- CLEARING_HOLD_COMPLETE (R72): the air expiry at which the clearing hold count reaches 8. -/
  | clearingHoldComplete
  /-- DOOR_CLOSE_EVENT (R73). -/
  | doorCloseEvent (d : Door)
  /-- DOOR_OPEN_EVENT (R74). -/
  | doorOpenEvent (d : Door)
  /-- BOOST_TIMER_EXPIRY (R74). -/
  | boostTimerExpiry
  /-- PURGE_TIMER_EXPIRY (R78). -/
  | purgeTimerExpiry
  /-- LOCKOUT_TIMER_EXPIRY (R79). -/
  | lockoutTimerExpiry
  /-- MINIMUM_ON_EXPIRY (R95). -/
  | minimumOnExpiry
  /-- MINIMUM_OFF_EXPIRY (R95). -/
  | minimumOffExpiry
  /-- OVERRIDE_LIFETIME_EXPIRY (R146). -/
  | overrideLifetimeExpiry
  /-- TEMPERATURE_EDGE (R105): the input, the new level and the edge's capture value (R103). -/
  | temperatureEdge (t : TempInput) (rising : Bool) (capture : BitVec 16)
  /-- SMOKE_EDGE (R107): the input, the new level and the edge's capture value (R103). -/
  | smokeEdge (k : SmokeInput) (rising : Bool) (capture : BitVec 16)
  /-- TACH_EDGE (R111): a rising edge on TACH. -/
  | tachEdge
  /-- EDGE_TIMEOUT_EXPIRY (R104). -/
  | edgeTimeoutExpiry (x : Sensor)
  /-- WINDOW_CLOSE (R109). -/
  | windowClose
  /-- HALL_EDGE (R132). -/
  | hallEdge (d : Damper)
  /-- OVER_CURRENT_ASSERTED (R124). -/
  | overCurrentAsserted (c : Channel)
  /-- CHANNEL_LOCK (R127): the trip, with its cause, that brings the trip count to 3. -/
  | channelLock (c : Channel) (cause : TripCause)
  /-- OVER_CURRENT_CLEARED (R126). -/
  | overCurrentCleared (c : Channel)
  /-- RAMP_TIMER_EXPIRY (R121). -/
  | rampTimerExpiry
  /-- BLOWER_STALL_EXPIRY (R125). -/
  | blowerStallExpiry
  /-- COOLDOWN_TIMER_EXPIRY (R126). -/
  | cooldownTimerExpiry (c : Channel)
  /-- CLEAN_RUN_EXPIRY (R127). -/
  | cleanRunExpiry (c : Channel)
  /-- DAMPER_STALL (R137): the expiry of a damper's stall timer. -/
  | damperStall (d : Damper)
  /-- COAST_TIMER_EXPIRY (R132). -/
  | coastTimerExpiry (d : Damper)
  /-- REVERSAL_TIMER_EXPIRY (R136). -/
  | reversalTimerExpiry (d : Damper)
  /-- HOMING_TIMER_EXPIRY (R134). -/
  | homingTimerExpiry (d : Damper)
  /-- RETRY_TIMER_EXPIRY (R137). -/
  | retryTimerExpiry (d : Damper)
  /-- AUTO_RELEASE_EXPIRY (R151). -/
  | autoReleaseExpiry
  /-- FRAME_DISCARDED_FOR_LENGTH (R2): a frame to be acted on whose data length is wrong. -/
  | frameDiscardedForLength (f : Frame)
  deriving DecidableEq, Repr

end Sys2Proof
end

