-- ==== Sys2Proof/Config.lean ====
section
/-! DEFINITION. The configuration parameters of Table 12-1 as a type, and the free values of the model. -/

namespace Sys2Proof.Machine

/-- The configuration parameters of Table 12-1, each in the unit the table states. -/
structure Params where
  controlPeriod : Nat
  refreshInterval : Nat
  demandInhibit : Nat
  statusInterval : Nat
  holdLimit : Nat
  expectedPeers : Nat
  isolatedCap : Nat
  fallbackAllowance : Nat
  allowanceTimeout : Nat
  raiseStep : Nat
  baseLoad : Nat
  blowerFull : Nat
  minDuty : Nat
  pwmFrequency : Nat
  stagesFitted : Nat
  stageCurrent : Nat
  stageDwell : Nat
  clutchCurrent : Nat
  freshTravel : Nat
  blendTravel : Nat
  smokeEnter : Nat
  smokeLeave : Nat
  purgeEnter : Nat
  purgeLeave : Nat
  purgeMax : Nat
  boostTime : Nat
  boostLevel : Nat
  recoveryError : Nat
  cabGain : Nat
  blendGain : Nat
  retryDelay : Nat
  errorLimit : Nat
  airSpace : Nat
  doorsFitted : Nat
  sensorsFitted : BitVec 6
  pulsesPerRev : Nat
  pullUps : BitVec 7
  reportMask : BitVec 24
  sleepDelay : Nat
  defaultTarget : Nat
  deriving DecidableEq, Repr

end Sys2Proof.Machine

namespace Sys2Proof

/-- DESIGN CHOICE (log entry 4): which of several timer expiries that are due together is taken first. The manual
says of each such pair that either may be taken first, so the value is free: nothing constrains it. -/
opaque Config.pick : Nat → Nat

end Sys2Proof
end

