-- ==== Sys2Proof/Machine/Params.lean ====
section
/-! DEFINITION. The configuration image: its layout (Table 12-1), its marker (R154), the taking of each parameter
into range (R155) and the defaults. -/

namespace Sys2Proof.Machine

/-- The defaults of Table 12-1. -/
def defaultParams : Params where
  controlPeriod := 250
  refreshInterval := 10
  demandInhibit := 100
  statusInterval := 2
  holdLimit := 20
  expectedPeers := 0
  isolatedCap := 150
  fallbackAllowance := 400
  allowanceTimeout := 3
  raiseStep := 50
  baseLoad := 15
  blowerFull := 180
  minDuty := 30
  pwmFrequency := 20
  stagesFitted := 2
  stageCurrent := 125
  stageDwell := 3
  clutchCurrent := 40
  freshTravel := 400
  blendTravel := 400
  smokeEnter := 80
  smokeLeave := 40
  purgeEnter := 30
  purgeLeave := 10
  purgeMax := 180
  boostTime := 20
  boostLevel := 7
  recoveryError := 60
  cabGain := 30
  blendGain := 10
  retryDelay := 5
  errorLimit := 16
  airSpace := 1
  doorsFitted := 2
  sensorsFitted := 0b111111#6
  pulsesPerRev := 2
  pullUps := 0b0000011#7
  reportMask := 0xFFFFFF#24
  sleepDelay := 60
  defaultTarget := 210

/-- The unsigned figure in two bytes, most significant byte first, at byte `i` of the image (R154). -/
def imageWord (image : Vector Byte 83) (i : Nat) : Nat :=
  256 * (image.toList.getD i 0).toNat + (image.toList.getD (i + 1) 0).toNat

/-- The image begins with the marker 0xA5, 0x48 (R154). -/
def markerMatches (image : Vector Byte 83) : Bool :=
  image.toList.getD 0 0 == 0xA5#8 && image.toList.getD 1 0 == 0x48#8

/-- A condition set in three bytes: the first holds conditions 1 to 8 from bit 0 up, the second 9 to 16, the third
17 to 24 (Table 1-5). -/
def conditionSetOfBytes (b1 b2 b3 : Byte) : BitVec 24 := b3 ++ b2 ++ b1

/-- The figures of the image as they stand in it (Table 12-1). Flag parameters take only the bits the table assigns,
so that other bits are no figure (R155). -/
def rawParams (image : Vector Byte 83) : Params where
  controlPeriod := imageWord image 2
  refreshInterval := imageWord image 4
  demandInhibit := imageWord image 6
  statusInterval := imageWord image 8
  holdLimit := imageWord image 10
  expectedPeers := imageWord image 12
  isolatedCap := imageWord image 14
  fallbackAllowance := imageWord image 16
  allowanceTimeout := imageWord image 18
  raiseStep := imageWord image 20
  baseLoad := imageWord image 22
  blowerFull := imageWord image 24
  minDuty := imageWord image 26
  pwmFrequency := imageWord image 28
  stagesFitted := imageWord image 30
  stageCurrent := imageWord image 32
  stageDwell := imageWord image 34
  clutchCurrent := imageWord image 36
  freshTravel := imageWord image 38
  blendTravel := imageWord image 40
  smokeEnter := imageWord image 42
  smokeLeave := imageWord image 44
  purgeEnter := imageWord image 46
  purgeLeave := imageWord image 48
  purgeMax := imageWord image 50
  boostTime := imageWord image 52
  boostLevel := imageWord image 54
  recoveryError := imageWord image 56
  cabGain := imageWord image 58
  blendGain := imageWord image 60
  retryDelay := imageWord image 62
  errorLimit := imageWord image 64
  airSpace := imageWord image 66
  doorsFitted := imageWord image 68
  sensorsFitted := BitVec.ofNat 6 (imageWord image 70)
  pulsesPerRev := imageWord image 72
  pullUps := BitVec.ofNat 7 (imageWord image 74)
  reportMask := conditionSetOfBytes (image.toList.getD 76 0) (image.toList.getD 77 0) (image.toList.getD 78 0)
  sleepDelay := imageWord image 79
  defaultTarget := imageWord image 81

/-- Taking each figure into range in table order (R155): the control period is first rounded down to a multiple of 50,
and the smoke leave and purge leave ranges are reckoned from the enter figures as already taken. -/
def takeParams (r : Params) : Params :=
  let smokeEnter := clampNat 10 500 r.smokeEnter
  let purgeEnter := clampNat 10 500 r.purgeEnter
  { controlPeriod := clampNat 100 1000 (r.controlPeriod / 50 * 50)
    refreshInterval := clampNat 5 20 r.refreshInterval
    demandInhibit := clampNat 50 500 r.demandInhibit
    statusInterval := clampNat 1 10 r.statusInterval
    holdLimit := clampNat 10 60 r.holdLimit
    expectedPeers := clampNat 0 7 r.expectedPeers
    isolatedCap := clampNat 0 600 r.isolatedCap
    fallbackAllowance := clampNat 0 2000 r.fallbackAllowance
    allowanceTimeout := clampNat 1 10 r.allowanceTimeout
    raiseStep := clampNat 10 200 r.raiseStep
    baseLoad := clampNat 0 50 r.baseLoad
    blowerFull := clampNat 20 400 r.blowerFull
    minDuty := clampNat 20 50 r.minDuty
    pwmFrequency := clampNat 1 25 r.pwmFrequency
    stagesFitted := clampNat 0 4 r.stagesFitted
    stageCurrent := clampNat 20 250 r.stageCurrent
    stageDwell := clampNat 1 10 r.stageDwell
    clutchCurrent := clampNat 10 80 r.clutchCurrent
    freshTravel := clampNat 50 2000 r.freshTravel
    blendTravel := clampNat 50 2000 r.blendTravel
    smokeEnter := smokeEnter
    smokeLeave := clampNat 0 (smokeEnter - 10) r.smokeLeave
    purgeEnter := purgeEnter
    purgeLeave := clampNat 0 (purgeEnter - 5) r.purgeLeave
    purgeMax := clampNat 30 600 r.purgeMax
    boostTime := clampNat 5 60 r.boostTime
    boostLevel := clampNat 1 8 r.boostLevel
    recoveryError := clampNat 20 150 r.recoveryError
    cabGain := clampNat 10 80 r.cabGain
    blendGain := clampNat 1 40 r.blendGain
    retryDelay := clampNat 2 30 r.retryDelay
    errorLimit := clampNat 1 128 r.errorLimit
    airSpace := clampNat 1 4 r.airSpace
    doorsFitted := clampNat 0 2 r.doorsFitted
    sensorsFitted := r.sensorsFitted
    pulsesPerRev := clampNat 1 4 r.pulsesPerRev
    pullUps := r.pullUps
    reportMask := r.reportMask
    sleepDelay := clampNat 10 600 r.sleepDelay
    defaultTarget := clampNat 150 300 r.defaultTarget }

/-- How a configuration came to be taken at the end of Loading: from a matching image, with or without a figure
changed, or from the defaults (R154, R155). -/
inductive ConfigSource
  | image | clampedImage | defaults
  deriving DecidableEq, Repr

/-- The configuration taken at the end of Loading, and how: no read is made when CFGM latched low, and an image
without the marker is rejected (R154). -/
def takeImage (cfgm : Bool) (image : Vector Byte 83) : Params × ConfigSource :=
  if cfgm && markerMatches image then
    let raw := rawParams image
    let taken := takeParams raw
    (taken, if taken = raw then .image else .clampedImage)
  else (defaultParams, .defaults)

end Sys2Proof.Machine
end

