-- ==== Sys2Proof/Machine/Blocks.lean ====
section
/-! DEFINITION. The state of each block of Table 0-1 as plain data, each with its cold-start value. -/

namespace Sys2Proof.Machine

/-! ### Timers -/

/-- A timer: stopped, running for a count of microseconds, or expired and waiting for its restart (section 0.8). -/
inductive Timer
  | stopped
  | running (us : Nat)
  | expired
  deriving DecidableEq, Repr

/-! ### Names used by several blocks -/

/-- The class of a request, in falling priority (Table 0-3). -/
inductive ZoneClass
  | clearing | recovery | comfort | standby
  deriving DecidableEq, Repr

/-- Where the zone's air comes from (chapter 5). -/
inductive Source
  | off | fresh | recirculate | pressurize | purge
  deriving DecidableEq, Repr

/-- The eight fast inputs of the Input Unit (R103). -/
inductive FastInput
  | tempCab | tempDis | tempInt | smkInt | smkCab | tach | hallFrs | hallBld
  deriving DecidableEq, Repr

/-- The seven slow lines (R113), in the order of the pull-up enables (Table 12-1). -/
inductive SlowLine
  | door1 | door2 | ign | supplyOk | ocBlw | ocHtr | ocClu
  deriving DecidableEq, Repr

/-- The 24 conditions of Table 11-1. -/
inductive Condition
  | supplyLow | configDefault | configClamped | addressConflict | lineOff | lineDegraded | isolated | allowanceLost
  | coolingUnavailable | holderConflict | cabTempFault | dischargeTempFault | intakeTempFault | intakeSmokeFault
  | cabSmokeFault | blowerTrip | blowerStall | heaterTrip | clutchTrip | channelLocked | freshDamperStall
  | blendDamperStall | smokeHigh | purgeTimeout
  deriving DecidableEq, Repr

/-! ### Node Control (chapter 12) -/

/-- The node states of Table 12-2. -/
inductive NodeState
  | loading | listening | running | supplyLow | parking | sleep
  deriving DecidableEq, Repr

/-- Node Control: the latched straps, the node state and its four timers. `leaving` says that the wait of Parking has
ended and the leaving phase has begun (R159). -/
structure NodeControl where
  own : Node
  cfgm : Bool
  hold : Bool
  state : NodeState
  listening : Timer
  sleepDelay : Timer
  parking : Timer
  leavingTimer : Timer
  leaving : Bool
  deriving DecidableEq, Repr

/-- The binary figure of NODE0 to NODE2, NODE0 least significant (R153). -/
def strapNode (st : Straps) : Node :=
  match st.node2, st.node1, st.node0 with
  | false, false, false => 0
  | false, false, true => 1
  | false, true, false => 2
  | false, true, true => 3
  | true, false, false => 4
  | true, false, true => 5
  | true, true, false => 6
  | true, true, true => 7

/-- Node Control at cold start: the straps latched, the node in Loading (R153, R154, R159). -/
def NodeControl.cold (st : Straps) : NodeControl where
  own := strapNode st
  cfgm := st.cfgm
  hold := st.hold
  state := .loading
  listening := .stopped
  sleepDelay := .stopped
  parking := .stopped
  leavingTimer := .stopped
  leaving := false

/-! ### Records the controller sends (Tables 1-6 to 1-9) -/

/-- The content of a Demand record (Table 1-6). -/
structure Demand where
  cls : ZoneClass
  source : Source
  cooling : Bool
  airSpace : Nat
  leaving : Bool
  isolated : Bool
  holder : Bool
  clutch : Bool
  defrost : Bool
  smoke : Bool
  request : Nat
  take : Nat
  refresh : Nat
  deriving DecidableEq, Repr

/-- The content of a Status A record (Table 1-7); an Unavailable value is `none`. -/
structure StatusA where
  cabTemp : Option Int
  dischargeTemp : Option Int
  intakeTemp : Option Int
  intakeSmoke : Option Int
  cabSmoke : Option Int
  deriving DecidableEq, Repr

/-- The content of a Status B record (Table 1-8). -/
structure StatusB where
  take : Nat
  duty : Nat
  stages : Nat
  source : Source
  freshPercent : Nat
  blendPercent : Nat
  activeCount : Nat
  isolated : Bool
  degraded : Bool
  actingHolder : Bool
  defrost : Bool
  listenOnly : Bool
  overrideInForce : Bool
  deriving DecidableEq, Repr

/-- A record of the Status slot: one Status A or one Status B (R5). -/
inductive StatusFrame
  | a (c : StatusA)
  | b (c : StatusB)
  deriving DecidableEq, Repr

/-- The content of a Condition Report record (Table 1-9). -/
structure Report where
  latched : BitVec 24
  active : BitVec 24
  swallowed : Nat
  frozen : Bool
  pendingNotEmpty : Bool
  deriving DecidableEq, Repr

/-- A frame the controller has on the line. -/
inductive TxFrame
  | demand (c : Demand)
  | status (c : StatusFrame)
  | report (c : Report)
  deriving DecidableEq, Repr

/-- The offer in progress (R6, R7): the frame, whether a newer frame took its slot meanwhile (R5), and whether its
outcome counts as neither completion nor failure (R14). -/
structure OnLine where
  frame : TxFrame
  replaced : Bool
  void : Bool
  deriving DecidableEq, Repr

/-! ### Line Interface (chapter 1) -/

/-- The Line Interface: the three transmit slots, the transmitter, the fault counter and line state, the error window,
the silence timer and Isolated flag, the Listen-only state, and the Demand and Status timing. -/
structure LineInterface where
  demandSlot : Option Demand
  statusSlot : Option StatusFrame
  reportSlot : Option Report
  onLine : Option OnLine
  faultCounter : Nat
  lineOn : Bool
  lineOffTimer : Timer
  receivedCount : Nat
  erroneousCount : Nat
  degraded : Bool
  silence : Timer
  isolated : Bool
  listenOnly : Bool
  inhibit : Timer
  refresh : Timer
  lastDemand : Option Demand
  statusTimer : Timer
  statusBGuard : Timer
  aOwed : Bool
  bOwed : Bool
  bChangeOwed : Bool
  deriving DecidableEq, Repr

/-- The Line Interface at cold start (Table 1-10). -/
def LineInterface.cold : LineInterface where
  demandSlot := none
  statusSlot := none
  reportSlot := none
  onLine := none
  faultCounter := 0
  lineOn := true
  lineOffTimer := .stopped
  receivedCount := 0
  erroneousCount := 0
  degraded := false
  silence := .stopped
  isolated := false
  listenOnly := false
  inhibit := .stopped
  refresh := .stopped
  lastDemand := none
  statusTimer := .stopped
  statusBGuard := .expired
  aOwed := false
  bOwed := false
  bChangeOwed := false

/-! ### Peer Table and Allowance Store (chapter 2) -/

/-- How far a peer's content is trusted (Table 2-1; Empty is a slot without an entry). -/
inductive Freshness
  | fresh | aging | stale
  deriving DecidableEq, Repr

/-- The fields of a peer entry (Table 2-1). The age is held in microseconds. -/
structure PeerEntry where
  freshness : Freshness
  cls : ZoneClass
  request : Nat
  take : Nat
  isolated : Bool
  holder : Bool
  smoke : Bool
  source : Source
  cooling : Bool
  airSpace : Nat
  refresh : Nat
  age : Nat
  held : Option Nat
  deriving DecidableEq, Repr

/-- A slot of the Peer Table (R18). -/
inductive PeerSlot
  | own
  | empty
  | entry (e : PeerEntry)
  deriving DecidableEq, Repr

/-- The Peer Table: eight slots indexed by node (R18). -/
abbrev PeerTable := Vector PeerSlot 8

/-- The Peer Table with the own slot marked and every other slot Empty (R18, R25). -/
def coldPeers (own : Node) : PeerTable := (Vector.replicate 8 PeerSlot.empty).set own PeerSlot.own

/-- The states of the Allowance Store (R31). -/
inductive AllowanceState
  | awaiting | current | lost
  deriving DecidableEq, Repr

/-- The Allowance Store (R31). -/
structure AllowanceStore where
  allowance : Nat
  stage : Nat
  state : AllowanceState
  age : Timer
  deriving DecidableEq, Repr

/-- The Allowance Store at cold start (R31). -/
def AllowanceStore.cold : AllowanceStore where
  allowance := 0
  stage := 0
  state := .awaiting
  age := .stopped

/-! ### Share Unit (chapters 3 and 4) -/

/-- The take state (R52). -/
inductive TakeState
  | steady | announcing | announced
  deriving DecidableEq, Repr

/-- The Share Unit: the share timer, the own grant G, and the take register with T, A, Lc and the take state (R35,
R51). -/
structure ShareUnit where
  timer : Timer
  grant : Nat
  applied : Nat
  announced : Nat
  lastCompleted : Nat
  state : TakeState
  deriving DecidableEq, Repr

/-- The Share Unit at cold start (R35, R51). -/
def ShareUnit.cold : ShareUnit where
  timer := .stopped
  grant := 0
  applied := 0
  announced := 0
  lastCompleted := 0
  state := .steady

/-! ### Air Unit (chapters 5, 6 and 10) -/

/-- The fan request of the zone settings (R143). -/
inductive FanRequest
  | auto
  | level (k : Nat)
  | off
  deriving DecidableEq, Repr

/-- The mode request of the zone settings (R143). -/
inductive ModeRequest
  | auto | defrost | recirculate | off
  deriving DecidableEq, Repr

/-- The override set: the value of each forced field, `none` where the field is not forced (R144, Table 10-1). A
forced fresh damper is `some true` when forced open. -/
structure Overrides where
  level : Option Nat
  stages : Option Nat
  fresh : Option Bool
  blend : Option Nat
  deriving DecidableEq, Repr

/-- The empty override set. -/
def Overrides.none : Overrides where
  level := .none
  stages := .none
  fresh := .none
  blend := .none

/-- The Air Unit. The change and rise timers of R89 are held in milliseconds, `none` while stopped. `baseCounted` and
`recircCause` are the judgements of the last air expiry that R100 and R84 read later. -/
structure AirUnit where
  timer : Timer
  target : Nat
  fan : FanRequest
  mode : ModeRequest
  overrides : Overrides
  overrideLife : Nat
  overrideTimer : Timer
  source : Source
  smokeHigh : Bool
  defrost : Bool
  recircCause : Bool
  cls : ZoneClass
  clearingHold : Nat
  ownClear : Nat
  leadSet : List Node
  purgeSeen : List Node
  boost : Timer
  purge : Timer
  lockout : Timer
  freshTarget : Nat
  dischargeTarget : Int
  blend : Nat
  heaterWant : Nat
  changeTimer : Option Nat
  riseTimer : Option Nat
  level : Nat
  wantedDuty : Nat
  cooling : Bool
  actingHolder : Bool
  clutchWant : Bool
  clutchCall : Bool
  minOn : Timer
  minOff : Timer
  baseCounted : Bool
  request : Nat
  deriving DecidableEq, Repr

/-- The Air Unit at cold start (R67, R84, R87 to R101, R143, R146). The target and the discharge target are the default target
of the configuration in force. DEDUCED: `baseCounted` and `recircCause` (log entry 22). -/
def AirUnit.cold (p : Params) : AirUnit where
  timer := .stopped
  target := p.defaultTarget
  fan := .auto
  mode := .auto
  overrides := Overrides.none
  overrideLife := 0
  overrideTimer := .stopped
  source := .off
  smokeHigh := false
  defrost := false
  recircCause := false
  cls := .standby
  clearingHold := 0
  ownClear := 0
  leadSet := []
  purgeSeen := []
  boost := .stopped
  purge := .stopped
  lockout := .stopped
  freshTarget := 0
  dischargeTarget := p.defaultTarget
  blend := 500
  heaterWant := 0
  changeTimer := none
  riseTimer := none
  level := 0
  wantedDuty := 0
  cooling := false
  actingHolder := false
  clutchWant := false
  clutchCall := false
  minOn := .stopped
  minOff := .stopped
  baseCounted := true
  request := 0

/-! ### Input Unit (chapter 7) -/

/-- The debouncing of one input: the last sample taken and the accepted level, `none` before the first (R103, R113). -/
structure Sampler where
  last : Option Bool
  accepted : Option Bool
  deriving DecidableEq, Repr

/-- An input nothing has been sampled from yet. -/
def Sampler.cold : Sampler where
  last := none
  accepted := none

/-- What the outside holds at a slow line's pin: the level it drives, `none` where nothing drives the line, and the level the
wiring leaves an undriven line at while its pull-up is disabled (R115). -/
structure SlowPin where
  driven : Option Bool
  wiring : Bool
  deriving DecidableEq, Repr

/-- What the outside holds at the part's inputs, high is `true` (Table 12-3): the level of each fast input, and each slow
line's pin. -/
structure Pins where
  tempCab : Bool
  tempDis : Bool
  tempInt : Bool
  smkInt : Bool
  smkCab : Bool
  tach : Bool
  hallFrs : Bool
  hallBld : Bool
  door1 : SlowPin
  door2 : SlowPin
  ign : SlowPin
  supplyOk : SlowPin
  ocBlw : SlowPin
  ocHtr : SlowPin
  ocClu : SlowPin
  deriving DecidableEq, Repr

/-- Every fast input low and every slow line at its inactive level (R113): both doors open, which leaves their lines undriven,
and ignition off, supply good and no over-current, each driven. DESIGN CHOICE (log entry 5). -/
def Pins.inactive : Pins where
  tempCab := false
  tempDis := false
  tempInt := false
  smkInt := false
  smkCab := false
  tach := false
  hallFrs := false
  hallBld := false
  door1 := ⟨none, true⟩
  door2 := ⟨none, true⟩
  ign := ⟨some false, false⟩
  supplyOk := ⟨some true, true⟩
  ocBlw := ⟨some false, false⟩
  ocHtr := ⟨some false, false⟩
  ocClu := ⟨some false, false⟩

/-- The samplers of the eight fast inputs (R103). -/
structure FastSamplers where
  tempCab : Sampler
  tempDis : Sampler
  tempInt : Sampler
  smkInt : Sampler
  smkCab : Sampler
  tach : Sampler
  hallFrs : Sampler
  hallBld : Sampler
  deriving DecidableEq, Repr

/-- The samplers of the seven slow lines (R113). -/
structure SlowSamplers where
  door1 : Sampler
  door2 : Sampler
  ign : Sampler
  supplyOk : Sampler
  ocBlw : Sampler
  ocHtr : Sampler
  ocClu : Sampler
  deriving DecidableEq, Repr

/-- The sample in progress on a sensor input (R105, R107): none, begun at a rising edge's capture value, or (on a
temperature input) begun and fallen. -/
inductive Sample
  | none
  | begun (rise : BitVec 16)
  | fallen (rise fall : BitVec 16)
  deriving DecidableEq, Repr

/-- A sensor input with its entry of the measurement table: the sample in progress, the edge timeout, the sum and the
count of the open window, the value, the missed count and the fault flag (R104, R108, R109). -/
structure SensorEntry where
  sample : Sample
  edgeTimeout : Timer
  sum : Int
  count : Nat
  value : Option Int
  missed : Nat
  fault : Bool
  deriving DecidableEq, Repr

/-- A sensor entry at cold start (R109), its edge timeout running from reset release (R116, Table 7-5). -/
def SensorEntry.cold : SensorEntry where
  sample := .none
  edgeTimeout := .running 0
  sum := 0
  count := 0
  value := none
  missed := 0
  fault := false

/-- The five sensor entries of the measurement table (Table 7-3). -/
structure SensorTable where
  cabTemp : SensorEntry
  dischargeTemp : SensorEntry
  intakeTemp : SensorEntry
  intakeSmoke : SensorEntry
  cabSmoke : SensorEntry
  deriving DecidableEq, Repr

/-- The Input Unit: the pins and their samplers, the capture timer, the 10 ms sampling count, the window timer, the
measurement table with the tach count and value, and the pull-up settings. -/
structure InputUnit where
  pins : Pins
  fast : FastSamplers
  slow : SlowSamplers
  captureTimer : BitVec 16
  slowCount : Nat
  windowTimer : Timer
  sensors : SensorTable
  tachCount : Nat
  tachValue : Option Nat
  pullUps : BitVec 7
  deriving DecidableEq, Repr

/-- The Input Unit at cold start, the pins as the outside holds them (R103, R109, R111, R113, R115). DESIGN CHOICE: the capture
timer at 0 (log entry 10); the samplers and counts (log entry 38). -/
def InputUnit.cold (pins : Pins) : InputUnit where
  pins := pins
  fast := ⟨.cold, .cold, .cold, .cold, .cold, .cold, .cold, .cold⟩
  slow := ⟨.cold, .cold, .cold, .cold, .cold, .cold, .cold⟩
  captureTimer := 0
  slowCount := 0
  windowTimer := .stopped
  sensors := ⟨.cold, .cold, .cold, .cold, .cold⟩
  tachCount := 0
  tachValue := none
  pullUps := 0b0000011#7

/-! ### Drive Unit (chapters 8 and 9) -/

/-- The Output Plan (R98). -/
structure Plan where
  held : Bool
  clutch : Bool
  duty : Nat
  stages : Nat
  deriving DecidableEq, Repr

/-- The plan at cold start: dampers held, all off (R100, R119). -/
def Plan.cold : Plan where
  held := true
  clutch := false
  duty := 0
  stages := 0

/-- The channel states of Table 8-1. -/
inductive ChannelState
  | disabled | off | starting | running | tripped | cooldown | locked
  deriving DecidableEq, Repr

/-- What every output channel holds (R118): its state, its trip count, and its clean-run and cooldown timers. -/
structure OutputChannel where
  state : ChannelState
  trips : Nat
  cleanRun : Timer
  cooldown : Timer
  deriving DecidableEq, Repr

/-- A channel at cold start: Off when fitted, else Disabled (R118). -/
def OutputChannel.cold (fitted : Bool) : OutputChannel where
  state := if fitted then .off else .disabled
  trips := 0
  cleanRun := .stopped
  cooldown := .stopped

/-- The direction a damper is driven (Table 9-1). -/
inductive Direction
  | towardZero | towardFull
  deriving DecidableEq, Repr

/-- The actuator states of Table 9-1. -/
inductive ActuatorState
  | unhomed | homing | idle | moving | reversing | held | stalled | failed
  deriving DecidableEq, Repr

/-- The resume state kept in Held (Table 9-1). -/
inductive Resume
  | homing | moving | reversing | idle
  deriving DecidableEq, Repr

/-- A damper actuator (Table 9-1). -/
structure Actuator where
  state : ActuatorState
  position : Nat
  target : Nat
  drive : Option Direction
  last : Direction
  resume : Option Resume
  stalls : Nat
  stallTimer : Timer
  coast : Timer
  reversal : Timer
  homing : Timer
  retry : Timer
  deriving DecidableEq, Repr

/-- An actuator at cold start (R131). -/
def Actuator.cold : Actuator where
  state := .unhomed
  position := 0
  target := 0
  drive := none
  last := .towardZero
  resume := none
  stalls := 0
  stallTimer := .stopped
  coast := .stopped
  reversal := .stopped
  homing := .stopped
  retry := .stopped

/-- The PWM generator (R120): how far its present cycle has run, in thousandths of a cycle, and the duty figure the cycle is
made on. DESIGN CHOICE (log entry 26). -/
structure PwmGenerator where
  phase : Nat
  figure : Nat
  deriving DecidableEq, Repr

/-- The Drive Unit: the plan in force, the three channels, the blower's duty figure with its ramp and stall timers and
PWM generator, the heater group's stages driven, and the two actuators. -/
structure DriveUnit where
  plan : Plan
  blower : OutputChannel
  heater : OutputChannel
  clutch : OutputChannel
  duty : Nat
  ramp : Timer
  stall : Timer
  pwm : PwmGenerator
  stages : Nat
  fresh : Actuator
  blend : Actuator
  deriving DecidableEq, Repr

/-- The Drive Unit at cold start: heater group and clutch Disabled where not fitted (R118, R119, R131). -/
def DriveUnit.cold (heaterFitted clutchFitted : Bool) : DriveUnit where
  plan := Plan.cold
  blower := OutputChannel.cold true
  heater := OutputChannel.cold heaterFitted
  clutch := OutputChannel.cold clutchFitted
  duty := 0
  ramp := .stopped
  stall := .stopped
  pwm := ⟨0, 0⟩
  stages := 0
  fresh := Actuator.cold
  blend := Actuator.cold

/-! ### Condition Unit (chapter 11) -/

/-- The Condition Unit: the active, latched and pending sets (bit k is condition k + 1), the report mask, the frozen
flag, the auto-release timer and the swallowed count (R147). -/
structure ConditionUnit where
  active : BitVec 24
  latched : BitVec 24
  pending : BitVec 24
  mask : BitVec 24
  frozen : Bool
  autoRelease : Timer
  swallowed : Nat
  deriving DecidableEq, Repr

/-- The Condition Unit at cold start, with the report mask of the configuration in force (R147). -/
def ConditionUnit.cold (mask : BitVec 24) : ConditionUnit where
  active := 0
  latched := 0
  pending := 0
  mask := mask
  frozen := false
  autoRelease := .stopped
  swallowed := 0

end Sys2Proof.Machine
end

