-- ==== Sys2Proof/Machine/State.lean ====
section
/-! DEFINITION. The state of the part: its eight blocks (Table 0-1), the configuration in force, the queue of commands
that are waiting, and the model's own counter of free choices. -/

namespace Sys2Proof.Machine

/-- Why the machine stops with a fault: never. Every rule of the manual gives an effect, so no command faults, and the
type has no constructor. -/
inductive Fault
  deriving DecidableEq, Repr

/-- Why a command is refused. -/
inductive Refusal
  /-- Raised by an arm of `exec` whose command has no meaning yet; no arm is of this kind. Safe: the machine stops. -/
  | notModelled (mnemonic : String)
  deriving DecidableEq, Repr

/-- The state of the part. `pending` is the queue of commands that are waiting, first in, first out. `choices` is the
model's own field: how many free choices between due events have been made (log entry 4). -/
structure State where
  params : Params
  node : NodeControl
  line : LineInterface
  peers : PeerTable
  allowance : AllowanceStore
  share : ShareUnit
  air : AirUnit
  input : InputUnit
  drive : DriveUnit
  cond : ConditionUnit
  pending : List Instr
  choices : Nat
  deriving DecidableEq, Repr

/-- Every block at its cold-start values, with the straps latched and the configuration at its defaults until the end of Loading
(R153; log entry 6). DEDUCED (log entry 6); the values the manual gives none for are a DESIGN CHOICE (log entry 38). -/
def State.cold (st : Straps) (pins : Pins) (pending : List Instr) (choices : Nat) : State where
  params := defaultParams
  node := NodeControl.cold st
  line := LineInterface.cold
  peers := coldPeers (strapNode st)
  allowance := AllowanceStore.cold
  share := ShareUnit.cold
  air := AirUnit.cold defaultParams
  input := InputUnit.cold pins
  drive := DriveUnit.cold (decide (0 < defaultParams.stagesFitted)) st.hold
  cond := ConditionUnit.cold defaultParams.reportMask
  pending := pending
  choices := choices

/-- The machine right after reset release: a cold start (R153) with every strap low and every input pin at its inactive level,
which is the model's choice since the manual leaves the pins to the outside (log entry 5). DESIGN CHOICE. -/
def State.reset : State := State.cold ⟨false, false, false, false, false⟩ Pins.inactive [] 0

end Sys2Proof.Machine
end

