-- ==== Sys2Proof/Machine/Ops.lean ====
section
/-! DEFINITION. The named operations every block is written over: timers, the update of one block of the state, the
selectors of like things, and what each node state lets the line do. -/

namespace Sys2Proof.Machine

/-! ### Timers -/

/-- A timer restarted at a stated event (section 0.8). -/
def Timer.start : Timer := .running 0

/-- The timer runs. DESIGN CHOICE: an expiry command is taken whenever its timer runs, whatever the count (log entry 2), and a
command naming an event the state rules out changes nothing (log entry 3). -/
def Timer.isRunning : Timer → Bool
  | .running _ => true
  | .stopped => false
  | .expired => false

/-- The timer one microsecond later. -/
def Timer.tick : Timer → Timer
  | .running us => .running (us + 1)
  | .stopped => .stopped
  | .expired => .expired

/-- The timer has reached its limit of `limit` microseconds. -/
def Timer.due (limit : Nat) : Timer → Bool
  | .running us => decide (limit ≤ us)
  | .stopped => false
  | .expired => false

/-- The timer runs and has not reached its limit of `limit` microseconds. -/
def Timer.runsBelow (limit : Nat) (t : Timer) : Bool := t.isRunning && !t.due limit

/-- Milliseconds as microseconds. -/
def ms (n : Nat) : Nat := 1000 * n

/-- Seconds as microseconds. -/
def seconds (n : Nat) : Nat := 1000000 * n

/-! ### Updating one block -/

/-- Update Node Control alone. -/
def State.mapNode (f : NodeControl → NodeControl) (s : State) : State := { s with node := f s.node }
/-- Update the Line Interface alone. -/
def State.mapLine (f : LineInterface → LineInterface) (s : State) : State := { s with line := f s.line }
/-- Update the Peer Table alone. -/
def State.mapPeers (f : PeerTable → PeerTable) (s : State) : State := { s with peers := f s.peers }
/-- Update the Allowance Store alone. -/
def State.mapAllowance (f : AllowanceStore → AllowanceStore) (s : State) : State := { s with allowance := f s.allowance }
/-- Update the Share Unit alone. -/
def State.mapShare (f : ShareUnit → ShareUnit) (s : State) : State := { s with share := f s.share }
/-- Update the Air Unit alone. -/
def State.mapAir (f : AirUnit → AirUnit) (s : State) : State := { s with air := f s.air }
/-- Update the Input Unit alone. -/
def State.mapInput (f : InputUnit → InputUnit) (s : State) : State := { s with input := f s.input }
/-- Update the Drive Unit alone. -/
def State.mapDrive (f : DriveUnit → DriveUnit) (s : State) : State := { s with drive := f s.drive }
/-- Update the Condition Unit alone. -/
def State.mapCond (f : ConditionUnit → ConditionUnit) (s : State) : State := { s with cond := f s.cond }

/-- Apply `f` when `b` holds, and leave the state alone otherwise. -/
def State.when (b : Bool) (f : State → State) (s : State) : State := if b then f s else s

/-! ### Selectors -/

/-- The entry of a sensor. -/
def SensorTable.get (t : SensorTable) : Sensor → SensorEntry
  | .cabTemp => t.cabTemp
  | .dischargeTemp => t.dischargeTemp
  | .intakeTemp => t.intakeTemp
  | .intakeSmoke => t.intakeSmoke
  | .cabSmoke => t.cabSmoke

/-- Replace the entry of a sensor. -/
def SensorTable.set (t : SensorTable) (e : SensorEntry) : Sensor → SensorTable
  | .cabTemp => { t with cabTemp := e }
  | .dischargeTemp => { t with dischargeTemp := e }
  | .intakeTemp => { t with intakeTemp := e }
  | .intakeSmoke => { t with intakeSmoke := e }
  | .cabSmoke => { t with cabSmoke := e }

/-- The level of a fast input's pin. -/
def Pins.fast (p : Pins) : FastInput → Bool
  | .tempCab => p.tempCab
  | .tempDis => p.tempDis
  | .tempInt => p.tempInt
  | .smkInt => p.smkInt
  | .smkCab => p.smkCab
  | .tach => p.tach
  | .hallFrs => p.hallFrs
  | .hallBld => p.hallBld

/-- Set the level of a fast input's pin. -/
def Pins.setFast (p : Pins) (level : Bool) : FastInput → Pins
  | .tempCab => { p with tempCab := level }
  | .tempDis => { p with tempDis := level }
  | .tempInt => { p with tempInt := level }
  | .smkInt => { p with smkInt := level }
  | .smkCab => { p with smkCab := level }
  | .tach => { p with tach := level }
  | .hallFrs => { p with hallFrs := level }
  | .hallBld => { p with hallBld := level }

/-- The sampler of a fast input. -/
def FastSamplers.get (t : FastSamplers) : FastInput → Sampler
  | .tempCab => t.tempCab
  | .tempDis => t.tempDis
  | .tempInt => t.tempInt
  | .smkInt => t.smkInt
  | .smkCab => t.smkCab
  | .tach => t.tach
  | .hallFrs => t.hallFrs
  | .hallBld => t.hallBld

/-- Replace the sampler of a fast input. -/
def FastSamplers.set (t : FastSamplers) (x : Sampler) : FastInput → FastSamplers
  | .tempCab => { t with tempCab := x }
  | .tempDis => { t with tempDis := x }
  | .tempInt => { t with tempInt := x }
  | .smkInt => { t with smkInt := x }
  | .smkCab => { t with smkCab := x }
  | .tach => { t with tach := x }
  | .hallFrs => { t with hallFrs := x }
  | .hallBld => { t with hallBld := x }

/-- The pin of a slow line. -/
def Pins.slow (p : Pins) : SlowLine → SlowPin
  | .door1 => p.door1
  | .door2 => p.door2
  | .ign => p.ign
  | .supplyOk => p.supplyOk
  | .ocBlw => p.ocBlw
  | .ocHtr => p.ocHtr
  | .ocClu => p.ocClu

/-- Replace the pin of a slow line. -/
def Pins.setSlow (p : Pins) (x : SlowPin) : SlowLine → Pins
  | .door1 => { p with door1 := x }
  | .door2 => { p with door2 := x }
  | .ign => { p with ign := x }
  | .supplyOk => { p with supplyOk := x }
  | .ocBlw => { p with ocBlw := x }
  | .ocHtr => { p with ocHtr := x }
  | .ocClu => { p with ocClu := x }

/-- The sampler of a slow line. -/
def SlowSamplers.get (t : SlowSamplers) : SlowLine → Sampler
  | .door1 => t.door1
  | .door2 => t.door2
  | .ign => t.ign
  | .supplyOk => t.supplyOk
  | .ocBlw => t.ocBlw
  | .ocHtr => t.ocHtr
  | .ocClu => t.ocClu

/-- Replace the sampler of a slow line. -/
def SlowSamplers.set (t : SlowSamplers) (x : Sampler) : SlowLine → SlowSamplers
  | .door1 => { t with door1 := x }
  | .door2 => { t with door2 := x }
  | .ign => { t with ign := x }
  | .supplyOk => { t with supplyOk := x }
  | .ocBlw => { t with ocBlw := x }
  | .ocHtr => { t with ocHtr := x }
  | .ocClu => { t with ocClu := x }

/-- A channel of the Drive Unit. -/
def DriveUnit.channel (d : DriveUnit) : Channel → OutputChannel
  | .blower => d.blower
  | .heater => d.heater
  | .clutch => d.clutch

/-- Replace a channel of the Drive Unit. -/
def DriveUnit.setChannel (d : DriveUnit) (x : OutputChannel) : Channel → DriveUnit
  | .blower => { d with blower := x }
  | .heater => { d with heater := x }
  | .clutch => { d with clutch := x }

/-- An actuator of the Drive Unit. -/
def DriveUnit.actuator (d : DriveUnit) : Damper → Actuator
  | .fresh => d.fresh
  | .blend => d.blend

/-- Replace an actuator of the Drive Unit. -/
def DriveUnit.setActuator (d : DriveUnit) (x : Actuator) : Damper → DriveUnit
  | .fresh => { d with fresh := x }
  | .blend => { d with blend := x }

/-- The full travel of a damper (R131). -/
def Params.travel (p : Params) : Damper → Nat
  | .fresh => p.freshTravel
  | .blend => p.blendTravel

/-- A sensor is configured as fitted: bits 0 to 4 of the sensors-fitted flags (Table 12-1, R110). -/
def Params.fitted (p : Params) : Sensor → Bool
  | .cabTemp => p.sensorsFitted.getLsbD 0
  | .dischargeTemp => p.sensorsFitted.getLsbD 1
  | .intakeTemp => p.sensorsFitted.getLsbD 2
  | .intakeSmoke => p.sensorsFitted.getLsbD 3
  | .cabSmoke => p.sensorsFitted.getLsbD 4

/-- The tachometer is configured as fitted: bit 5 of the sensors-fitted flags (Table 12-1). -/
def Params.tachFitted (p : Params) : Bool := p.sensorsFitted.getLsbD 5

/-- The value of a sensor in the measurement table, `none` when Unavailable. -/
def State.reading (s : State) (x : Sensor) : Option Int := (s.input.sensors.get x).value

/-! ### Slow lines (R113, Table 7-4) -/

/-- The slow line of a door input. -/
def Door.line : Door → SlowLine
  | .door1 => .door1
  | .door2 => .door2

/-- The over-current line of a channel. -/
def Channel.line : Channel → SlowLine
  | .blower => .ocBlw
  | .heater => .ocHtr
  | .clutch => .ocClu

/-- The bit of a slow line among the pull-up enables (Table 12-1). -/
def SlowLine.pullUpBit : SlowLine → Nat
  | .door1 => 0
  | .door2 => 1
  | .ign => 2
  | .supplyOk => 3
  | .ocBlw => 4
  | .ocHtr => 5
  | .ocClu => 6

/-- The level a slow line's pin stands at: the level driven, and where nothing drives the line, high under an enabled pull-up and
the wiring's level under a disabled one (R115). -/
def SlowPin.level (pullUp : Bool) (p : SlowPin) : Bool :=
  match p.driven with
  | some level => level
  | none => pullUp || p.wiring

/-- The pin standing at this level: left as it is where it does so already, and otherwise driven to it. DESIGN CHOICE (log entry
9). -/
def SlowPin.showing (pullUp level : Bool) (p : SlowPin) : SlowPin :=
  if p.level pullUp = level then p else { p with driven := some level }

/-- The level of a slow line's pin under the pull-up settings in force (R115). -/
def State.slowPinLevel (s : State) (l : SlowLine) : Bool :=
  (s.input.pins.slow l).level (s.input.pullUps.getLsbD l.pullUpBit)

/-- The level a line reads before its first acceptance: its inactive level (R113). -/
def SlowLine.inactive : SlowLine → Bool
  | .door1 => true
  | .door2 => true
  | .ign => false
  | .supplyOk => true
  | .ocBlw => false
  | .ocHtr => false
  | .ocClu => false

/-- The accepted level of a slow line as the other blocks read it, high is `true` (R113). -/
def State.lineLevel (s : State) (l : SlowLine) : Bool := ((s.input.slow.get l).accepted).getD l.inactive

/-- The over-current line of a channel is accepted asserted. -/
def State.overCurrent (s : State) (c : Channel) : Bool := s.lineLevel c.line

/-- Accept a level on a slow line: the pin shows it, and the acceptance is the second of two samples that do (R113). -/
def State.accept (l : SlowLine) (level : Bool) (s : State) : State :=
  s.mapInput fun i =>
    { i with
      slow := i.slow.set ⟨some level, some level⟩ l
      pins := i.pins.setSlow ((i.pins.slow l).showing (i.pullUps.getLsbD l.pullUpBit) level) l }

/-- The acceptance of this level is an event: a level has been accepted before, and this is the other one (R113). -/
def State.accepts (s : State) (l : SlowLine) (level : Bool) : Bool :=
  decide ((s.input.slow.get l).accepted = some !level)

/-- The acceptance of a level that is no event: the first acceptance is taken silently, and a level already accepted is none
(R113). DEDUCED (log entry 24). -/
def State.acceptSilently (l : SlowLine) (level : Bool) (s : State) : State :=
  if (s.input.slow.get l).accepted = none then s.accept l level else s

/-! ### Fast inputs (R103, Table 7-1) -/

/-- Accept a level on a fast input: the pin shows it, and the acceptance is the second of two samples that do (R103). -/
def State.acceptFast (x : FastInput) (level : Bool) (s : State) : State :=
  s.mapInput fun i => { i with fast := i.fast.set ⟨some level, some level⟩ x, pins := i.pins.setFast level x }

/-- The falling edges of this input are no command: TACH and the hall inputs (R111, R112). -/
def FastInput.fallsUnseen : FastInput → Bool
  | .tempCab => false
  | .tempDis => false
  | .tempInt => false
  | .smkInt => false
  | .smkCab => false
  | .tach => true
  | .hallFrs => true
  | .hallBld => true

/-- The acceptance of this level is an edge: a level has been accepted before, and this is the other one (R103). DEDUCED: on
TACH and the hall inputs, whose falling edges are no command, a fall may have come between (log entry 24). -/
def State.acceptsEdge (s : State) (x : FastInput) (rising : Bool) : Bool :=
  match (s.input.fast.get x).accepted with
  | none => false
  | some old => decide (old ≠ rising) || x.fallsUnseen

/-- A new level on a fast input, with what its edge does: the first acceptance is no edge, and edges of one input alternate
(R103). DEDUCED (log entry 24). -/
def State.onEdge (x : FastInput) (rising : Bool) (f : State → State) (s : State) : State :=
  if s.acceptsEdge x rising then f (s.acceptFast x rising)
  else if (s.input.fast.get x).accepted = none then s.acceptFast x rising
  else s

/-- The fast input of a temperature sensor (Table 7-1). -/
def TempInput.line : TempInput → FastInput
  | .cab => .tempCab
  | .discharge => .tempDis
  | .intake => .tempInt

/-- The fast input of a smoke sensor (Table 7-1). -/
def SmokeInput.line : SmokeInput → FastInput
  | .intake => .smkInt
  | .cab => .smkCab

/-- The hall input of a damper (Table 7-1). -/
def Damper.line : Damper → FastInput
  | .fresh => .hallFrs
  | .blend => .hallBld

/-! ### What the node states let the line do (R15) -/

/-- The receiver takes in frames: from entry to Listening onward, and not in Sleep. -/
def NodeState.receives : NodeState → Bool
  | .loading => false
  | .listening => true
  | .running => true
  | .supplyLow => true
  | .parking => true
  | .sleep => false

/-- The transmitter and the Demand and Status timing work: Running, SupplyLow and Parking. -/
def NodeState.speaks : NodeState → Bool
  | .loading => false
  | .listening => false
  | .running => true
  | .supplyLow => true
  | .parking => true
  | .sleep => false

/-- The clutch output is driven (Table 8-1). -/
def State.clutchDriven (s : State) : Bool := decide (s.drive.clutch.state = .running)

/-- The Sleep state holds. -/
def State.asleep (s : State) : Bool := decide (s.node.state = .sleep)

end Sys2Proof.Machine
end

