-- ==== Sys2Proof/Machine/Flags.lean ====
section
/-! DEFINITION. The status flags of the part: the 24 conditions with their active, latched and pending sets (R147, R148),
the active count, and the mark the Status scheduler takes from each change of it (R9). -/

namespace Sys2Proof.Machine

/-- The place of a condition in a condition set: its number in Table 11-1, minus 1. -/
def Condition.bit : Condition → Nat
  | .supplyLow => 0
  | .configDefault => 1
  | .configClamped => 2
  | .addressConflict => 3
  | .lineOff => 4
  | .lineDegraded => 5
  | .isolated => 6
  | .allowanceLost => 7
  | .coolingUnavailable => 8
  | .holderConflict => 9
  | .cabTempFault => 10
  | .dischargeTempFault => 11
  | .intakeTempFault => 12
  | .intakeSmokeFault => 13
  | .cabSmokeFault => 14
  | .blowerTrip => 15
  | .blowerStall => 16
  | .heaterTrip => 17
  | .clutchTrip => 18
  | .channelLocked => 19
  | .freshDamperStall => 20
  | .blendDamperStall => 21
  | .smokeHigh => 22
  | .purgeTimeout => 23

/-- The set holding one condition alone. -/
def Condition.single (c : Condition) : BitVec 24 := 1#24 <<< c.bit

/-- The condition is in the set. -/
def inSet (x : BitVec 24) (c : Condition) : Bool := x.getLsbD c.bit

/-- The number of conditions in a set (R147). -/
def setCount (x : BitVec 24) : Nat := ((List.range 24).map fun i => (x.getLsbD i).toNat).sum

/-- What the Condition Unit does at an arising (R148), the condition having joined the active set (R147). -/
def ConditionUnit.arise (c : Condition) (u : ConditionUnit) : ConditionUnit :=
  let v := { u with active := u.active ||| c.single }
  if !inSet u.mask c then v
  else if !u.frozen then { v with latched := u.latched ||| c.single }
  else if !inSet u.pending c then { v with pending := u.pending ||| c.single }
  else { v with swallowed := min 255 (u.swallowed + 1) }

/-- A change of the active count is passed to the Status scheduler, which sets B change owed in the node states in which
it works (R9, R147). -/
def State.countChanged (s : State) : State :=
  if s.node.state.speaks then s.mapLine fun l => { l with bChangeOwed := true } else s

/-- A condition is made active by its owner: an arising if it was inactive, nothing otherwise (R147). -/
def State.raise (c : Condition) (s : State) : State :=
  if inSet s.cond.active c then s else (s.mapCond (ConditionUnit.arise c)).countChanged

/-- A condition is made inactive by its owner: it leaves the active set and no other (R147, R148). -/
def State.lower (c : Condition) (s : State) : State :=
  if inSet s.cond.active c then
    (s.mapCond fun u => { u with active := u.active &&& ~~~c.single }).countChanged
  else s

/-- A condition is active exactly while `b` holds. -/
def State.setCond (b : Bool) (c : Condition) (s : State) : State := if b then s.raise c else s.lower c

/-- The end of a freeze (R151): pending conditions are latched, the pending set and the swallowed count are cleared, the
frozen flag clears and the timer stops. A unit that is not frozen is left as it is. -/
def ConditionUnit.release (u : ConditionUnit) : ConditionUnit :=
  if u.frozen then
    { u with
      latched := u.latched ||| u.pending
      pending := 0
      swallowed := 0
      frozen := false
      autoRelease := .stopped }
  else u

/-- The removal of a listed set from the latched set (R150). -/
def ConditionUnit.clear (listed : BitVec 24) (u : ConditionUnit) : ConditionUnit :=
  { u with latched := u.latched &&& ~~~listed }

/-- The freeze made by a Condition Read (R149). -/
def ConditionUnit.freeze (u : ConditionUnit) : ConditionUnit := { u with frozen := true, autoRelease := Timer.start }

/-- The fault condition of a sensor (Table 7-3). -/
def Sensor.fault : Sensor → Condition
  | .cabTemp => .cabTempFault
  | .dischargeTemp => .dischargeTempFault
  | .intakeTemp => .intakeTempFault
  | .intakeSmoke => .intakeSmokeFault
  | .cabSmoke => .cabSmokeFault

/-- The stall condition of a damper (R134). -/
def Damper.stallCondition : Damper → Condition
  | .fresh => .freshDamperStall
  | .blend => .blendDamperStall

/-- The over-current trip condition of a channel (R124). -/
def Channel.tripCondition : Channel → Condition
  | .blower => .blowerTrip
  | .heater => .heaterTrip
  | .clutch => .clutchTrip

/-- The condition of a trip by its cause (R124, R125). -/
def TripCause.condition : TripCause → Channel → Condition
  | .overCurrent, c => c.tripCondition
  | .stall, _ => .blowerStall

end Sys2Proof.Machine
end

