-- ==== Sys2Proof/Machine/Channels.lean ====
section
/-! DEFINITION. The output channels (chapter 8): the taking up of the plan in force, the heater interlock, the reports of
the clutch output, trips, cooldown, locking and unlocking. -/

namespace Sys2Proof.Machine

/-! ### States and timers of a channel -/

/-- The channel is in Starting or Running: its output is driven (Table 8-1). -/
def OutputChannel.driving (c : OutputChannel) : Bool := decide (c.state = .starting) || decide (c.state = .running)

/-- The channel enters Running: its clean-run timer starts from 0 (R127). -/
def OutputChannel.run (c : OutputChannel) : OutputChannel :=
  if c.state = .running then c else { c with state := .running, cleanRun := Timer.start }

/-- The channel leaves its driven states for Off (R127). -/
def OutputChannel.turnOff (c : OutputChannel) : OutputChannel := { c with state := .off, cleanRun := .stopped }

/-- The channel at a trip: the count rises by 1, the third trip locks, and otherwise the channel waits in Tripped for its
line or goes straight to Cooldown (R124, R126, R127). -/
def OutputChannel.trip (asserted : Bool) (c : OutputChannel) : OutputChannel :=
  let trips := min 3 (c.trips + 1)
  if trips = 3 then { c with state := .locked, trips := trips, cleanRun := .stopped, cooldown := .stopped }
  else if asserted then { c with state := .tripped, trips := trips, cleanRun := .stopped, cooldown := .stopped }
  else { c with state := .cooldown, trips := trips, cleanRun := .stopped, cooldown := Timer.start }

/-- Some channel is Locked (R127). -/
def DriveUnit.anyLocked (d : DriveUnit) : Bool :=
  decide (d.blower.state = .locked) || decide (d.heater.state = .locked) || decide (d.clutch.state = .locked)

/-! ### The clutch reports (R95, R123) -/

/-- The clutch output goes from not driven to driven: the minimum-on timer starts. -/
def AirUnit.clutchEngaged (a : AirUnit) : AirUnit := { a with minOn := Timer.start }

/-- The clutch output goes from driven to not driven: the minimum-on timer stops and the minimum-off timer starts. -/
def AirUnit.clutchReleased (a : AirUnit) : AirUnit := { a with minOn := .stopped, minOff := Timer.start }

/-! ### Trips (R124, R125) -/

/-- The output of a channel goes off at once: the blower's duty figure becomes 0 with its generator low and its ramp and
stall timers stopped, the heater's stages become 0, the clutch output is released. -/
def DriveUnit.outputOff (d : DriveUnit) : Channel → DriveUnit
  | .blower => { d with duty := 0, ramp := .stopped, stall := .stopped, pwm := { d.pwm with figure := 0 } }
  | .heater => { d with stages := 0 }
  | .clutch => d

/-- A trip of one channel by a cause, without what the heater interlock makes of it. -/
def State.tripChannel (c : Channel) (cause : TripCause) (s : State) : State :=
  let t := s.mapDrive fun d => (d.outputOff c).setChannel ((d.channel c).trip (s.overCurrent c)) c
  let u := (t.raise (cause.condition c)).when (decide ((t.drive.channel c).state = .locked)) (State.raise .channelLocked)
  u.when (decide (c = .clutch) && s.clutchDriven) (State.mapAir AirUnit.clutchReleased)

/-! ### Taking up the plan in force -/

/-- The blower in Starting or Running takes up a plan duty above 0 (R121). DESIGN CHOICE: a plan that cuts the figure stops the ramp
timer, so that a later higher plan starts it from 0 (log entry 48). -/
def DriveUnit.blowerFollows (d : DriveUnit) : DriveUnit :=
  if d.plan.duty ≤ d.duty then { d with duty := d.plan.duty, ramp := .stopped, blower := d.blower.run }
  else { d with ramp := if d.ramp.isRunning then d.ramp else Timer.start }

/-- The blower leaves Off for a plan duty above 0 (R121). -/
def DriveUnit.blowerStarts (minDuty : Nat) (d : DriveUnit) : DriveUnit :=
  if minDuty = d.plan.duty then { d with duty := minDuty, blower := d.blower.run }
  else { d with duty := minDuty, ramp := Timer.start, blower := { d.blower with state := .starting } }

/-- The blower goes Off under a plan duty of 0 (R121, R125, R127). -/
def DriveUnit.blowerStops (d : DriveUnit) : DriveUnit :=
  { d with duty := 0, ramp := .stopped, stall := .stopped, blower := d.blower.turnOff }

/-- The blower takes up the plan in force (R121, R124). -/
def State.blowerTakesPlan (s : State) : State :=
  match s.drive.blower.state with
  | .off =>
    if s.drive.plan.duty = 0 then s
    else if s.overCurrent .blower then s.tripChannel .blower .overCurrent
    else s.mapDrive (DriveUnit.blowerStarts s.params.minDuty)
  | .starting => s.mapDrive fun d => if d.plan.duty = 0 then d.blowerStops else d.blowerFollows
  | .running => s.mapDrive fun d => if d.plan.duty = 0 then d.blowerStops else d.blowerFollows
  | .disabled => s
  | .tripped => s
  | .cooldown => s
  | .locked => s

/-- The heater interlock permits stages (R122). -/
def State.interlockPermits (s : State) : Bool :=
  s.drive.blower.driving && decide (s.params.minDuty ≤ s.drive.duty) &&
    (decide (s.drive.heater.state = .off) || decide (s.drive.heater.state = .running))

/-- The stages driven are settled (R122, R124). -/
def State.settleHeater (s : State) : State :=
  let n := if s.interlockPermits then s.drive.plan.stages else 0
  match s.drive.heater.state with
  | .off =>
    if n = 0 then s
    else if s.overCurrent .heater then s.tripChannel .heater .overCurrent
    else s.mapDrive fun d => { d with stages := n, heater := d.heater.run }
  | .running =>
    if n = 0 then s.mapDrive fun d => { d with stages := 0, heater := d.heater.turnOff }
    else s.mapDrive fun d => { d with stages := n }
  | .disabled => s
  | .starting => s
  | .tripped => s
  | .cooldown => s
  | .locked => s

/-- The clutch takes up the plan in force (R123, R124). -/
def State.clutchTakesPlan (s : State) : State :=
  match s.drive.clutch.state with
  | .off =>
    if !s.drive.plan.clutch then s
    else if s.overCurrent .clutch then s.tripChannel .clutch .overCurrent
    else (s.mapDrive fun d => { d with clutch := d.clutch.run }).mapAir AirUnit.clutchEngaged
  | .running =>
    if s.drive.plan.clutch then s
    else (s.mapDrive fun d => { d with clutch := d.clutch.turnOff }).mapAir AirUnit.clutchReleased
  | .disabled => s
  | .starting => s
  | .tripped => s
  | .cooldown => s
  | .locked => s

/-- One channel takes up the plan in force, the heater stages settled after the blower (R119, R122). -/
def State.channelTakesPlan : Channel → State → State
  | .blower, s => s.blowerTakesPlan.settleHeater
  | .heater, s => s.settleHeater
  | .clutch, s => s.clutchTakesPlan

/-- Every channel takes up the plan in force (R119). -/
def State.channelsTakePlan (s : State) : State := s.blowerTakesPlan.settleHeater.clutchTakesPlan

/-- A trip of a channel with what the heater interlock makes of it (R122, R124). -/
def State.trip (c : Channel) (cause : TripCause) (s : State) : State := (s.tripChannel c cause).settleHeater

/-! ### After a trip -/

/-- The trip conditions of a channel become inactive (R126). -/
def State.endTrip : Channel → State → State
  | .blower, s => (s.lower .blowerTrip).lower .blowerStall
  | .heater, s => s.lower .heaterTrip
  | .clutch, s => s.lower .clutchTrip

/-- A channel enters Off from Cooldown or Locked and takes up the plan in force (R119, R126, R128). -/
def State.channelEntersOff (c : Channel) (s : State) : State :=
  let t := s.mapDrive fun d => d.setChannel { (d.channel c) with state := .off, cooldown := .stopped } c
  let u := t.endTrip c
  (u.when (!u.drive.anyLocked) (State.lower .channelLocked)).channelTakesPlan c

/-- A Tripped channel whose line clears goes to Cooldown (R126). -/
def OutputChannel.lineCleared (c : OutputChannel) : OutputChannel :=
  if c.state = .tripped then { c with state := .cooldown, cooldown := Timer.start } else c

/-- A Channel Unlock naming this channel (R128). -/
def State.unlockChannel (c : Channel) (s : State) : State :=
  if (s.drive.channel c).state = .locked then
    (s.mapDrive fun d => d.setChannel { (d.channel c) with trips := 0 } c).channelEntersOff c
  else s

/-- The blower ramp timer expires (R121): the figure rises by up to 10, and the channel is Running when it reaches the plan
duty. -/
def DriveUnit.rampExpired (d : DriveUnit) : DriveUnit :=
  let figure := min d.plan.duty (d.duty + 10)
  if figure < d.plan.duty then { d with duty := figure, ramp := Timer.start }
  else { d with duty := figure, ramp := .stopped, blower := d.blower.run }

/-- The tach value of a window close judges a stalled blower (R125). -/
def DriveUnit.judgeTach (rpm : Nat) (d : DriveUnit) : DriveUnit :=
  if d.blower.state = .running then
    if rpm < 300 then { d with stall := if d.stall.isRunning then d.stall else Timer.start }
    else { d with stall := .stopped }
  else d

end Sys2Proof.Machine
end

