-- ==== Sys2Proof/Machine/Dampers.lean ====
section
/-! DEFINITION. The damper actuators (chapter 9): one actuator's acts as functions on its own state, each with what becomes
of its stall condition, and their application to the state of the part. -/

namespace Sys2Proof.Machine

/-- What an act of an actuator makes: its new state, and whether its stall condition becomes active (`some true`), inactive
(`some false`) or is left as it is (`none`). -/
structure ActuatorStep where
  act : Actuator
  cond : Option Bool
  deriving DecidableEq, Repr

/-- An act that leaves the stall condition alone. -/
def Actuator.quietly (a : Actuator) : ActuatorStep := ⟨a, none⟩

/-! ### The drive, the estimate and the target -/

/-- The drive stopped less than 100 ms ago: an edge is a coasting edge (R132). -/
def Actuator.coasting (a : Actuator) : Bool := a.coast.runsBelow (ms 100)

/-- The magnitude of the target count minus p is at most the deadband of 2 counts (R131). -/
def Actuator.atTarget (a : Actuator) : Bool := decide (a.target ≤ a.position + 2) && decide (a.position ≤ a.target + 2)

/-- The actuator is Idle and p is at target (R135). -/
def Actuator.idleAtTarget (a : Actuator) : Bool := decide (a.state = .idle) && a.atTarget

/-- The direction from p to the target count (R135). -/
def Actuator.wanted (a : Actuator) : Direction := if a.position < a.target then .towardFull else .towardZero

/-- The drive stops: the run line is released, the coast timer starts and the stall timer stops (R131, R132). An actuator
whose drive is stopped is left as it is. -/
def Actuator.stopDrive (a : Actuator) : Actuator :=
  if a.drive.isSome then { a with drive := none, coast := Timer.start, stallTimer := .stopped } else a

/-- The drive starts in a direction: the coast timer stops and the stall timer starts (R132). -/
def Actuator.startDrive (d : Direction) (a : Actuator) : Actuator :=
  { a with drive := some d, last := d, coast := .stopped, stallTimer := Timer.start }

/-- p moves by one in a direction, within 0 to F (R132). -/
def Actuator.moved (travel : Nat) (d : Direction) (a : Actuator) : Actuator :=
  match d with
  | .towardZero => { a with position := a.position - 1 }
  | .towardFull => { a with position := if a.position < travel then a.position + 1 else a.position }

/-- The homing, reversal and retry timers stopped, the stall timer too (R139, R140). -/
def Actuator.timersStopped (a : Actuator) : Actuator :=
  { a with homing := .stopped, reversal := .stopped, retry := .stopped, stallTimer := .stopped }

/-! ### Idle and the start test (R135) -/

/-- The start test of an Idle actuator under a plan that holds or frees the dampers. No start test is made while the node
state is Sleep. -/
def Actuator.startTest (held asleep : Bool) (a : Actuator) : Actuator :=
  if asleep || a.atTarget then a
  else if held then { a with state := .held, resume := some .idle }
  else if a.wanted ≠ a.last ∧ a.coast.isRunning then { a with state := .reversing, reversal := Timer.start }
  else { a.startDrive a.wanted with state := .moving }

/-- An entry into Idle that is a completed move: the consecutive-stall count becomes 0, the stall condition becomes
inactive, and the start test is made (R135). -/
def Actuator.completedMove (held asleep : Bool) (a : Actuator) : ActuatorStep :=
  ⟨({ a with state := .idle, stalls := 0 } : Actuator).startTest held asleep, some false⟩

/-- An entry into Idle that is a completed move only when its start test finds p at target (R135). -/
def Actuator.idleAndTest (held asleep : Bool) (a : Actuator) : ActuatorStep :=
  if a.atTarget then a.completedMove held asleep
  else (({ a with state := .idle } : Actuator).startTest held asleep).quietly

/-- Entering Homing (R134). -/
def Actuator.enterHoming (a : Actuator) : Actuator :=
  { a.startDrive .towardZero with state := .homing, homing := Timer.start }

/-! ### Targets, edges and plans -/

/-- A handed target, 0 to 1000, converted to a count and taken by the actuator's state (R131, R135, R136). -/
def Actuator.handTarget (travel : Nat) (held asleep : Bool) (target : Nat) (a : Actuator) : ActuatorStep :=
  let count := target * travel / 1000
  if count = a.target then a.quietly
  else
    let b := { a with target := count }
    match b.state with
    | .idle => (b.startTest held asleep).quietly
    | .moving =>
      if b.atTarget then b.stopDrive.completedMove held asleep
      else if b.drive = some b.wanted then b.quietly
      else ({ b.stopDrive with state := .reversing, reversal := Timer.start } : Actuator).quietly
    | .unhomed => b.quietly
    | .homing => b.quietly
    | .reversing => b.quietly
    | .held => b.quietly
    | .stalled => b.quietly
    | .failed => b.quietly

/-- A hall edge event (R132, R135, R136). -/
def Actuator.edge (travel : Nat) (held asleep : Bool) (a : Actuator) : ActuatorStep :=
  match a.drive with
  | some d =>
    let b := { a.moved travel d with stallTimer := Timer.start }
    if b.state = .moving ∧ b.atTarget then b.stopDrive.completedMove held asleep else b.quietly
  | none =>
    if a.coasting then
      let b := a.moved travel a.last
      if b.state = .idle then (b.startTest held asleep).quietly else b.quietly
    else a.quietly

/-- Going to Held with a resume state: the drive stops and the homing, stall and reversal timers stop (R133). -/
def Actuator.hold (r : Resume) (a : Actuator) : Actuator :=
  { a.stopDrive with
    state := .held
    resume := some r
    homing := .stopped
    reversal := .stopped
    stallTimer := .stopped }

/-- Leaving Held under a freeing plan (R133). -/
def Actuator.resumed (asleep : Bool) (a : Actuator) : ActuatorStep :=
  let b := { a with resume := none }
  match a.resume with
  | some .homing => b.enterHoming.quietly
  | some .reversing => ({ b with state := .reversing, reversal := Timer.start } : Actuator).quietly
  | some .moving => b.idleAndTest false asleep
  | some .idle => b.idleAndTest false asleep
  | none => b.idleAndTest false asleep

/-- The dampers-held part of a handed plan (R133, R134). -/
def Actuator.takePlan (held asleep : Bool) (a : Actuator) : ActuatorStep :=
  if held then
    match a.state with
    | .homing => (a.hold .homing).quietly
    | .moving => (a.hold .moving).quietly
    | .reversing => (a.hold .reversing).quietly
    | .idle => (if a.atTarget then a else a.hold .idle).quietly
    | .unhomed => a.quietly
    | .held => a.quietly
    | .stalled => a.quietly
    | .failed => a.quietly
  else
    match a.state with
    | .held => a.resumed asleep
    | .unhomed => a.enterHoming.quietly
    | .homing => a.quietly
    | .idle => a.quietly
    | .moving => a.quietly
    | .reversing => a.quietly
    | .stalled => a.quietly
    | .failed => a.quietly

/-! ### Timers and requests -/

/-- The damper has found its closed or cold end: p becomes 0 as a completed move (R134, R137). -/
def Actuator.homed (held asleep : Bool) (a : Actuator) : ActuatorStep :=
  ({ a.stopDrive with position := 0, homing := .stopped } : Actuator).completedMove held asleep

/-- The expiry of the stall timer: a stall, taken by R134 in Homing and by R137 in Moving. -/
def Actuator.stall (travel : Nat) (held asleep : Bool) (a : Actuator) : ActuatorStep :=
  match a.state with
  | .homing => a.homed held asleep
  | .moving =>
    if a.drive = some .towardZero ∧ a.position ≤ travel / 20 then a.homed held asleep
    else if a.stalls = 0 then
      ⟨{ a.stopDrive with state := .stalled, stalls := 1, retry := Timer.start }, some true⟩
    else ({ a.stopDrive with state := .failed } : Actuator).quietly
  | .unhomed => a.quietly
  | .idle => a.quietly
  | .reversing => a.quietly
  | .held => a.quietly
  | .stalled => a.quietly
  | .failed => a.quietly

/-- The expiry of the homing timer: Failed, and the stall condition arises (R134). -/
def Actuator.homingExpired (a : Actuator) : ActuatorStep :=
  ⟨{ a.stopDrive with state := .failed, homing := .stopped }, some true⟩

/-- The expiry of the retry timer of a Stalled actuator (R133, R137). -/
def Actuator.retryExpired (held asleep : Bool) (a : Actuator) : ActuatorStep :=
  let b := { a with retry := .stopped }
  if held then ({ b with state := .held, resume := some .idle } : Actuator).quietly else b.idleAndTest held asleep

/-- The expiry of the reversal timer: Idle and the start test (R136). -/
def Actuator.reversalExpired (held asleep : Bool) (a : Actuator) : ActuatorStep :=
  ({ a with reversal := .stopped } : Actuator).idleAndTest held asleep

/-- The expiry of the coast timer (R132). -/
def Actuator.coastExpired (a : Actuator) : Actuator := { a with coast := .expired }

/-- A Rehome request, from whatever state (R139). -/
def Actuator.rehome (held : Bool) (a : Actuator) : ActuatorStep :=
  let b := { a.stopDrive.timersStopped with state := .unhomed, resume := none, stalls := 0 }
  ⟨if held then b else b.enterHoming, some false⟩

/-- The entry into Sleep (R140, Table 9-2). DEDUCED: the count becomes 0 in every state (log entry 21). -/
def Actuator.sleep (a : Actuator) : Actuator :=
  let b := { a.stopDrive.timersStopped with resume := none, stalls := 0 }
  match a.state with
  | .homing => { b with state := .idle }
  | .moving => { b with state := .idle }
  | .reversing => { b with state := .idle }
  | .held => { b with state := .idle }
  | .stalled => { b with state := .idle }
  | .idle => b
  | .unhomed => b
  | .failed => b

/-! ### Application to the part -/

/-- Put an actuator's act into the state, its stall condition raised or lowered with it (R138). -/
def State.applyActuator (x : Damper) (r : ActuatorStep) (s : State) : State :=
  let t := s.mapDrive fun d => d.setActuator r.act x
  match r.cond with
  | none => t
  | some b => t.setCond b x.stallCondition

/-- Hand a target to an actuator (R81, R88, R131). -/
def State.handTarget (x : Damper) (target : Nat) (s : State) : State :=
  s.applyActuator x ((s.drive.actuator x).handTarget (s.params.travel x) s.drive.plan.held s.asleep target)

/-- Hand the dampers-held part of the plan in force to an actuator (R133). -/
def State.actuatorTakesPlan (x : Damper) (s : State) : State :=
  s.applyActuator x ((s.drive.actuator x).takePlan s.drive.plan.held s.asleep)

end Sys2Proof.Machine
end

