-- ==== Sys2Proof/Machine/Operands.lean ====
section
/-! DEFINITION. The operands of the commands: the sorting of a received frame (R1, R2, Table 1-2), the fields of received
records (R3, Tables 1-3 to 1-6, R19, R31, R142 to R144), and the figures of a sensor sample (R105 to R107). -/

namespace Sys2Proof.Machine

/-! ### Sorting received frames -/

/-- What the sorting of Table 1-2 makes of a frame received without error. -/
inductive Sorted
  /-- Outside the Exchange (R1). -/
  | outside
  /-- A Demand, Status A or Status B frame bearing the own node number (R14). -/
  | conflict
  /-- A frame to be acted on whose data length is wrong (R2). -/
  | badLength
  /-- A frame Table 1-2 marks as ignored, or a Service frame with an unknown code. -/
  | ignored
  /-- An Allowance record. -/
  | allowance (b0 b1 b2 : Byte)
  /-- A peer's Demand record. -/
  | demand (sender : Node) (d : DemandBytes)
  /-- A Panel record for the own node. -/
  | panel (d : PanelBytes)
  /-- Service code 1. -/
  | conditionRead
  /-- Service code 2. -/
  | conditionClear (b1 b2 b3 : Byte)
  /-- Service code 3. -/
  | conditionRelease
  /-- Service code 4. -/
  | channelUnlock (b1 : Byte)
  /-- Service code 5. -/
  | rehome
  deriving DecidableEq, Repr

/-- The kind of a frame: its identifier divided by 16, floored (R1). -/
def Frame.kind (f : Frame) : Nat := f.ident / 16

/-- The node field of a frame: its identifier minus sixteen times its kind (R1). -/
def Frame.nodeField (f : Frame) : Nat := f.ident - 16 * f.kind

/-- The station a node field of 1 to 8 names. -/
def stationOf : Nat → Option Node
  | 1 => some 0
  | 2 => some 1
  | 3 => some 2
  | 4 => some 3
  | 5 => some 4
  | 6 => some 5
  | 7 => some 6
  | 8 => some 7
  | _ => none

/-- A Service frame addressed to the own node, sorted by its code and length (Table 1-2). -/
def sortService : List Byte → Sorted
  | [] => .badLength
  | code :: rest =>
    if code = 1 then (if rest = [] then .conditionRead else .badLength)
    else if code = 2 then
      match rest with
      | [b1, b2, b3] => .conditionClear b1 b2 b3
      | _ => .badLength
    else if code = 3 then (if rest = [] then .conditionRelease else .badLength)
    else if code = 4 then
      match rest with
      | [b1] => .channelUnlock b1
      | _ => .badLength
    else if code = 5 then (if rest = [] then .rehome else .badLength)
    else .ignored

/-- An Allowance frame by its length (Table 1-2). -/
def sortAllowance : List Byte → Sorted
  | [b0, b1, b2] => .allowance b0 b1 b2
  | _ => .badLength

/-- A Demand frame by its node field and, from a peer, its length (Table 1-2). -/
def sortDemand (own : Node) (field : Nat) (data : List Byte) : Sorted :=
  match stationOf field with
  | none => .ignored
  | some n =>
    if n = own then .conflict
    else
      match data with
      | [b0, b1, b2, b3, b4, b5, b6] => .demand n ⟨b0, b1, b2, b3, b4, b5, b6⟩
      | _ => .badLength

/-- A Panel frame by its node field and length (Table 1-2). -/
def sortPanel (own : Node) (field : Nat) (data : List Byte) : Sorted :=
  if stationOf field = some own then
    match data with
    | [b0, b1, b2, b3, b4, b5, b6, b7] => .panel ⟨b0, b1, b2, b3, b4, b5, b6, b7⟩
    | _ => .badLength
  else .ignored

/-- The sorting of a frame received without a receive error at the station `own` (R1, R2, Table 1-2). The address-conflict
test is made before the length is looked at. -/
def sortFrame (own : Node) (f : Frame) : Sorted :=
  if f.extended || f.remote then .outside
  else
    match f.kind with
    | 1 => sortAllowance f.data
    | 2 => sortDemand own f.nodeField f.data
    | 3 => sortPanel own f.nodeField f.data
    | 4 => if stationOf f.nodeField = some own then sortService f.data else .ignored
    | 5 => .ignored
    | 6 => if stationOf f.nodeField = some own then .conflict else .ignored
    | 7 => if stationOf f.nodeField = some own then .conflict else .ignored
    | _ => .outside

/-! ### Fields of received records -/

/-- A field of two bytes, most significant byte first (R3). -/
def twoBytes (hi lo : Byte) : Nat := 256 * hi.toNat + lo.toNat

/-- The class code of Table 1-6. -/
def ZoneClass.ofCode : Nat → ZoneClass
  | 0 => .clearing
  | 1 => .recovery
  | 2 => .comfort
  | _ => .standby

/-- The source code of Table 1-6; 5 to 7 are taken as Off on reception. -/
def Source.ofCode : Nat → Source
  | 1 => .fresh
  | 2 => .recirculate
  | 3 => .pressurize
  | 4 => .purge
  | _ => .off

/-- The leaving flag of a received Demand (Table 1-6: byte 1 bit 0). -/
def DemandBytes.leaving (d : DemandBytes) : Bool := d.b1.getLsbD 0

/-- The entry a Demand arrival without the leaving flag makes: its fields brought into range (R19), Fresh, with age 0 and
no held take (R20). -/
def DemandBytes.entry (d : DemandBytes) : PeerEntry where
  freshness := .fresh
  cls := ZoneClass.ofCode (d.b0.toNat % 4)
  request := min 600 (twoBytes d.b2 d.b3)
  take := min 600 (twoBytes d.b4 d.b5)
  isolated := d.b1.getLsbD 1
  holder := d.b1.getLsbD 2
  smoke := d.b1.getLsbD 5
  source := Source.ofCode (d.b0.toNat / 4 % 8)
  cooling := d.b0.getLsbD 5
  airSpace := d.b0.toNat / 64 + 1
  refresh := clampNat 5 20 d.b6.toNat
  age := 0
  held := none

/-- The target S of a Panel record: 100 + 5 × f, a field above 40 taken as 40 (R142). -/
def PanelBytes.target (d : PanelBytes) : Nat := 100 + 5 * min 40 d.b0.toNat

/-- The fan request of a Panel record; 9 to 14 are taken as Auto (R143). -/
def PanelBytes.fan (d : PanelBytes) : FanRequest :=
  let f := d.b1.toNat % 16
  if f = 15 then .off else if 1 ≤ f ∧ f ≤ 8 then .level f else .auto

/-- The mode request of a Panel record, `none` for 4 to 7, which are ignored (R143). -/
def PanelBytes.mode (d : PanelBytes) : Option ModeRequest :=
  match d.b1.toNat / 16 % 8 with
  | 0 => some .auto
  | 1 => some .defrost
  | 2 => some .recirculate
  | 3 => some .off
  | _ => none

/-- The override lifetime of a Panel record in seconds; 0 cancels (R144). -/
def PanelBytes.lifetime (d : PanelBytes) : Nat := d.b6.toNat

/-- The override set a Panel record describes: empty when its four flag bits are clear or its lifetime is 0 (R144). -/
def PanelBytes.overrides (d : PanelBytes) : Overrides :=
  if d.lifetime = 0 then Overrides.none
  else
    { level := if d.b2.getLsbD 0 then some (min 8 d.b3.toNat) else none
      stages := if d.b2.getLsbD 1 then some (min 4 (d.b4.toNat % 8)) else none
      fresh := if d.b2.getLsbD 2 then some (d.b4.getLsbD 7) else none
      blend := if d.b2.getLsbD 3 then some (min 100 d.b5.toNat) else none }

/-! ### Sensor samples -/

/-- The difference of two capture values, modulo 65 536 (R104). -/
def captureDiff (later earlier : BitVec 16) : Nat := (later - earlier).toNat

/-- A completed temperature sample is valid (R105). -/
def tempValid (h p : Nat) : Bool :=
  decide (500 ≤ p) && decide (p ≤ 8000) && decide (p ≤ 20 * h) && decide (20 * h ≤ 19 * p)

/-- The temperature of a valid sample: −400 plus the floor of 1650 × h / p (R106). -/
def tempOf (h p : Nat) : Int := -400 + (1650 * h / p : Nat)

/-- The density of a smoke sample by its pulse width, `none` when the sample is invalid (Table 7-2). -/
def densityOf (w : Nat) : Option Int :=
  if w < 50 then none
  else if w < 100 then some 0
  else if w ≤ 900 then some (((w - 100) * 1000 / 800 : Nat) : Int)
  else if w ≤ 950 then some 1000
  else none

/-- The measurement entry of a temperature input (Table 7-1). -/
def TempInput.sensor : TempInput → Sensor
  | .cab => .cabTemp
  | .discharge => .dischargeTemp
  | .intake => .intakeTemp

/-- The measurement entry of a smoke input (Table 7-1). -/
def SmokeInput.sensor : SmokeInput → Sensor
  | .intake => .intakeSmoke
  | .cab => .cabSmoke

end Sys2Proof.Machine
end

