-- ==== Sys2Proof/Machine/Peers.lean ====
section
/-! DEFINITION. The Peer Table's transitions (R20 to R25), the five views (R26 to R30), and the Allowance Store (R31 to
R34). -/

namespace Sys2Proof.Machine

/-! ### Entries -/

/-- The entry of a node, if its slot holds one. -/
def PeerTable.entryOf (t : PeerTable) (n : Node) : Option PeerEntry :=
  match t[n] with
  | .own => none
  | .empty => none
  | .entry e => some e

/-- A slot made Empty; the own slot keeps its marking (R18, R21). -/
def PeerSlot.cleared : PeerSlot → PeerSlot
  | .own => .own
  | .empty => .empty
  | .entry _ => .empty

/-- A Demand arrival from node `n`, not the own node (R20, R21). -/
def PeerTable.arrive (n : Node) (d : DemandBytes) (t : PeerTable) : PeerTable :=
  t.set n (if d.leaving then PeerSlot.empty else PeerSlot.entry d.entry)

/-- Every peer slot Empty (R25). -/
def PeerTable.emptied (t : PeerTable) : PeerTable := t.map PeerSlot.cleared

/-- Two refresh intervals of an entry, in microseconds (R22). -/
def PeerEntry.agingAt (e : PeerEntry) : Nat := ms (2 * e.refresh * 100)

/-- Four refresh intervals of an entry, in microseconds (R22). -/
def PeerEntry.staleAt (e : PeerEntry) : Nat := ms (4 * e.refresh * 100)

/-- An entry's hold limit in microseconds: the larger of the configured hold limit and four refresh intervals (R23). -/
def PeerEntry.holdAt (p : Params) (e : PeerEntry) : Nat := max (seconds p.holdLimit) e.staleAt

/-- A Fresh entry whose age reaches 2 × Rf becomes Aging (R22). DEDUCED: the age then stands at the threshold (log entry 32). -/
def PeerEntry.toAging (e : PeerEntry) : PeerEntry :=
  if e.freshness = .fresh then { e with freshness := .aging, age := e.agingAt } else e

/-- An Aging entry whose age reaches 4 × Rf becomes Stale with its announced take held (R22). DEDUCED: the age then stands at
the threshold (log entry 32). -/
def PeerEntry.toStale (e : PeerEntry) : PeerEntry :=
  if e.freshness = .aging then { e with freshness := .stale, age := e.staleAt, held := some e.take } else e

/-- A Stale entry whose age reaches its hold limit leaves the table (R23). -/
def PeerSlot.toForgotten : PeerSlot → PeerSlot
  | .own => .own
  | .empty => .empty
  | .entry e => if e.freshness = .stale then .empty else .entry e

/-- Change the entry of one slot, if it holds one. -/
def PeerSlot.mapEntry (f : PeerEntry → PeerEntry) : PeerSlot → PeerSlot
  | .own => .own
  | .empty => .empty
  | .entry e => .entry (f e)

/-! ### Views (R26 to R30) -/

/-- The entry is Fresh or Aging. -/
def PeerEntry.live (e : PeerEntry) : Bool := decide (e.freshness ≠ .stale)

/-- The nodes, in rising order, whose entry is Fresh or Aging and satisfies `q`. -/
def PeerTable.select (t : PeerTable) (q : PeerEntry → Bool) : List Node :=
  allNodes.filter fun n =>
    match t.entryOf n with
    | some e => e.live && q e
    | none => false

/-- A claim: a node number, a class and a request (R27). -/
structure Claim where
  node : Node
  cls : ZoneClass
  request : Nat
  deriving DecidableEq, Repr

/-- The claim of one node: the own node's from the Air Unit, a peer's from a Fresh or Aging entry without the isolated
flag (R27). -/
def claimOf (s : State) (n : Node) : Option Claim :=
  match s.peers[n] with
  | .own => some ⟨n, s.air.cls, s.air.request⟩
  | .empty => none
  | .entry e => if e.live && !e.isolated then some ⟨n, e.cls, e.request⟩ else none

/-- The four classes in falling priority. -/
def classOrder : List ZoneClass := [.clearing, .recovery, .comfort, .standby]

/-- The claims of the table in rising node number. -/
def claimsByNode (s : State) : List Claim := allNodes.filterMap (claimOf s)

/-- The claims list, ordered by class and within a class by rising node number (R27). -/
def claimsList (s : State) : List Claim :=
  classOrder.flatMap fun k => (claimsByNode s).filter fun c => decide (c.cls = k)

/-- What one slot contributes to the reserve: a Stale entry its held take, a Fresh or Aging entry with the isolated flag
its announced take (R28). -/
def PeerSlot.reserve : PeerSlot → Nat
  | .own => 0
  | .empty => 0
  | .entry e => if e.live then (if e.isolated then e.take else 0) else e.held.getD 0

/-- The reserve H (R28). -/
def reserve (s : State) : Nat := (allNodes.map fun n => (s.peers[n]).reserve).sum

/-- The air-space peers with source Purge (R29, R75). -/
def purgingPeers (s : State) : List Node :=
  s.peers.select fun e => decide (e.airSpace = s.params.airSpace) && decide (e.source = .purge)

/-- The air-space peers whose smoke flag is set (R29, R69). -/
def smokingPeers (s : State) : List Node :=
  s.peers.select fun e => decide (e.airSpace = s.params.airSpace) && e.smoke

/-- The cooling view (R30). -/
def coolingView (s : State) : List Node := s.peers.select fun e => e.cooling

/-- The holder view (R30). -/
def holderView (s : State) : List Node := s.peers.select fun e => e.holder

/-! ### Allowance Store -/

/-- An Allowance arrival: the two figures clamped and stored, the age restarted, the store Current (R31). -/
def AllowanceStore.arrive (b0 b1 b2 : Byte) (_ : AllowanceStore) : AllowanceStore where
  allowance := min 2000 (twoBytes b0 b1)
  stage := min 3 b2.toNat
  state := .current
  age := Timer.start

/-- The age reaches the allowance timeout (R32). -/
def AllowanceStore.timeout (a : AllowanceStore) : AllowanceStore := { a with state := .lost, age := .expired }

/-- The allowance in use W (R33). -/
def allowanceInUse (s : State) : Nat :=
  if s.allowance.state = .current then s.allowance.allowance else s.params.fallbackAllowance

/-- The shed stage in use s (R33). -/
def stageInUse (s : State) : Nat := if s.allowance.state = .current then s.allowance.stage else 0

end Sys2Proof.Machine
end

