-- ==== Sys2Proof/Machine/Share.lean ====
section
/-! DEFINITION. The share computation (R37 to R46) and the take register's acts on its own values (R53 to R65). -/

namespace Sys2Proof.Machine

/-! ### The division (R38 to R44) -/

/-- The shed stage strikes a class (Table 3-2). -/
def struck (stage : Nat) : ZoneClass → Bool
  | .clearing => false
  | .recovery => decide (3 ≤ stage)
  | .comfort => decide (2 ≤ stage)
  | .standby => decide (1 ≤ stage)

/-- The counted request of a claim (R38). -/
def counted (stage : Nat) (c : Claim) : Nat := if struck stage c.cls then 0 else c.request

/-- What one claim is allotted. -/
structure Allotment where
  node : Node
  amount : Nat
  deriving DecidableEq, Repr

/-- The class total Q of the claims of one class (R40). -/
def classTotal (stage : Nat) (cs : List Claim) : Nat := (cs.map (counted stage)).sum

/-- Serving the claims of one class from the pool: skipped (R40), served whole (R41) or divided (R42). The second part is
the pool left. -/
def serveClass (stage pool : Nat) (cs : List Claim) : List Allotment × Nat :=
  let q := classTotal stage cs
  if q = 0 then (cs.map fun c => ⟨c.node, 0⟩, pool)
  else if q ≤ pool then (cs.map fun c => ⟨c.node, counted stage c⟩, pool - q)
  else (cs.map fun c => ⟨c.node, counted stage c * pool / q⟩, 0)

/-- The pass over the classes in order (R40). -/
def divide (stage : Nat) (claims : List Claim) : List ZoneClass → Nat → List Allotment
  | [], _ => []
  | k :: ks, pool =>
    let r := serveClass stage pool (claims.filter fun c => decide (c.cls = k))
    r.1 ++ divide stage claims ks r.2

/-- The pool R (R39). -/
def poolOf (w h : Nat) : Nat := if h < w then w - h else 0

/-- The allotments of one shared computation (R37 to R43). -/
def allotments (s : State) : List Allotment :=
  divide (stageInUse s) (claimsList s) classOrder (poolOf (allowanceInUse s) (reserve s))

/-- The allotment of one node, 0 for a node without a claim. -/
def allottedTo (n : Node) : List Allotment → Nat
  | [] => 0
  | a :: as => if a.node = n then a.amount else allottedTo n as

/-- The own grant of the shared computation (R44). -/
def sharedGrant (s : State) : Nat := allottedTo s.node.own (allotments s)

/-- The isolated grant (R46). -/
def isolatedGrant (s : State) : Nat := min s.air.request s.params.isolatedCap

/-- The grant of a share expiry, by the Isolated flag as it stands (R36). -/
def grantOf (s : State) : Nat := if s.line.isolated then isolatedGrant s else sharedGrant s

/-! ### The take register (R53 to R65) -/

/-- The register Steady at a take (R52). -/
def ShareUnit.steadyAt (t : Nat) (u : ShareUnit) : ShareUnit :=
  { u with applied := t, announced := t, state := .steady }

/-- Beginning a raise from T, or standing Steady when the line is Off or the grant does not exceed T (R55). -/
def ShareUnit.beginRaise (step : Nat) (lineOn : Bool) (u : ShareUnit) : ShareUnit :=
  if u.applied < u.grant && lineOn then
    { u with announced := min u.grant (u.applied + step), state := .announcing }
  else u.steadyAt u.applied

/-- The register in Announcing at a grant not below T (R54, R57, R60). -/
def ShareUnit.reviseRaise (step : Nat) (lineOn : Bool) (u : ShareUnit) : ShareUnit :=
  if u.grant = u.applied then u.steadyAt u.applied
  else if u.grant < u.announced then { u with announced := u.grant }
  else if u.announced < u.grant && lineOn then { u with announced := min u.grant (u.applied + step) }
  else u

/-- The register at a share expiry taken with Isolated clear, the new grant in place (Table 4-1). -/
def ShareUnit.sharedTake (step : Nat) (lineOn : Bool) (u : ShareUnit) : ShareUnit :=
  if u.grant < u.applied then u.steadyAt u.grant
  else
    match u.state with
    | .steady => u.beginRaise step lineOn
    | .announcing => u.reviseRaise step lineOn
    | .announced => ({ u with applied := min u.announced u.grant } : ShareUnit).beginRaise step lineOn

/-- The register at a share expiry taken with the Isolated flag set (R61). -/
def ShareUnit.isolatedTake (u : ShareUnit) : ShareUnit := u.steadyAt u.grant

/-- The register at the setting of the Isolated flag (R62). -/
def ShareUnit.trimToCap (cap : Nat) (u : ShareUnit) : ShareUnit := u.steadyAt (min u.applied cap)

/-- The register at the clearing of the Isolated flag (R63). -/
def ShareUnit.trimToCompleted (u : ShareUnit) : ShareUnit := u.steadyAt (min u.applied u.lastCompleted)

/-- The register at a Demand completion carrying take `c` (R56). -/
def ShareUnit.complete (c : Nat) (u : ShareUnit) : ShareUnit :=
  { u with
    lastCompleted := c
    state := if u.state = .announcing ∧ u.announced ≤ c then .announced else u.state }

/-- The Share Unit at the leaving of Running (R35, R49, R65). -/
def ShareUnit.leave (u : ShareUnit) : ShareUnit := { u.steadyAt 0 with grant := 0, timer := .stopped }

/-- The share expiry on the Share Unit: the new grant, the take register's act, and the timer restarted (R35, R36, R50). -/
def ShareUnit.expiry (p : Params) (isolated lineOn : Bool) (g : Nat) (u : ShareUnit) : ShareUnit :=
  let v := { u with grant := g, timer := Timer.start }
  if isolated then v.isolatedTake else v.sharedTake p.raiseStep lineOn

end Sys2Proof.Machine
end

