-- ==== Sys2Proof/Machine/Plans.lean ====
section
/-! DEFINITION. The Output Plan: the split of the take (R98), the estimated current (R99), the handing of a plan to the
Drive Unit (R119), and the replan at a fall of the take (R64). -/

namespace Sys2Proof.Machine

/-- Division rounded toward plus infinity (section 0.8). -/
def ceilDiv (a b : Nat) : Nat := (a + b - 1) / b

/-- The current of the blower at a duty: the ceiling of blower full current × duty / 100 (R97, R99). -/
def blowerCurrent (p : Params) (duty : Nat) : Nat := ceilDiv (p.blowerFull * duty) 100

/-- Heater stages taken one at a time from a budget, at most `want`; the stages taken and the budget left (R98 step 4). -/
def takeStages (current : Nat) : Nat → Nat → Nat × Nat
  | 0, budget => (0, budget)
  | want + 1, budget =>
    if current ≤ budget then
      let r := takeStages current want (budget - current)
      (r.1 + 1, r.2)
    else (0, budget)

/-- The wants a plan is made from (R98, R100). -/
structure Wants where
  baseCounted : Bool
  clutchCall : Bool
  duty : Nat
  stages : Nat
  deriving DecidableEq, Repr

/-- The split (R98). -/
def split (p : Params) (take : Nat) (w : Wants) : Plan :=
  let free := w.baseCounted && decide (p.baseLoad ≤ take)
  let b1 := if free then take - p.baseLoad else take
  let clutch := w.clutchCall && decide (p.clutchCurrent ≤ b1)
  let b2 := if clutch then b1 - p.clutchCurrent else b1
  let m := blowerCurrent p p.minDuty
  if 0 < w.duty ∧ m ≤ b2 then
    let r := takeStages p.stageCurrent w.stages (b2 - m)
    { held := !free, clutch := clutch, duty := min w.duty (100 * (m + r.2) / p.blowerFull), stages := r.1 }
  else { held := !free, clutch := clutch, duty := 0, stages := 0 }

/-- The estimated current of a plan (R99). -/
def Plan.current (p : Params) (q : Plan) : Nat :=
  (if q.held then 0 else p.baseLoad) + (if q.clutch then p.clutchCurrent else 0) + blowerCurrent p q.duty +
    q.stages * p.stageCurrent

/-- The wants as they stand after the last air expiry, or as R101 left them (R100). -/
def State.wants (s : State) : Wants where
  baseCounted := s.air.baseCounted
  clutchCall := s.air.clutchCall
  duty := s.air.wantedDuty
  stages := s.air.heaterWant

/-- Hand a plan to the Drive Unit: it replaces the plan in force, the channels take it up, and the actuators take its
dampers-held part (R119, R133). -/
def State.handPlan (q : Plan) (s : State) : State :=
  (((s.mapDrive fun d => { d with plan := q }).channelsTakePlan).actuatorTakesPlan .fresh).actuatorTakesPlan .blend

/-- Make the Output Plan from the applied take as it stands and hand it (R98, R100). -/
def State.makePlan (s : State) : State := s.handPlan (split s.params s.share.applied s.wants)

/-- Change the take register; when the applied take fell, the Air Unit replans in the same event (R64). -/
def State.changeTake (f : ShareUnit → ShareUnit) (s : State) : State :=
  let t := s.mapShare f
  if t.share.applied < s.share.applied then t.makePlan else t

end Sys2Proof.Machine
end

