-- ==== Sys2Proof/Machine/Records.lean ====
section
/-! DEFINITION. The records the controller sends: how each is filled from the values the owning blocks hold (R4), its
identifier (R1) and its bytes (R3, Tables 1-6 to 1-9). -/

namespace Sys2Proof.Machine

/-! ### Filling -/

/-- The Demand as it would be filled now (R4). In the leaving phase the leaving flag is set and take and request are 0 (R159).
DEDUCED: the other fields stay those of the moment (log entry 29). -/
def demandContent (s : State) : Demand where
  cls := s.air.cls
  source := s.air.source
  cooling := s.air.cooling
  airSpace := s.params.airSpace
  leaving := s.node.leaving
  isolated := s.line.isolated
  holder := s.air.actingHolder
  clutch := s.clutchDriven
  defrost := s.air.defrost
  smoke := s.air.smokeHigh
  request := if s.node.leaving then 0 else s.air.request
  take := if s.node.leaving then 0 else max s.share.applied s.share.announced
  refresh := s.params.refreshInterval

/-- The Status A record as it would be filled now (R4). -/
def statusAContent (s : State) : StatusA where
  cabTemp := s.reading .cabTemp
  dischargeTemp := s.reading .dischargeTemp
  intakeTemp := s.reading .intakeTemp
  intakeSmoke := s.reading .intakeSmoke
  cabSmoke := s.reading .cabSmoke

/-- A damper position in whole percent: floor(p × 100 / F) (R4). -/
def damperPercent (p : Params) (x : Damper) (a : Actuator) : Nat := a.position * 100 / p.travel x

/-- The override set is not empty (R144). -/
def Overrides.inForce (o : Overrides) : Bool := decide (o ≠ Overrides.none)

/-- The Status B record as it would be filled now (R4). -/
def statusBContent (s : State) : StatusB where
  take := s.share.applied
  duty := s.drive.duty
  stages := s.drive.stages
  source := s.air.source
  freshPercent := damperPercent s.params .fresh s.drive.fresh
  blendPercent := damperPercent s.params .blend s.drive.blend
  activeCount := setCount s.cond.active
  isolated := s.line.isolated
  degraded := s.line.degraded
  actingHolder := s.air.actingHolder
  defrost := s.air.defrost
  listenOnly := s.line.listenOnly
  overrideInForce := s.air.overrides.inForce

/-- The Condition Report as it would be filled now (R149, Table 1-9). -/
def reportContent (s : State) : Report where
  latched := s.cond.latched
  active := s.cond.active
  swallowed := s.cond.swallowed
  frozen := s.cond.frozen
  pendingNotEmpty := decide (s.cond.pending ≠ 0)

/-! ### Identifiers and bytes -/

/-- The kind code of a frame the controller sends (Table 1-1). -/
def TxFrame.kind : TxFrame → Nat
  | .demand _ => 2
  | .report _ => 5
  | .status (.a _) => 6
  | .status (.b _) => 7

/-- The identifier of a frame the controller sends: sixteen times its kind code plus the own node number (R1). -/
def TxFrame.ident (own : Node) (f : TxFrame) : Nat := 16 * f.kind + nodeNumber own

/-- The class code of Table 1-6. -/
def ZoneClass.code : ZoneClass → Nat
  | .clearing => 0
  | .recovery => 1
  | .comfort => 2
  | .standby => 3

/-- The source code of Table 1-6. -/
def Source.code : Source → Nat
  | .off => 0
  | .fresh => 1
  | .recirculate => 2
  | .pressurize => 3
  | .purge => 4

/-- The most significant byte of a two-byte field. -/
def highByte (n : Nat) : Byte := BitVec.ofNat 8 (n / 256)

/-- The least significant byte of a field. -/
def lowByte (n : Nat) : Byte := BitVec.ofNat 8 n

/-- The seven bytes of a Demand (Table 1-6). -/
def Demand.bytes (c : Demand) : List Byte :=
  [ lowByte (c.cls.code + 4 * c.source.code + 32 * c.cooling.toNat + 64 * (c.airSpace - 1)),
    lowByte (c.leaving.toNat + 2 * c.isolated.toNat + 4 * c.holder.toNat + 8 * c.clutch.toNat + 16 * c.defrost.toNat
      + 32 * c.smoke.toNat),
    highByte c.request, lowByte c.request, highByte c.take, lowByte c.take, lowByte c.refresh ]

/-- A temperature field of Status A: two's complement, 0x8000 when Unavailable (Table 1-7). -/
def temperatureField : Option Int → BitVec 16
  | none => 0x8000#16
  | some t => BitVec.ofInt 16 t

/-- A smoke field of Status A: density divided by 4, floored; 255 when Unavailable (Table 1-7). -/
def smokeField : Option Int → Byte
  | none => 255#8
  | some d => BitVec.ofInt 8 (d / 4)

/-- The two bytes of a 16-bit field, most significant first. -/
def fieldBytes (x : BitVec 16) : List Byte := [x.extractLsb' 8 8, x.extractLsb' 0 8]

/-- The eight bytes of a Status A (Table 1-7). -/
def StatusA.bytes (c : StatusA) : List Byte :=
  fieldBytes (temperatureField c.cabTemp) ++ fieldBytes (temperatureField c.dischargeTemp) ++
    fieldBytes (temperatureField c.intakeTemp) ++ [smokeField c.intakeSmoke, smokeField c.cabSmoke]

/-- The eight bytes of a Status B (Table 1-8). -/
def StatusB.bytes (c : StatusB) : List Byte :=
  [ highByte c.take, lowByte c.take, lowByte c.duty, lowByte (c.stages + 16 * c.source.code),
    lowByte c.freshPercent, lowByte c.blendPercent, lowByte c.activeCount,
    lowByte (c.isolated.toNat + 2 * c.degraded.toNat + 4 * c.actingHolder.toNat + 8 * c.defrost.toNat
      + 16 * c.listenOnly.toNat + 32 * c.overrideInForce.toNat) ]

/-- The three bytes of a condition set (Table 1-5). -/
def setBytes (x : BitVec 24) : List Byte := [x.extractLsb' 0 8, x.extractLsb' 8 8, x.extractLsb' 16 8]

/-- The eight bytes of a Condition Report (Table 1-9). -/
def Report.bytes (c : Report) : List Byte :=
  setBytes c.latched ++ setBytes c.active ++
    [lowByte c.swallowed, lowByte (c.frozen.toNat + 2 * c.pendingNotEmpty.toNat)]

/-- The data bytes of a frame the controller sends. -/
def TxFrame.bytes : TxFrame → List Byte
  | .demand c => c.bytes
  | .status (.a c) => c.bytes
  | .status (.b c) => c.bytes
  | .report c => c.bytes

/-- The frame as it stands on the line (R3): an 11-bit identifier and the data bytes. -/
def TxFrame.onWire (own : Node) (f : TxFrame) : Frame where
  extended := false
  remote := false
  ident := f.ident own
  data := f.bytes

end Sys2Proof.Machine
end

