-- ==== Sys2Proof/Machine/Line.lean ====
section
/-! DEFINITION. The Line Interface (chapter 1): handing frames to the slots, the transmitter, the Demand and Status timing,
the error window, the silence timer, and the Isolated and Listen-only states with what the take register does at them
(R62, R63). -/

namespace Sys2Proof.Machine

/-! ### The slots (R5) -/

/-- A newer Demand took the slot of the frame on the line, if that frame is a Demand (R5, R7). -/
def OnLine.demandReplaced (o : OnLine) : OnLine :=
  match o.frame with
  | .demand _ => { o with replaced := true }
  | .status _ => o
  | .report _ => o

/-- A newer Status frame took the slot of the frame on the line, if that frame is a Status frame (R5, R7). -/
def OnLine.statusReplaced (o : OnLine) : OnLine :=
  match o.frame with
  | .demand _ => o
  | .status _ => { o with replaced := true }
  | .report _ => o

/-- A newer report took the slot of the frame on the line, if that frame is a report (R5, R7). -/
def OnLine.reportReplaced (o : OnLine) : OnLine :=
  match o.frame with
  | .demand _ => o
  | .status _ => o
  | .report _ => { o with replaced := true }

/-- Hand a Demand to its slot; refused in Listen-only (R5). -/
def LineInterface.handDemand (c : Demand) (l : LineInterface) : LineInterface :=
  if l.listenOnly then l
  else { l with demandSlot := some c, onLine := l.onLine.map OnLine.demandReplaced }

/-- Hand a frame to the Status slot; refused in Listen-only (R5). -/
def LineInterface.handStatus (f : StatusFrame) (l : LineInterface) : LineInterface :=
  if l.listenOnly then l
  else { l with statusSlot := some f, onLine := l.onLine.map OnLine.statusReplaced }

/-- Hand a Condition Report to its slot; refused in Listen-only (R5, R10). -/
def LineInterface.handReport (c : Report) (l : LineInterface) : LineInterface :=
  if l.listenOnly then l
  else { l with reportSlot := some c, onLine := l.onLine.map OnLine.reportReplaced }

/-- Hand a Demand filled with the values of this moment (R4, R8). -/
def State.handDemand (s : State) : State := s.mapLine (LineInterface.handDemand (demandContent s))

/-- Hand a Status A filled with the values of this moment; the handing clears A owed (R9). -/
def State.handStatusA (s : State) : State :=
  s.mapLine fun l => { l.handStatus (.a (statusAContent s)) with aOwed := false }

/-- Hand a Status B filled with the values of this moment; the handing clears B owed and B change owed (R9). -/
def State.handStatusB (s : State) : State :=
  s.mapLine fun l => { l.handStatus (.b (statusBContent s)) with bOwed := false, bChangeOwed := false }

/-! ### Demand timing (R8) -/

/-- The content differs from the last completed Demand: any of the class, the source, a flag, the air space, cooling wanted or
the take field has changed, or the request has moved by 10 LU or more (R8 case 2). DEDUCED: with no last completed Demand it
differs (log entry 34). -/
def Demand.differs (c : Demand) : Option Demand → Bool
  | none => true
  | some d =>
    decide (({ c with request := d.request, refresh := d.refresh } : Demand) ≠ d) ||
      decide (d.request + 10 ≤ c.request) || decide (c.request + 10 ≤ d.request)

/-- What the Line Interface does at the end of an event that left the Demand content other than `before`: a waiting frame is
replaced (R8 case 4), and with the slot empty a Demand is handed when the inhibit timer has expired and the content differs from
the last completed Demand (R8 case 2). DEDUCED: the values are those of the end of the event (log entry 14). DESIGN CHOICE: a raise
whose announced take is that of the last completed Demand does not make it differ (R55, log entry 47). -/
def State.settleDemand (before : Demand) (s : State) : State :=
  if s.node.state.speaks && decide (demandContent s ≠ before) then
    if s.line.demandSlot.isSome then s.handDemand
    else if decide (s.line.inhibit = .expired) && (demandContent s).differs s.line.lastDemand then s.handDemand
    else s
  else s

/-! ### Status timing (R9) -/

/-- One handing of the Status scheduler to an empty slot, in its order of preference (R9). DESIGN CHOICE: in Listen-only the
handing is discarded and the marks clear as by any handing (log entry 15). -/
def State.serveStatus (s : State) : State :=
  if s.node.state.speaks && s.line.statusSlot.isNone then
    if s.line.aOwed then s.handStatusA
    else if s.line.bOwed then s.handStatusB
    else if s.line.bChangeOwed && !s.line.statusBGuard.isRunning then s.handStatusB
    else s
  else s

/-- The Status scheduler at the end of an event. The second serving acts only where the first handing was discarded (R5). DESIGN
CHOICE (log entry 40). -/
def State.settleStatus (s : State) : State := s.serveStatus.serveStatus

/-- The Status timer's expiry on a waiting Status frame: it is replaced by a fresh frame of the same record (R9). -/
def State.refreshStatus (s : State) : State :=
  match s.line.statusSlot with
  | none => s
  | some (.a _) => s.handStatusA
  | some (.b _) => s.handStatusB

/-! ### The transmitter (R6, R7) -/

/-- Transmission is permitted (R6). -/
def State.txPermitted (s : State) : Bool := s.node.state.speaks && s.line.lineOn && !s.line.listenOnly

/-- The waiting frame with the lowest identifier: the Demand, then the Condition Report, then the Status frame (R6). -/
def LineInterface.lowestWaiting (l : LineInterface) : Option TxFrame :=
  match l.demandSlot, l.reportSlot, l.statusSlot with
  | some c, _, _ => some (.demand c)
  | none, some c, _ => some (.report c)
  | none, none, some f => some (.status f)
  | none, none, none => none

/-- The transmitter offers the waiting frame with the lowest identifier when transmission is permitted and it is not already
offering one (R6). DESIGN CHOICE: the command itself says that the line is idle (log entry 25). -/
def State.offer (s : State) : State :=
  if s.txPermitted && s.line.onLine.isNone then
    match s.line.lowestWaiting with
    | none => s
    | some f => s.mapLine fun l => { l with onLine := some ⟨f, false, false⟩ }
  else s

/-- A failed attempt on the line fault counter: at 32 the line goes Off and the Line Off timer starts (R11). -/
def LineInterface.countFailure (l : LineInterface) : LineInterface :=
  if l.faultCounter + 1 < 32 then { l with faultCounter := l.faultCounter + 1 }
  else { l with faultCounter := 32, lineOn := false, lineOffTimer := Timer.start }

/-- A failure of the offer in progress: the slot keeps its frame and the fault counter rises (R7, R11). The outcome of a
frame that was on the line when Listen-only was entered counts for nothing (R14). -/
def State.failOffer (s : State) : State :=
  match s.line.onLine with
  | none => s
  | some o =>
    let t := s.mapLine fun l => { l with onLine := none }
    if o.void then t
    else
      let u := t.mapLine LineInterface.countFailure
      u.when (!u.line.lineOn) (State.raise .lineOff)

/-- The Line Off timer's expiry (R11). -/
def LineInterface.lineBack (l : LineInterface) : LineInterface :=
  { l with faultCounter := 0, lineOn := true, lineOffTimer := .stopped }

/-- The completion of an offer on the line itself: the transmitter is free and the fault counter falls by 1 (R7, R11). -/
def LineInterface.completed (l : LineInterface) : LineInterface :=
  { l with onLine := none, faultCounter := l.faultCounter - 1 }

/-- The completion of a Demand in the Line Interface: its slot empties unless a newer frame took it, its content becomes the
last completed Demand, and the inhibit and refresh timers restart (R7, R8). -/
def LineInterface.demandCompleted (c : Demand) (replaced : Bool) (l : LineInterface) : LineInterface :=
  { l.completed with
    demandSlot := if replaced then l.demandSlot else none
    lastDemand := some c
    inhibit := Timer.start
    refresh := Timer.start }

/-- The completion of a Status frame: its slot empties unless a newer frame took it, and a Status B restarts the guard
(R7, R9). -/
def LineInterface.statusCompleted (f : StatusFrame) (replaced : Bool) (l : LineInterface) : LineInterface :=
  { l.completed with
    statusSlot := if replaced then l.statusSlot else none
    statusBGuard :=
      match f with
      | .a _ => l.statusBGuard
      | .b _ => Timer.start }

/-- The completion of a Condition Report (R7). -/
def LineInterface.reportCompleted (replaced : Bool) (l : LineInterface) : LineInterface :=
  { l.completed with reportSlot := if replaced then l.reportSlot else none }

/-! ### The error window (R12) -/

/-- One reception counted in the error window, `bad` when it is erroneous; the one that would bring the received count to
256 closes the window instead. -/
def LineInterface.countReception (limit : Nat) (bad : Bool) (l : LineInterface) : LineInterface :=
  if l.receivedCount < 255 then
    { l with receivedCount := l.receivedCount + 1, erroneousCount := l.erroneousCount + bad.toNat }
  else
    { l with
      receivedCount := 0
      erroneousCount := 0
      degraded := decide (limit ≤ l.erroneousCount + bad.toNat) }

/-- One reception counted, the LineDegraded condition following the flag (R12). -/
def State.countReception (bad : Bool) (s : State) : State :=
  let t := s.mapLine (LineInterface.countReception s.params.errorLimit bad)
  t.setCond t.line.degraded .lineDegraded

/-! ### Silence, Isolated and Listen-only (R13, R14) -/

/-- The silence timer restarts; it does not run when no peers are expected (R13). -/
def LineInterface.restartSilence (p : Params) (l : LineInterface) : LineInterface :=
  { l with silence := if p.expectedPeers = 0 then .stopped else Timer.start }

/-- The silence timer counts: the node is Running and peers are expected (R13). -/
def State.silenceCounts (s : State) : Bool := decide (s.node.state = .running) && decide (s.params.expectedPeers ≠ 0)

/-- The Isolated flag is set: the condition follows, T is trimmed to the isolated cap, and the Air Unit replans if T fell
(R13, R62). -/
def State.setIsolated (s : State) : State :=
  ((s.mapLine fun l => { l with isolated := true }).raise .isolated).changeTake
    (ShareUnit.trimToCap s.params.isolatedCap)

/-- The Isolated flag is cleared by a well-formed frame: the condition follows, T is trimmed to Lc, and the Air Unit replans
if T fell (R13, R63). -/
def State.clearIsolated (s : State) : State :=
  ((s.mapLine fun l => { l with isolated := false }).lower .isolated).changeTake ShareUnit.trimToCompleted

/-- A well-formed frame restarts the silence timer and clears Isolated, unless Listen-only holds (R13). DEDUCED: the timer
restarts in Listen-only too (log entry 28). -/
def State.heardWellFormed (s : State) : State :=
  let t := s.mapLine (LineInterface.restartSilence s.params)
  if t.line.isolated && !t.line.listenOnly then t.clearIsolated else t

/-- A good Zone Exchange frame: counted, and well-formed (R12, R13). DEDUCED: the order of the two (log entry 12). -/
def State.heardGood (s : State) : State := (s.countReception false).heardWellFormed

/-- The slots emptied, the Status marks clear, and the outcome of a frame on the line made void (R14). -/
def LineInterface.enterListenOnly (l : LineInterface) : LineInterface :=
  { l with
    listenOnly := true
    demandSlot := none
    statusSlot := none
    reportSlot := none
    onLine := l.onLine.map fun o => { o with void := true }
    aOwed := false
    bOwed := false
    bChangeOwed := false }

/-- The entry into Listen-only (R14). -/
def State.enterListenOnly (s : State) : State :=
  ((s.raise .addressConflict).setIsolated).mapLine LineInterface.enterListenOnly

/-- A frame bearing the own node number: the first one enters Listen-only, and further ones have no further effect (R14). The
frame is counted as good and restarts the silence timer. DEDUCED (log entry 13). -/
def State.heardConflict (s : State) : State :=
  let t := (s.countReception false).mapLine (LineInterface.restartSilence s.params)
  if t.line.listenOnly then t else t.enterListenOnly

/-- The Line Interface at the entry into Sleep (R15, Table 1-10). DESIGN CHOICE: a frame on the line is forgotten (log entry
16). -/
def LineInterface.sleep (l : LineInterface) : LineInterface :=
  { l with
    demandSlot := none
    statusSlot := none
    reportSlot := none
    onLine := none
    faultCounter := 0
    lineOn := true
    lineOffTimer := .stopped
    receivedCount := 0
    erroneousCount := 0
    degraded := false
    silence := .stopped
    isolated := l.isolated && l.listenOnly
    inhibit := .stopped
    refresh := .stopped
    statusTimer := .stopped
    aOwed := false
    bOwed := false
    bChangeOwed := false }

/-- The Line Interface at the entry into Running (R8, R9, R13): on an entry from Listening the inhibit and refresh timers
are not running and the Status timer starts from 0. -/
def LineInterface.enterRunning (p : Params) (fromListening : Bool) (l : LineInterface) : LineInterface :=
  let m := l.restartSilence p
  if fromListening then { m with inhibit := .stopped, refresh := .stopped, statusTimer := Timer.start } else m

end Sys2Proof.Machine
end

