-- ==== Sys2Proof/Machine/Air.lean ====
section
/-! DEFINITION. The Air Unit (chapters 5, 6 and 10): smoke, the source machine, the Defrost flag and the class, the fresh
damper target, the temperature loop, heater staging, blower, cooling, the compressor holder, the own request and the Output
Plan, in the order of R67 and R86. -/

namespace Sys2Proof.Machine

/-! ### Smoke (R68, R69) -/

/-- The SmokeHigh flag settled from the intake smoke value (R68). -/
def smokeHighOf (p : Params) (intake : Option Int) (before : Bool) : Bool :=
  match intake with
  | none => false
  | some v => if (p.smokeEnter : Int) ≤ v then true else if v < (p.smokeLeave : Int) then false else before

/-- Stage 2 of an air expiry: SmokeHigh and its condition (R68). -/
def State.settleSmoke (s : State) : State :=
  let b := smokeHighOf s.params (s.reading .intakeSmoke) s.air.smokeHigh
  (s.mapAir fun a => { a with smokeHigh := b }).setCond b .smokeHigh

/-- A fitted intake smoke sensor is Unavailable. -/
def State.intakeSmokeLost (s : State) : Bool := s.params.fitted .intakeSmoke && (s.reading .intakeSmoke).isNone

/-- A smoke cause holds (R69). -/
def State.smokeCause (s : State) : Bool := s.air.smokeHigh || s.intakeSmokeLost || !(smokingPeers s).isEmpty

/-- A recirculation cause holds (R69). -/
def State.recircCauseNow (s : State) : Bool := s.smokeCause || decide (s.air.mode = .recirculate)

/-- The judgement of the recirculation cause kept for R84. -/
def State.settleCause (s : State) : State :=
  let b := s.recircCauseNow
  s.mapAir fun a => { a with recircCause := b }

/-! ### The source machine (R70 to R79) -/

/-- The intake and cab smoke values are both available and the intake value is at or above the cab value. -/
def State.outsideWorse (s : State) : Bool :=
  match s.reading .intakeSmoke, s.reading .cabSmoke with
  | some i, some c => decide (c ≤ i)
  | some _, none => false
  | none, _ => false

/-- The own purge cause (R76). -/
def State.ownPurgeCause (s : State) : Bool :=
  match s.reading .intakeSmoke, s.reading .cabSmoke with
  | some i, some c => decide ((s.params.purgeEnter : Int) ≤ c) && decide (i < c)
  | some _, none => false
  | none, _ => false

/-- The new purges in the air-space view (R75). -/
def newPurges (s : State) : List Node := (purgingPeers s).filter fun n => !(s.air.purgeSeen.contains n)

/-- A join (R76). -/
def State.joinsPurge (s : State) : Bool := !(newPurges s).isEmpty && !s.intakeSmokeLost && !s.outsideWorse

/-- A purge entry holds (R76). -/
def State.purgeEntry (s : State) : Bool := !s.air.lockout.isRunning && (s.ownPurgeCause || s.joinsPurge)

/-- Going to Off (R71). -/
def AirUnit.sourceOff (a : AirUnit) : AirUnit :=
  { a with source := .off, boost := .stopped, purge := .stopped, leadSet := [], clearingHold := 0, ownClear := 0 }

/-- Going to Recirculate with the clearing hold count at 0; a boost or a purge ends (R72, R77). -/
def AirUnit.sourceRecirculate (a : AirUnit) : AirUnit :=
  { a with
    source := .recirculate, boost := .stopped, purge := .stopped, leadSet := [], clearingHold := 0, ownClear := 0 }

/-- Going to Fresh; a boost or a purge ends (R72, R74, R77). -/
def AirUnit.sourceFresh (a : AirUnit) : AirUnit :=
  { a with source := .fresh, boost := .stopped, purge := .stopped, leadSet := [], clearingHold := 0, ownClear := 0 }

/-- Going to Purge with a lead set (R76). -/
def AirUnit.sourcePurge (lead : List Node) (a : AirUnit) : AirUnit :=
  { a with
    source := .purge, boost := .stopped, purge := Timer.start, leadSet := lead, clearingHold := 0, ownClear := 0 }

/-- Going to Recirculate when a recirculation cause holds and to Fresh otherwise (R71, R77). -/
def AirUnit.sourceByCause (cause : Bool) (a : AirUnit) : AirUnit := if cause then a.sourceRecirculate else a.sourceFresh

/-- The clearing hold count settled in Recirculate; at 8 the source machine goes to Fresh (R72). -/
def AirUnit.settleClearing (cause : Bool) (a : AirUnit) : AirUnit :=
  if cause then { a with clearingHold := 0 }
  else if a.clearingHold + 1 < 8 then { a with clearingHold := a.clearingHold + 1 }
  else a.sourceFresh

/-- The cab counts toward the own-clear count at this expiry (R77 step 3). -/
def State.cabClear (s : State) : Bool :=
  !s.params.fitted .cabSmoke ||
    match s.reading .cabSmoke with
    | some c => decide (c < (s.params.purgeLeave : Int))
    | none => false

/-- The lead set and the own-clear count brought up to date in Purge (R77 steps 2 and 3). -/
def AirUnit.settlePurge (purging : List Node) (cabClear : Bool) (a : AirUnit) : AirUnit :=
  { a with
    leadSet := a.leadSet.filter fun n => purging.contains n
    ownClear := if cabClear then min 3 (a.ownClear + 1) else 0 }

/-- The purge exits: worse air outside, or a clean cab with an empty lead set (R77 steps 1 and 4). -/
def State.purgeExits (s : State) (settled : AirUnit) : Bool :=
  s.intakeSmokeLost || s.outsideWorse || (decide (settled.ownClear = 3) && settled.leadSet.isEmpty)

/-- The source machine's tests at an air expiry (R70, Table 5-1). -/
def State.sourceTests (s : State) : AirUnit :=
  let a := s.air
  let cause := s.recircCauseNow
  if a.mode = .off then (if a.source = .off then a else a.sourceOff)
  else
    match a.source with
    | .off => a.sourceByCause cause
    | .fresh =>
      if s.purgeEntry then a.sourcePurge (purgingPeers s) else if cause then a.sourceRecirculate else a
    | .pressurize =>
      if s.purgeEntry then a.sourcePurge (purgingPeers s) else if cause then a.sourceRecirculate else a
    | .recirculate => if s.purgeEntry then a.sourcePurge (purgingPeers s) else a.settleClearing cause
    | .purge =>
      let b := a.settlePurge (purgingPeers s) s.cabClear
      if s.purgeExits b then b.sourceByCause cause else b

/-- Stage 3 of an air expiry: the source machine, then the purge-seen set (R67, R70, R75). -/
def State.runSource (s : State) : State :=
  s.mapAir fun _ => { s.sourceTests with purgeSeen := purgingPeers s }

/-! ### Defrost, class and fresh damper target (R81 to R83) -/

/-- Stage 4 of an air expiry: the Defrost flag (R82). -/
def State.settleDefrost (s : State) : State := s.mapAir fun a => { a with defrost := decide (a.mode = .defrost) }

/-- The own class from the Defrost flag, the source, S and C (R83). -/
def classOf (p : Params) (a : AirUnit) (cab : Option Int) : ZoneClass :=
  if a.defrost ∨ a.source = .purge then .clearing
  else if (match cab with
    | some c => decide (p.recoveryError ≤ ((a.target : Int) - c).natAbs)
    | none => false) then .recovery
  else if a.source = .off then .standby
  else .comfort

/-- The own class composed anew (R83). -/
def State.composeClass (s : State) : State :=
  let k := classOf s.params s.air (s.reading .cabTemp)
  s.mapAir fun a => { a with cls := k }

/-- The fresh damper target of a source (Table 5-3). -/
def Source.freshTarget : Source → Nat
  | .off => 0
  | .recirculate => 0
  | .fresh => 1000
  | .pressurize => 1000
  | .purge => 1000

/-- The fresh damper target: 0 in Parking, the forced position while the override set forces it, and otherwise the source's
(R81). -/
def freshTargetOf (n : NodeState) (a : AirUnit) : Nat :=
  if n = .parking then 0
  else
    match a.overrides.fresh with
    | some true => 1000
    | some false => 0
    | none => a.source.freshTarget

/-- The fresh damper target settled and handed to the fresh damper actuator (R81). -/
def State.settleFresh (s : State) : State :=
  let v := freshTargetOf s.node.state s.air
  (s.mapAir fun a => { a with freshTarget := v }).handTarget .fresh v

/-- What follows a change of source outside an air expiry: the class composed anew and the fresh damper target settled
(R81, R83). -/
def State.sourceChanged (s : State) : State := s.composeClass.settleFresh

/-! ### Discharge target and blend (R87, R88) -/

/-- The discharge target D (R87). -/
def dischargeTargetOf (p : Params) (target : Nat) (cab : Option Int) : Int :=
  match cab with
  | some c => clampInt 50 600 ((target : Int) + ((p.cabGain : Int) * ((target : Int) - c)).tdiv 10)
  | none => target

/-- Step 1: the discharge target. -/
def State.settleDischarge (s : State) : State :=
  let d := dischargeTargetOf s.params s.air.target (s.reading .cabTemp)
  s.mapAir fun a => { a with dischargeTarget := d }

/-- The discharge error e, `none` when the discharge temperature is Unavailable (R88). -/
def State.dischargeError (s : State) : Option Int :=
  match s.reading .dischargeTemp with
  | some t => some (s.air.dischargeTarget - t)
  | none => none

/-- The loop step of the blend position (R88). -/
def blendStep (gain : Nat) (e : Int) (b : Nat) : Nat :=
  (clampInt 0 1000 ((b : Int) + clampInt (-50) 50 ((e * (gain : Int)).tdiv 10))).toNat

/-- The blend position brought up to date (R88). -/
def State.blendNow (s : State) : Nat :=
  match s.air.overrides.blend with
  | some f => f * 10
  | none =>
    if s.air.defrost then 1000
    else if s.air.source = .off then s.air.blend
    else
      match s.dischargeError with
      | none => s.air.blend
      | some e => blendStep s.params.blendGain e s.air.blend

/-- Step 2: the blend position, handed to the blend damper actuator. -/
def State.settleBlend (s : State) : State :=
  let b := s.blendNow
  (s.mapAir fun a => { a with blend := b }).handTarget .blend b

/-! ### Heater staging (R89, R90) -/

/-- A heater timer one control period later; a stopped timer starts from 0, and one that has reached the stage dwell stays there
(R89, R90; log entry 18). DEDUCED. -/
def dwellAdvance (p : Params) : Option Nat → Option Nat
  | none => some 0
  | some t => some (min (1000 * p.stageDwell) (t + p.controlPeriod))

/-- The timer has reached the stage dwell. -/
def dwellReached (p : Params) (t : Option Nat) : Bool :=
  match t with
  | none => false
  | some t => decide (1000 * p.stageDwell ≤ t)

/-- The rise condition (R89). -/
def riseCondition (p : Params) (a : AirUnit) (e : Option Int) : Bool :=
  if a.defrost then decide (a.heaterWant < p.stagesFitted)
  else
    decide (a.blend = 1000) &&
      match e with
      | some e => decide (30 ≤ e)
      | none => false

/-- The fall condition (R90), `found` being the Defrost flag as the expiry found it: when the flag clears, the fall rule applies from
the next air expiry. -/
def fallCondition (found : Bool) (a : AirUnit) (e : Option Int) : Bool :=
  !found && !a.defrost && decide (0 < a.heaterWant) &&
    (decide (a.blend < 900) ||
      match e with
      | some e => decide (e ≤ -30)
      | none => false)

/-- The heater want changed to `w`, both timers restarted (R89, R90). -/
def AirUnit.wantChanged (w : Nat) (a : AirUnit) : AirUnit :=
  { a with heaterWant := w, changeTimer := some 0, riseTimer := some 0 }

/-- The heater want at step 3 of an air expiry that found the Defrost flag as `found`, the timers already advanced (R89, R90,
R145). DESIGN CHOICE: the rise timer's restarts go on while the stages are forced (log entry 19), and the change timer runs on there
(log entry 50). DEDUCED: both timers restart at each expiry with the source Off (log entry 20). -/
def heaterStep (p : Params) (e : Option Int) (found : Bool) (a : AirUnit) : AirUnit :=
  let b := if riseCondition p a e then a else { a with riseTimer := some 0 }
  match a.overrides.stages with
  | some f =>
    let w := min f p.stagesFitted
    if w = a.heaterWant then b else b.wantChanged w
  | none =>
    if a.source = .off then a.wantChanged 0
    else if decide (a.heaterWant < p.stagesFitted) && riseCondition p a e && dwellReached p a.riseTimer then
      a.wantChanged (a.heaterWant + 1)
    else if fallCondition found a e && dwellReached p a.changeTimer then b.wantChanged (a.heaterWant - 1)
    else b

/-- Step 3: the heater want. DESIGN CHOICE: both timers advance at every air expiry, while the stages are forced too (log entries 19
and 50). -/
def State.settleHeaterWant (found : Bool) (s : State) : State :=
  let e := s.dischargeError
  s.mapAir fun a =>
    heaterStep s.params e found
      { a with changeTimer := dwellAdvance s.params a.changeTimer, riseTimer := dwellAdvance s.params a.riseTimer }

/-! ### Blower and duty (R91, R92) -/

/-- The Auto blower level (R91 step 2). -/
def autoLevel (target : Nat) (cab : Option Int) : Nat :=
  match cab with
  | some c => clampNat 2 8 (2 + ((target : Int) - c).natAbs / 15)
  | none => 4

/-- The blower level of the fan request (R91 steps 1 to 3). -/
def requestedLevel (a : AirUnit) (cab : Option Int) : Nat :=
  if a.source = .off then 0
  else
    match a.fan with
    | .level k => k
    | .auto => autoLevel a.target cab
    | .off => 0

/-- The blower level after all six steps and any forcing (R91, R145). -/
def blowerLevel (p : Params) (a : AirUnit) (cab : Option Int) : Nat :=
  match a.overrides.level with
  | some f => f
  | none =>
    let l3 := requestedLevel a cab
    let l4 := if a.source = .pressurize then max l3 p.boostLevel else l3
    let l5 := if a.source = .purge then 8 else l4
    if a.defrost then max l5 6 else l5

/-- The wanted duty of a blower level (R92). -/
def dutyOf (p : Params) (level : Nat) : Nat :=
  if level = 0 then 0 else p.minDuty + (100 - p.minDuty) * (level - 1) / 7

/-- Step 4: the blower level and the wanted duty. -/
def State.settleBlower (s : State) : State :=
  let k := blowerLevel s.params s.air (s.reading .cabTemp)
  s.mapAir fun a => { a with level := k, wantedDuty := dutyOf s.params k }

/-! ### Cooling and the compressor holder (R93 to R96) -/

/-- The intake temperature is Unavailable or at least 3.0 °C (R93, R95). -/
def intakeMild (intake : Option Int) : Bool :=
  match intake with
  | some t => decide (30 ≤ t)
  | none => true

/-- Cooling wanted (R93). -/
def coolingOf (a : AirUnit) (intake : Option Int) : Bool :=
  (match intake with
    | some t => decide (a.dischargeTarget < t)
    | none => false) ||
    (a.defrost && intakeMild intake)

/-- Step 5: cooling wanted. -/
def State.settleCooling (s : State) : State :=
  let b := coolingOf s.air (s.reading .intakeTemp)
  s.mapAir fun a => { a with cooling := b }

/-- The holder view holds a node number lower than the own (R94). -/
def State.lowerHolderHeard (s : State) : Bool := (holderView s).any fun n => decide (n.val < s.node.own.val)

/-- Step 6, first part: acting holder and HolderConflict (R94). -/
def State.settleHolder (s : State) : State :=
  let yields := s.node.hold && s.lowerHolderHeard
  let acting := s.node.hold && !s.lowerHolderHeard
  (s.mapAir fun a => { a with actingHolder := acting }).setCond yields .holderConflict

/-- The clutch want (R95). -/
def State.clutchWantNow (s : State) : Bool :=
  s.air.actingHolder && (s.air.cooling || !(coolingView s).isEmpty) && intakeMild (s.reading .intakeTemp)

/-- The clutch call from the clutch want and the two short-cycle timers (R95). -/
def State.clutchCallNow (s : State) : Bool :=
  let want := s.clutchWantNow
  s.air.actingHolder &&
    (if s.clutchDriven then want || s.air.minOn.isRunning else want && !s.air.minOff.isRunning)

/-- Step 6, second part: the clutch want and the clutch call (R95). -/
def State.settleClutch (s : State) : State :=
  let want := s.clutchWantNow
  let call := s.clutchCallNow
  s.mapAir fun a => { a with clutchWant := want, clutchCall := call }

/-- Step 6, third part: CoolingUnavailable (R96). -/
def State.settleCoolingUnavailable (s : State) : State :=
  s.setCond (s.air.cooling && !s.air.actingHolder && (holderView s).isEmpty) .coolingUnavailable

/-! ### The own request and the plan (R97, R98) -/

/-- The base load is counted (R97). -/
def State.countsBase (s : State) : Bool :=
  !(decide (s.air.source = .off) && s.drive.fresh.idleAtTarget && s.drive.blend.idleAtTarget)

/-- The own request of the present wants (R97). -/
def requestOf (p : Params) (baseCounted : Bool) (a : AirUnit) : Nat :=
  min 600 ((if baseCounted then p.baseLoad else 0) + (if a.clutchCall then p.clutchCurrent else 0) +
    blowerCurrent p a.wantedDuty + a.heaterWant * p.stageCurrent)

/-- Step 7: the own request. -/
def State.composeRequest (s : State) : State :=
  let b := s.countsBase
  s.mapAir fun a => { a with baseCounted := b, request := requestOf s.params b a }

/-! ### The air expiry -/

/-- Stages 2 to 6 of an air expiry: what is settled about the air (R67). -/
def State.airStages (s : State) : State :=
  s.settleSmoke.settleCause.runSource.settleDefrost.composeClass.settleFresh

/-- Steps 1 to 7 of R86: the wants and the own request, `found` being the Defrost flag as the expiry found it. -/
def State.airWants (found : Bool) (s : State) : State :=
  (s.settleDischarge.settleBlend.settleHeaterWant found).settleBlower.settleCooling.settleHolder.settleClutch
    |>.settleCoolingUnavailable.composeRequest

/-- The periodic work of the Air Unit as one operation, the air timer restarted (R67, R86). -/
def State.airWork (s : State) : State :=
  ((s.mapAir fun a => { a with timer := Timer.start }).airStages.airWants s.air.defrost).makePlan

/-- The air expiry would complete the clearing hold: the source is Recirculate, neither Off nor a purge entry is taken, no
recirculation cause holds, and the count stands at 7 (R72). -/
def State.clearingCompletes (s : State) : Bool :=
  let t := s.settleSmoke
  decide (t.air.mode ≠ .off) && decide (t.air.source = .recirculate) && !t.purgeEntry && !t.recircCauseNow &&
    decide (t.air.clearingHold = 7)

/-! ### Doors, boost and purge outside the air expiry (R73, R74, R78) -/

/-- A door input is fitted (R73). -/
def Params.doorFitted (p : Params) : Door → Bool
  | .door1 => decide (1 ≤ p.doorsFitted)
  | .door2 => decide (2 ≤ p.doorsFitted)

/-- Every fitted door input's accepted level is closed (R73); a door is closed when its line is low (Table 7-4). -/
def State.allDoorsClosed (s : State) : Bool :=
  (!s.params.doorFitted .door1 || !s.lineLevel .door1) && (!s.params.doorFitted .door2 || !s.lineLevel .door2)

/-- Fresh becomes Pressurize and the boost timer starts (R73). -/
def AirUnit.startBoost (a : AirUnit) : AirUnit := { a with source := .pressurize, boost := Timer.start }

/-- Pressurize becomes Fresh and the boost timer stops (R74). -/
def AirUnit.endBoost (a : AirUnit) : AirUnit := { a with source := .fresh, boost := .stopped }

/-- The purge timer's expiry on the source machine (R78). -/
def AirUnit.purgeTimedOut (a : AirUnit) : AirUnit :=
  { a with
    source := .recirculate, purge := .stopped, clearingHold := 0, leadSet := [], ownClear := 0, lockout := Timer.start }

/-! ### The panel (R142 to R146) -/

/-- The settings of a Panel arrival (R142, R143). -/
def AirUnit.takeSettings (d : PanelBytes) (a : AirUnit) : AirUnit :=
  { a with target := d.target, fan := d.fan, mode := d.mode.getD a.mode }

/-- The override part of a Panel arrival taken in Running (R144). -/
def AirUnit.takeOverrides (d : PanelBytes) (a : AirUnit) : AirUnit :=
  if d.overrides.inForce then
    { a with overrides := d.overrides, overrideLife := d.lifetime, overrideTimer := Timer.start }
  else { a with overrides := Overrides.none, overrideTimer := .stopped }

/-- The override set lapses (R146). -/
def AirUnit.lapse (a : AirUnit) : AirUnit := { a with overrides := Overrides.none, overrideTimer := .stopped }

/-! ### Leaving Running and entering Sleep (R84, R101) -/

/-- The source machine at the leaving of Running (R84). -/
def AirUnit.leaveSource (a : AirUnit) : AirUnit :=
  match a.source with
  | .pressurize => { a with source := .fresh, boost := .stopped, clearingHold := 0 }
  | .purge =>
    { a with
      source := if a.recircCause then .recirculate else .fresh
      purge := .stopped, leadSet := [], ownClear := 0, clearingHold := 0 }
  | .off => { a with clearingHold := 0 }
  | .fresh => { a with clearingHold := 0 }
  | .recirculate => { a with clearingHold := 0 }

/-- The wants cleared at the leaving of Running (R101). -/
def AirUnit.clearWants (a : AirUnit) : AirUnit :=
  { a with
    heaterWant := 0
    changeTimer := none
    riseTimer := none
    level := 0
    wantedDuty := 0
    cooling := false
    actingHolder := false
    clutchWant := false
    clutchCall := false
    request := 0 }

/-- The Air Unit at the entry into Sleep (R84, R101, R146). -/
def AirUnit.sleep (a : AirUnit) : AirUnit :=
  { a.lapse with
    source := .off
    boost := .stopped
    purge := .stopped
    lockout := .stopped
    clearingHold := 0
    ownClear := 0
    leadSet := []
    purgeSeen := []
    smokeHigh := false
    defrost := false
    cls := .standby
    freshTarget := 0
    minOn := .stopped
    minOff := .stopped }

end Sys2Proof.Machine
end

