-- ==== Sys2Proof/Machine/Inputs.lean ====
section
/-! DEFINITION. The Input Unit (chapter 7): samples, measurement windows, the tachometer, and the debouncing of raw pin
levels. -/

namespace Sys2Proof.Machine

/-! ### Samples (R104, R105, R107) -/

/-- A valid sample joins the open window of its sensor; without a running window timer, or for a sensor not fitted, it is
discarded (R108, R110). -/
def SensorEntry.take (open_ : Bool) (v : Int) (e : SensorEntry) : SensorEntry :=
  if open_ then { e with sum := e.sum + v, count := e.count + 1 } else e

/-- The limit of the edge timeout, in microseconds of the capture timer (R104). -/
def edgeTimeoutLimit : Nat := 20000

/-- The edge timeout expires: the sample in progress is discarded (R104). -/
def SensorEntry.timedOut (e : SensorEntry) : SensorEntry := { e with sample := .none, edgeTimeout := .expired }

/-- A sensor entry as an edge finds it: an edge timeout that has reached its limit expires before the edge of that microsecond, so
that every interval measured stays below the limit (R104). -/
def SensorEntry.inTime (e : SensorEntry) : SensorEntry := if e.edgeTimeout.due edgeTimeoutLimit then e.timedOut else e

/-- An accepted edge on a temperature input (R104, R105). -/
def SensorEntry.temperatureEdge (open_ rising : Bool) (capture : BitVec 16) (e : SensorEntry) : SensorEntry :=
  let t := { e.inTime with edgeTimeout := Timer.start }
  if rising then
    let b := { t with sample := .begun capture }
    match t.sample with
    | .fallen rise fall =>
      let h := captureDiff fall rise
      let p := captureDiff capture rise
      if tempValid h p then b.take open_ (tempOf h p) else b
    | .begun _ => b
    | .none => b
  else
    match t.sample with
    | .begun rise => { t with sample := .fallen rise capture }
    | .fallen _ _ => t
    | .none => t

/-- An accepted edge on a smoke input (R104, R107). -/
def SensorEntry.smokeEdge (open_ rising : Bool) (capture : BitVec 16) (e : SensorEntry) : SensorEntry :=
  let t := { e.inTime with edgeTimeout := Timer.start }
  if rising then { t with sample := .begun capture }
  else
    match t.sample with
    | .begun rise =>
      let b := { t with sample := .none }
      match densityOf (captureDiff capture rise) with
      | some d => b.take open_ d
      | none => b
    | .fallen _ _ => { t with sample := .none }
    | .none => t

/-! ### Windows (R108 to R111) -/

/-- The entry of a fitted sensor at a window close, the next window opened (R109). -/
def SensorEntry.close (e : SensorEntry) : SensorEntry :=
  let w := { e with sum := 0, count := 0 }
  if e.count ≠ 0 then { w with value := some (e.sum / (e.count : Int)), missed := 0, fault := false }
  else if e.missed < 3 then { w with missed := e.missed + 1 }
  else if e.missed = 3 then { w with missed := 4, value := none, fault := true }
  else w

/-- The window of a sensor opened afresh (R108). -/
def SensorEntry.openWindow (e : SensorEntry) : SensorEntry := { e with sum := 0, count := 0 }

/-- A sensor at the entry into Sleep: Unavailable, missed count 0, fault flag clear, its sample and window discarded (R116).
DEDUCED: the sample in progress is discarded too (log entry 30). -/
def SensorEntry.sleep (e : SensorEntry) : SensorEntry :=
  { e with sample := .none, sum := 0, count := 0, value := none, missed := 0, fault := false }

/-- Change every sensor entry. -/
def SensorTable.map (f : SensorEntry → SensorEntry) (t : SensorTable) : SensorTable :=
  ⟨f t.cabTemp, f t.dischargeTemp, f t.intakeTemp, f t.intakeSmoke, f t.cabSmoke⟩

/-- The window timer runs: a window is open (R108). -/
def InputUnit.windowOpen (i : InputUnit) : Bool := i.windowTimer.isRunning

/-- Change one sensor entry. -/
def State.mapSensor (x : Sensor) (f : SensorEntry → SensorEntry) (s : State) : State :=
  s.mapInput fun i => { i with sensors := i.sensors.set (f (i.sensors.get x)) x }

/-- One sensor at a window close, its fault condition following its fault flag (R109, R110). -/
def State.closeSensor (x : Sensor) (s : State) : State :=
  if s.params.fitted x then
    let t := s.mapSensor x SensorEntry.close
    t.setCond (t.input.sensors.get x).fault x.fault
  else s.mapSensor x SensorEntry.openWindow

/-- The five sensors in the order of Table 7-3. -/
def allSensors : List Sensor := [.cabTemp, .dischargeTemp, .intakeTemp, .intakeSmoke, .cabSmoke]

/-- Every sensor at a window close. -/
def State.closeSensors (s : State) : State := allSensors.foldl (fun t x => t.closeSensor x) s

/-- The tach value of a window: count × 120 / pulses per revolution, at most 60 000 (R111). -/
def tachRpm (p : Params) (count : Nat) : Nat := min 60000 (count * 120 / p.pulsesPerRev)

/-- The tach entry at a window close (R111). -/
def State.closeTach (s : State) : State :=
  s.mapInput fun i =>
    { i with tachValue := if s.params.tachFitted then some (tachRpm s.params i.tachCount) else none, tachCount := 0 }

/-- A rising edge on TACH (R111). DEDUCED: no edge counts while no window is open (log entry 37). -/
def InputUnit.countTach (i : InputUnit) : InputUnit :=
  if i.windowOpen then { i with tachCount := min 65535 (i.tachCount + 1) } else i

/-- The window timer starts on entering Listening, with every window open and empty (R108). -/
def InputUnit.startWindows (i : InputUnit) : InputUnit :=
  { i with windowTimer := Timer.start, sensors := i.sensors.map SensorEntry.openWindow, tachCount := 0 }

/-- The Input Unit at the entry into Sleep (R116, Table 7-5). -/
def InputUnit.sleep (i : InputUnit) : InputUnit :=
  { i with windowTimer := .stopped, sensors := i.sensors.map SensorEntry.sleep, tachCount := 0, tachValue := none }

/-- The sensor fault conditions end at the entry into Sleep (R116). -/
def State.lowerSensorFaults (s : State) : State := allSensors.foldl (fun t x => t.lower x.fault) s

/-! ### Debouncing raw levels (R103, R113) -/

/-- What one more sample of a level makes of an input: its sampler, and the new level when the acceptance is an event. The
first two samples that agree set the accepted level without an event. -/
def Sampler.sample (level : Bool) (x : Sampler) : Sampler × Option Bool :=
  let y := { x with last := some level }
  if x.last = some level then
    match x.accepted with
    | none => ({ y with accepted := some level }, none)
    | some old => if old = level then (y, none) else ({ y with accepted := some level }, some level)
  else (y, none)

/-- The sampler after one more sample whose acceptance, if it is an event, is left to that event's command to make. -/
def Sampler.await (level : Bool) (x : Sampler) : Sampler :=
  match x.sample level with
  | (y, none) => y
  | (y, some _) => { y with accepted := x.accepted }

/-- The event of an accepted level on a slow line (Table 7-4). -/
def slowEvent : SlowLine → Bool → Instr
  | .door1, high => if high then .doorOpenEvent .door1 else .doorCloseEvent .door1
  | .door2, high => if high then .doorOpenEvent .door2 else .doorCloseEvent .door2
  | .ign, high => if high then .ignAcceptedHigh else .ignAcceptedLow
  | .supplyOk, high => if high then .supplyOkAsserted else .supplyOkDeasserted
  | .ocBlw, high => if high then .overCurrentAsserted .blower else .overCurrentCleared .blower
  | .ocHtr, high => if high then .overCurrentAsserted .heater else .overCurrentCleared .heater
  | .ocClu, high => if high then .overCurrentAsserted .clutch else .overCurrentCleared .clutch

/-- The seven slow lines. DESIGN CHOICE: the manual lets events on different lines that come together be taken in either order
(R113), and they join the queue in the order of this list (log entry 41). -/
def allSlowLines : List SlowLine := [.door1, .door2, .ign, .supplyOk, .ocBlw, .ocHtr, .ocClu]

/-- Sample one slow line, its event joining the queue (R113). -/
def State.sampleSlowLine (s : State) (l : SlowLine) : State :=
  let x := s.input.slow.get l
  let t := s.mapInput fun i => { i with slow := i.slow.set (x.await (s.slowPinLevel l)) l }
  match (x.sample (s.slowPinLevel l)).2 with
  | none => t
  | some level => { t with pending := t.pending ++ [slowEvent l level] }

/-- Sample the slow lines. -/
def State.sampleSlowLines (s : State) : State := allSlowLines.foldl State.sampleSlowLine s

/-- The event of an edge on a fast input: both edges of a sensor input, with the edge's capture value, and the rising edges of
TACH and the hall inputs; no block takes a falling edge of those three (R103, R111, R112). -/
def fastEvent (capture : BitVec 16) : FastInput → Bool → Option Instr
  | .tempCab, rising => some (.temperatureEdge .cab rising capture)
  | .tempDis, rising => some (.temperatureEdge .discharge rising capture)
  | .tempInt, rising => some (.temperatureEdge .intake rising capture)
  | .smkInt, rising => some (.smokeEdge .intake rising capture)
  | .smkCab, rising => some (.smokeEdge .cab rising capture)
  | .tach, rising => if rising then some .tachEdge else none
  | .hallFrs, rising => if rising then some (.hallEdge .fresh) else none
  | .hallBld, rising => if rising then some (.hallEdge .blend) else none

/-- The eight fast inputs. DESIGN CHOICE: the manual lets hall edges accepted together be taken in either order (R112), and edges
sampled in one microsecond join the queue in the order of this list (log entry 41). -/
def allFastInputs : List FastInput := [.tempCab, .tempDis, .tempInt, .smkInt, .smkCab, .tach, .hallFrs, .hallBld]

/-- Sample one fast input (R103): an edge that is an event joins the queue, and one that is none is accepted here. -/
def State.sampleFastInput (s : State) (x : FastInput) : State :=
  let v := s.input.fast.get x
  let level := s.input.pins.fast x
  match (v.sample level).2.bind (fastEvent s.input.captureTimer x) with
  | none => s.mapInput fun i => { i with fast := i.fast.set (v.sample level).1 x }
  | some c =>
    let t := s.mapInput fun i => { i with fast := i.fast.set (v.await level) x }
    { t with pending := t.pending ++ [c] }

/-- Sample the fast inputs. -/
def State.sampleFastInputs (s : State) : State := allFastInputs.foldl State.sampleFastInput s

end Sys2Proof.Machine
end

