-- ==== Sys2Proof/Machine/Node.lean ====
section
/-! DEFINITION. Node Control (chapter 12): the entries into Listening, Running, SupplyLow, Parking and Sleep with what every
block does at them, and what is settled at the end of every event. -/

namespace Sys2Proof.Machine

/-! ### Entering Listening and Running (R156) -/

/-- The Allowance Store's age restarts on entering Listening (R34). -/
def AllowanceStore.enterListening (a : AllowanceStore) : AllowanceStore := { a with age := Timer.start }

/-- Entering Listening, from Loading or from Sleep: the Listening timer, the window timer and the allowance age start
(R34, R108, R156). -/
def State.enterListening (s : State) : State :=
  ((s.mapNode fun n => { n with state := .listening, listening := Timer.start }).mapAllowance
    AllowanceStore.enterListening).mapInput InputUnit.startWindows

/-- The sleep-delay timer at an entry into Running: it starts when that entry is from Listening and IGN reads off
(R156, R157). -/
def State.startSleepDelay (fromListening : Bool) (s : State) : State :=
  s.when (fromListening && !s.lineLevel .ign) (State.mapNode fun n => { n with sleepDelay := Timer.start })

/-- Entering Running: the share and air timers start, the Demand and Status timing and the silence supervision restart as R8, R9
and R13 give, the fresh damper target is settled, the sleep-delay timer may start, and the first Demand is handed (R156).
DEDUCED: the fresh damper target is settled here too (log entry 23). -/
def State.enterRunning (fromListening : Bool) (s : State) : State :=
  let t := (s.mapNode fun n => { n with state := .running, leaving := false }).mapShare fun u => { u with timer := Timer.start }
  let u := (t.mapAir fun a => { a with timer := Timer.start }).mapLine
    (LineInterface.enterRunning s.params fromListening)
  (u.settleFresh.startSleepDelay fromListening).handDemand

/-! ### Leaving Running (R65, R84, R100, R101, R129, R140, R146) -/

/-- The plan of the leaving event, made from a take of 0 (R100): dampers held whatever the base load for SupplyLow, and for Parking
held with a base load above 0 and free with one of 0 (R140). DEDUCED: R140 is followed for the dampers of Parking where step 1 of
R98 would hold them, the base not being counted at the last air expiry (log entry 43). -/
def State.leavingPlan (dest : NodeState) (s : State) : Plan :=
  { split s.params 0 s.wants with held := decide (dest = .supplyLow) || decide (0 < s.params.baseLoad) }

/-- Leaving Running for SupplyLow or for Parking: the node state changes, the grant and the take become 0, the share and air
timers stop, the override set lapses, the source is adjusted and the wants are cleared, HolderConflict and CoolingUnavailable
end, the plan of the event is made and taken up, and the class and the fresh damper target are settled. DESIGN CHOICE: the order
of the plan and the fresh damper target (log entry 17). -/
def State.leaveRunning (dest : NodeState) (s : State) : State :=
  let t := (s.mapNode fun n => { n with state := dest }).mapShare ShareUnit.leave
  let u := t.mapAir fun a => { a.lapse.leaveSource.clearWants with timer := .stopped }
  let v := (u.lower .holderConflict).lower .coolingUnavailable
  ((v.handPlan (v.leavingPlan dest)).composeClass).settleFresh

/-- The end of SupplyLow: its condition becomes inactive (Table 11-1). -/
def State.endSupplyLow (s : State) : State := s.lower .supplyLow

/-! ### Parking (R158, R159) -/

/-- The Parking timer starts and the wait of Parking begins (R158). -/
def NodeControl.startParking (n : NodeControl) : NodeControl :=
  { n with state := .parking, sleepDelay := .stopped, parking := Timer.start, leaving := false }

/-- Entering Parking from Running, which is a leaving of Running, or from SupplyLow, where the take and the plan are already
0 (R158). -/
def State.enterParking (s : State) : State :=
  if s.node.state = .running then (s.leaveRunning .parking).mapNode NodeControl.startParking
  else ((s.mapNode NodeControl.startParking).mapAir AirUnit.lapse).endSupplyLow.settleFresh

/-- The fresh actuator stands in a state that ends the wait of Parking (R159). -/
def State.freshRests (s : State) : Bool :=
  decide (s.drive.fresh.state = .idle) || decide (s.drive.fresh.state = .stalled) ||
    decide (s.drive.fresh.state = .failed)

/-! ### Sleep (R15, R25, R34, R84, R101, R116, R129, R140, R159) -/

/-- The timers of Node Control stopped, the node asleep (R159). -/
def NodeControl.sleep (n : NodeControl) : NodeControl :=
  { n with
    state := .sleep, listening := .stopped, sleepDelay := .stopped, parking := .stopped, leavingTimer := .stopped
    leaving := false }

/-- The Allowance Store at the entry into Sleep (R34). -/
def AllowanceStore.sleep (a : AllowanceStore) : AllowanceStore := { a with state := .awaiting, age := .stopped }

/-- The plan in force all off at the entry into Sleep, its dampers-held part as it stood (R100, R129). -/
def Plan.sleep (q : Plan) : Plan := { q with clutch := false, duty := 0, stages := 0 }

/-- The actuators at the entry into Sleep (R140). -/
def DriveUnit.sleepActuators (d : DriveUnit) : DriveUnit := { d with fresh := d.fresh.sleep, blend := d.blend.sleep }

/-- The conditions that end at the entry into Sleep: LineOff, LineDegraded, Isolated unless Listen-only holds, AllowanceLost,
the sensor faults, SmokeHigh and PurgeTimeout (R11, R12, R13, R34, R84, R116). -/
def State.lowerAtSleep (s : State) : State :=
  let t := ((s.lower .lineOff).lower .lineDegraded).when (!s.line.listenOnly) (State.lower .isolated)
  (((t.lower .allowanceLost).lowerSensorFaults).lower .smokeHigh).lower .purgeTimeout

/-- Entering Sleep (R159). -/
def State.enterSleep (s : State) : State :=
  let t := s.lowerAtSleep.mapNode NodeControl.sleep
  let u := ((t.mapDrive fun d => { d with plan := d.plan.sleep }).channelsTakePlan).mapDrive DriveUnit.sleepActuators
  let v := (u.mapLine LineInterface.sleep).mapPeers PeerTable.emptied
  ((v.mapAllowance AllowanceStore.sleep).mapAir AirUnit.sleep).mapInput InputUnit.sleep

/-- The end of the wait of Parking: the leaving Demand is handed and the leaving timer starts, or the node sleeps at once when
the handing is refused in Listen-only (R159). -/
def State.beginLeaving (s : State) : State :=
  let t := s.mapNode fun n => { n with leaving := true }
  if t.line.listenOnly then t.enterSleep
  else (t.mapNode fun n => { n with leavingTimer := Timer.start }).handDemand

/-! ### The end of an event -/

/-- The test of Parking, made on entering Parking and at each change of the fresh actuator's state (R159). DESIGN CHOICE: the test
is made once, on the state at the end of the event, so that an Idle the actuator only passes through ends no wait (log entry
46). -/
def State.settleParking (s before : State) : State :=
  if decide (s.node.state = .parking) && !s.node.leaving && s.freshRests &&
      (decide (before.node.state ≠ .parking) || decide (before.drive.fresh.state ≠ s.drive.fresh.state)) then
    s.beginLeaving
  else s

/-- What every event ends with, `before` being the state it found: the test of Parking (R159), then the Demand handing on a
change of content (R8), then the Status scheduler (R9). -/
def State.finish (s before : State) : State :=
  ((s.settleParking before).settleDemand (demandContent before)).settleStatus

/-- A level commanded on a slow line, with what its event does (R113): the level is accepted and the event taken, and an
acceptance that is no event is silent. -/
def State.onSlowEvent (l : SlowLine) (level : Bool) (f : State → State) (s : State) : State :=
  if s.accepts l level then (f (s.accept l level)).finish s else s.acceptSilently l level

end Sys2Proof.Machine
end

