-- ==== Sys2Proof/Machine/Clock.lean ====
section
/-! DEFINITION. The passing of time (log entries 1 to 4): one microsecond on every timer that runs, the capture timer, the PWM
generator and the sampling of the pins; and the expiries that are due. -/

namespace Sys2Proof.Machine

/-! ### One microsecond -/

/-- Node Control one microsecond later. -/
def NodeControl.tick (n : NodeControl) : NodeControl :=
  { n with
    listening := n.listening.tick
    sleepDelay := n.sleepDelay.tick
    parking := n.parking.tick
    leavingTimer := n.leavingTimer.tick }

/-- The Line Interface one microsecond later; the silence timer stands still while it does not count (R13). -/
def LineInterface.tick (silenceCounts : Bool) (l : LineInterface) : LineInterface :=
  { l with
    lineOffTimer := l.lineOffTimer.tick
    silence := if silenceCounts then l.silence.tick else l.silence
    inhibit := l.inhibit.tick
    refresh := l.refresh.tick
    statusTimer := l.statusTimer.tick
    statusBGuard := l.statusBGuard.tick }

/-- An entry's age one microsecond later (R22). -/
def PeerEntry.older (e : PeerEntry) : PeerEntry := { e with age := e.age + 1 }

/-- The ages of the Peer Table one microsecond later; they count while the receiver takes in frames (R22). -/
def PeerTable.tick (receives : Bool) (t : PeerTable) : PeerTable :=
  if receives then t.map (PeerSlot.mapEntry PeerEntry.older) else t

/-- The Air Unit one microsecond later. -/
def AirUnit.tick (a : AirUnit) : AirUnit :=
  { a with
    timer := a.timer.tick
    overrideTimer := a.overrideTimer.tick
    boost := a.boost.tick
    purge := a.purge.tick
    lockout := a.lockout.tick
    minOn := a.minOn.tick
    minOff := a.minOff.tick }

/-- A sensor's edge timeout one microsecond later (R104). -/
def SensorEntry.tick (e : SensorEntry) : SensorEntry := { e with edgeTimeout := e.edgeTimeout.tick }

/-- The Input Unit one microsecond later: the capture timer advances by 1 and wraps (R103), and the 10 ms count of the slow
lines advances (R113). -/
def InputUnit.tick (i : InputUnit) : InputUnit :=
  { i with
    captureTimer := i.captureTimer + 1
    slowCount := if i.slowCount + 1 < 10000 then i.slowCount + 1 else 0
    windowTimer := i.windowTimer.tick
    sensors := i.sensors.map SensorEntry.tick }

/-- A channel one microsecond later. -/
def OutputChannel.tick (c : OutputChannel) : OutputChannel :=
  { c with cleanRun := c.cleanRun.tick, cooldown := c.cooldown.tick }

/-- An actuator one microsecond later. -/
def Actuator.tick (a : Actuator) : Actuator :=
  { a with
    stallTimer := a.stallTimer.tick
    coast := a.coast.tick
    reversal := a.reversal.tick
    homing := a.homing.tick
    retry := a.retry.tick }

/-- The PWM generator one microsecond later at a frequency in kHz, that many thousandths of a cycle; a new cycle is made on the
duty figure that then holds (R120). DESIGN CHOICE (log entry 26). -/
def PwmGenerator.tick (kHz duty : Nat) (g : PwmGenerator) : PwmGenerator :=
  if g.phase + kHz < 1000 then { g with phase := g.phase + kHz }
  else { phase := g.phase + kHz - 1000, figure := duty }

/-- The Drive Unit one microsecond later. -/
def DriveUnit.tick (kHz : Nat) (d : DriveUnit) : DriveUnit :=
  { d with
    blower := d.blower.tick
    heater := d.heater.tick
    clutch := d.clutch.tick
    ramp := d.ramp.tick
    stall := d.stall.tick
    pwm := d.pwm.tick kHz d.duty
    fresh := d.fresh.tick
    blend := d.blend.tick }

/-- Every timer and counter one microsecond later. -/
def State.advance (s : State) : State :=
  { s with
    node := s.node.tick
    line := s.line.tick s.silenceCounts
    peers := s.peers.tick s.node.state.receives
    allowance := { s.allowance with age := s.allowance.age.tick }
    share := { s.share with timer := s.share.timer.tick }
    air := s.air.tick
    input := s.input.tick
    drive := s.drive.tick s.params.pwmFrequency
    cond := { s.cond with autoRelease := s.cond.autoRelease.tick } }

/-- The sampling of the pins after the advance: the fast inputs at every advance of the capture timer (R103), the slow lines
every 10 ms (R113). DESIGN CHOICE (log entry 9). -/
def State.sample (s : State) : State :=
  let t := s.sampleFastInputs
  if t.input.slowCount = 0 then t.sampleSlowLines else t

/-- One microsecond of the part. -/
def State.tick (s : State) : State := s.advance.sample

/-! ### The expiries that are due -/

/-- The command `c` when its timer has reached its limit, in microseconds, and `b` holds. -/
def dueWhen (b : Bool) (t : Timer) (limit : Nat) (c : Instr) : List Instr := if b && t.due limit then [c] else []

/-- The expiries due in Node Control (R154, R156, R158, R159); Loading ends at once when CFGM latched low. DEDUCED (log entry
7). -/
def dueNode (s : State) : List Instr :=
  (if s.node.state = .loading ∧ s.node.cfgm = false then [.loadingComplete (Vector.replicate 83 0)] else []) ++
  dueWhen (decide (s.node.state = .listening)) s.node.listening (ms (200 * s.params.refreshInterval))
    .listeningTimerExpiry ++
  dueWhen (decide (s.node.state = .running) || decide (s.node.state = .supplyLow)) s.node.sleepDelay
    (seconds s.params.sleepDelay) .sleepDelayExpiry ++
  dueWhen (decide (s.node.state = .parking)) s.node.parking (seconds 30) .parkingTimerExpiry ++
  dueWhen (decide (s.node.state = .parking)) s.node.leavingTimer (ms 2000) .leavingTimerExpiry

/-- The expiries due in the Line Interface and the Condition Unit (R8, R9, R11, R13, R149). -/
def dueLine (s : State) : List Instr :=
  dueWhen true s.line.lineOffTimer (ms 1000) .lineOffTimerExpiry ++
  dueWhen true s.line.inhibit (ms s.params.demandInhibit) .inhibitTimerExpiry ++
  dueWhen true s.line.refresh (ms (100 * s.params.refreshInterval)) .refreshTimerExpiry ++
  dueWhen s.node.state.speaks s.line.statusTimer (seconds s.params.statusInterval) .statusTimerExpiry ++
  dueWhen true s.line.statusBGuard (ms 500) .statusBGuardExpiry ++
  dueWhen s.silenceCounts s.line.silence (ms (300 * s.params.refreshInterval)) .silenceTimerExpiry ++
  dueWhen s.cond.frozen s.cond.autoRelease (seconds 10) .autoReleaseExpiry

/-- The age threshold an entry has reached (R22, R23). -/
def PeerEntry.dueAt (p : Params) (n : Node) (e : PeerEntry) : List Instr :=
  match e.freshness with
  | .fresh => if e.agingAt ≤ e.age then [.peerAging n] else []
  | .aging => if e.staleAt ≤ e.age then [.peerStale n] else []
  | .stale => if e.holdAt p ≤ e.age then [.peerHoldLimit n] else []

/-- The thresholds and expiries due in the Peer Table, the Allowance Store and the Share Unit (R22, R23, R32, R35). -/
def duePeers (s : State) : List Instr :=
  (if s.node.state.receives then
    allNodes.flatMap fun n =>
      match s.peers.entryOf n with
      | some e => e.dueAt s.params n
      | none => []
    else []) ++
  dueWhen true s.allowance.age (seconds s.params.allowanceTimeout) .allowanceTimeout ++
  dueWhen (decide (s.node.state = .running)) s.share.timer (ms s.params.controlPeriod) .shareExpiry

/-- The expiries due in the Air Unit (R67, R73, R76, R78, R95, R144). -/
def dueAir (s : State) : List Instr :=
  dueWhen (decide (s.node.state = .running)) s.air.timer (ms s.params.controlPeriod) .airExpiry ++
  dueWhen (decide (s.air.source = .pressurize)) s.air.boost (seconds s.params.boostTime) .boostTimerExpiry ++
  dueWhen (decide (s.air.source = .purge)) s.air.purge (seconds s.params.purgeMax) .purgeTimerExpiry ++
  dueWhen true s.air.lockout (seconds 60) .lockoutTimerExpiry ++
  dueWhen true s.air.minOn (seconds 5) .minimumOnExpiry ++
  dueWhen true s.air.minOff (seconds 10) .minimumOffExpiry ++
  dueWhen true s.air.overrideTimer (seconds s.air.overrideLife) .overrideLifetimeExpiry

/-- The expiries due in the Input Unit (R104, R108). -/
def dueInput (s : State) : List Instr :=
  (allSensors.flatMap fun x => dueWhen true (s.input.sensors.get x).edgeTimeout edgeTimeoutLimit
    (.edgeTimeoutExpiry x)) ++
  dueWhen true s.input.windowTimer (ms 500) .windowClose

/-- The expiries due in one channel (R126, R127). -/
def dueChannel (s : State) (c : Channel) : List Instr :=
  dueWhen (decide ((s.drive.channel c).state = .cooldown)) (s.drive.channel c).cooldown (seconds s.params.retryDelay)
    (.cooldownTimerExpiry c) ++
  dueWhen true (s.drive.channel c).cleanRun (seconds 60) (.cleanRunExpiry c)

/-- The expiries due in one actuator (R132, R134, R136, R137). -/
def dueActuator (s : State) (x : Damper) : List Instr :=
  let a := s.drive.actuator x
  dueWhen (decide (a.state = .homing) || decide (a.state = .moving)) a.stallTimer (ms 300) (.damperStall x) ++
  dueWhen true a.coast (ms 100) (.coastTimerExpiry x) ++
  dueWhen (decide (a.state = .reversing)) a.reversal (ms 200) (.reversalTimerExpiry x) ++
  dueWhen (decide (a.state = .homing)) a.homing (seconds 30) (.homingTimerExpiry x) ++
  dueWhen (decide (a.state = .stalled)) a.retry (seconds s.params.retryDelay) (.retryTimerExpiry x)

/-- The expiries due in the Drive Unit (R121, R125 to R127, R132 to R137). -/
def dueDrive (s : State) : List Instr :=
  dueWhen s.drive.blower.driving s.drive.ramp (ms 100) .rampTimerExpiry ++
  dueWhen (decide (s.drive.blower.state = .running)) s.drive.stall (ms 2000) .blowerStallExpiry ++
  dueChannel s .blower ++ dueChannel s .heater ++ dueChannel s .clutch ++
  dueActuator s .fresh ++ dueActuator s .blend

/-- Every expiry that is due. -/
def dueEvents (s : State) : List Instr :=
  dueNode s ++ dueLine s ++ duePeers s ++ dueAir s ++ dueInput s ++ dueDrive s

/-- The due event that is taken: the only one, or one of several by a free choice (log entry 4). -/
def chooseDue (k : Nat) : List Instr → Option Instr
  | [] => none
  | [c] => some c
  | c :: cs => some ((c :: cs).getD (Config.pick k % (c :: cs).length) c)

end Sys2Proof.Machine
end

