-- ==== Sys2Proof/Machine/AirCommands.lean ====
section
/-! DEFINITION. The meanings of the Air Unit's events: the air expiry, the doors, the boost, purge, lockout and short-cycle
timers, and the override lifetime (R67, R72 to R79, R95, R146). -/

namespace Sys2Proof.Machine

/-- AIR_EXPIRY (R67, R86). -/
def execAirExpiry (s : State) : Host.Outcome State Fault Refusal :=
  .next <| if s.node.state = .running ∧ s.air.timer.isRunning then s.airWork.finish s else s

/-- CLEARING_HOLD_COMPLETE (R72): the air expiry at which the clearing hold count reaches 8. DEDUCED (log entry 11). -/
def execClearingHoldComplete (s : State) : Host.Outcome State Fault Refusal :=
  .next <|
    if s.node.state = .running ∧ s.air.timer.isRunning ∧ s.clearingCompletes then s.airWork.finish s else s

/-- What a door's closing does (R73): in Running and in Fresh, when every fitted door is closed, the boost begins. -/
def State.doorCloses (d : Door) (s : State) : State :=
  if s.node.state = .running ∧ s.params.doorFitted d ∧ s.air.source = .fresh ∧ s.allDoorsClosed then
    (s.mapAir AirUnit.startBoost).sourceChanged
  else s

/-- DOOR_CLOSE_EVENT (R73). -/
def execDoorCloseEvent (d : Door) (s : State) : Host.Outcome State Fault Refusal :=
  .next (s.onSlowEvent d.line false (State.doorCloses d))

/-- What a door's opening does (R74): in Running and in Pressurize, the boost is aborted. -/
def State.doorOpens (d : Door) (s : State) : State :=
  if s.node.state = .running ∧ s.params.doorFitted d ∧ s.air.source = .pressurize then
    (s.mapAir AirUnit.endBoost).sourceChanged
  else s

/-- DOOR_OPEN_EVENT (R74). -/
def execDoorOpenEvent (d : Door) (s : State) : Host.Outcome State Fault Refusal :=
  .next (s.onSlowEvent d.line true (State.doorOpens d))

/-- BOOST_TIMER_EXPIRY (R74). -/
def execBoostTimerExpiry (s : State) : Host.Outcome State Fault Refusal :=
  .next <|
    if s.air.boost.isRunning ∧ s.air.source = .pressurize then
      ((s.mapAir AirUnit.endBoost).sourceChanged).finish s
    else s

/-- PURGE_TIMER_EXPIRY (R78). -/
def execPurgeTimerExpiry (s : State) : Host.Outcome State Fault Refusal :=
  .next <|
    if s.air.purge.isRunning ∧ s.air.source = .purge then
      (((s.raise .purgeTimeout).mapAir AirUnit.purgeTimedOut).sourceChanged).finish s
    else s

/-- LOCKOUT_TIMER_EXPIRY (R79). -/
def execLockoutTimerExpiry (s : State) : Host.Outcome State Fault Refusal :=
  .next <|
    if s.air.lockout.isRunning then
      ((s.mapAir fun a => { a with lockout := .expired }).lower .purgeTimeout).finish s
    else s

/-- MINIMUM_ON_EXPIRY (R95). -/
def execMinimumOnExpiry (s : State) : Host.Outcome State Fault Refusal :=
  .next <| if s.air.minOn.isRunning then s.mapAir fun a => { a with minOn := .expired } else s

/-- MINIMUM_OFF_EXPIRY (R95). -/
def execMinimumOffExpiry (s : State) : Host.Outcome State Fault Refusal :=
  .next <| if s.air.minOff.isRunning then s.mapAir fun a => { a with minOff := .expired } else s

/-- OVERRIDE_LIFETIME_EXPIRY (R146): the set lapses, and the fresh damper target is settled at once. -/
def execOverrideLifetimeExpiry (s : State) : Host.Outcome State Fault Refusal :=
  .next <|
    if s.air.overrideTimer.isRunning then ((s.mapAir AirUnit.lapse).settleFresh).finish s else s

end Sys2Proof.Machine
end

