-- ==== Sys2Proof/Machine/DriveCommands.lean ====
section
/-! DEFINITION. The meanings of the events of the output channels and the damper actuators (chapters 8 and 9). -/

namespace Sys2Proof.Machine

/-! ### Output channels -/

/-- OVER_CURRENT_ASSERTED (R124): a driven channel trips. -/
def execOverCurrentAsserted (c : Channel) (s : State) : Host.Outcome State Fault Refusal :=
  .next (s.onSlowEvent c.line true fun t => t.when (t.drive.channel c).driving (State.trip c .overCurrent))

/-- The event of a trip cause is under way at this channel: an over-current assertion while it is driven (R124), or the blower's
stall timer running in Running (R125). DESIGN CHOICE: the row CHANNEL_LOCK stands for a third trip by one of these two alone. A third
trip by driving into an asserted line (R124) comes with the event that takes the channel out of Off, whose own row locks the channel;
sent as CHANNEL_LOCK it names no event here and leaves the state as it is (log entry 51). -/
def State.tripsBy (c : Channel) (cause : TripCause) (s : State) : Bool :=
  match cause with
  | .overCurrent => s.accepts c.line true && (s.drive.channel c).driving
  | .stall => decide (c = .blower) && s.drive.stall.isRunning && decide (s.drive.blower.state = .running)

/-- The state in which the trip of a cause is taken: an over-current assertion is accepted on its line. -/
def State.causeAccepted (c : Channel) (cause : TripCause) (s : State) : State :=
  match cause with
  | .overCurrent => s.accept c.line true
  | .stall => s

/-- CHANNEL_LOCK (R127): the trip that brings the trip count to 3. DEDUCED (log entry 11). DESIGN CHOICE: by an assertion while driven
or by a stall, and not by driving into an asserted line (log entry 51). -/
def execChannelLock (c : Channel) (cause : TripCause) (s : State) : Host.Outcome State Fault Refusal :=
  .next <|
    if s.tripsBy c cause ∧ (s.drive.channel c).trips = 2 then ((s.causeAccepted c cause).trip c cause).finish s else s

/-- OVER_CURRENT_CLEARED (R126): a Tripped channel goes to Cooldown. -/
def execOverCurrentCleared (c : Channel) (s : State) : Host.Outcome State Fault Refusal :=
  .next (s.onSlowEvent c.line false (State.mapDrive fun d => d.setChannel (d.channel c).lineCleared c))

/-- RAMP_TIMER_EXPIRY (R121), the heater stages settled after the figure (R122). -/
def execRampTimerExpiry (s : State) : Host.Outcome State Fault Refusal :=
  .next <|
    if s.drive.ramp.isRunning ∧ s.drive.blower.driving then
      ((s.mapDrive DriveUnit.rampExpired).settleHeater).finish s
    else s

/-- BLOWER_STALL_EXPIRY (R125). -/
def execBlowerStallExpiry (s : State) : Host.Outcome State Fault Refusal :=
  .next <|
    if s.drive.stall.isRunning ∧ s.drive.blower.state = .running then (s.trip .blower .stall).finish s else s

/-- COOLDOWN_TIMER_EXPIRY (R126): the channel goes to Off, its trip condition ends, and it takes up the plan in force. -/
def execCooldownTimerExpiry (c : Channel) (s : State) : Host.Outcome State Fault Refusal :=
  .next <|
    if (s.drive.channel c).state = .cooldown ∧ (s.drive.channel c).cooldown.isRunning then
      (s.channelEntersOff c).finish s
    else s

/-- CLEAN_RUN_EXPIRY (R127): the trip count becomes 0. -/
def execCleanRunExpiry (c : Channel) (s : State) : Host.Outcome State Fault Refusal :=
  .next <|
    if (s.drive.channel c).cleanRun.isRunning then
      s.mapDrive fun d => d.setChannel { (d.channel c) with trips := 0, cleanRun := .expired } c
    else s

/-! ### Damper actuators -/

/-- A hall edge event at its actuator (R132). -/
def State.hallEdge (d : Damper) (s : State) : State :=
  s.applyActuator d ((s.drive.actuator d).edge (s.params.travel d) s.drive.plan.held s.asleep)

/-- HALL_EDGE (R112, R132). -/
def execHallEdge (d : Damper) (s : State) : Host.Outcome State Fault Refusal :=
  .next (s.onEdge d.line true fun t => (t.hallEdge d).finish s)

/-- DAMPER_STALL (R132, R134, R137): the stall timer expires with the drive running. -/
def execDamperStall (d : Damper) (s : State) : Host.Outcome State Fault Refusal :=
  .next <|
    if (s.drive.actuator d).stallTimer.isRunning ∧ (s.drive.actuator d).drive.isSome then
      (s.applyActuator d ((s.drive.actuator d).stall (s.params.travel d) s.drive.plan.held s.asleep)).finish s
    else s

/-- COAST_TIMER_EXPIRY (R132). -/
def execCoastTimerExpiry (d : Damper) (s : State) : Host.Outcome State Fault Refusal :=
  .next <|
    if (s.drive.actuator d).coast.isRunning then
      s.mapDrive fun u => u.setActuator (u.actuator d).coastExpired d
    else s

/-- REVERSAL_TIMER_EXPIRY (R136). -/
def execReversalTimerExpiry (d : Damper) (s : State) : Host.Outcome State Fault Refusal :=
  .next <|
    if (s.drive.actuator d).state = .reversing ∧ (s.drive.actuator d).reversal.isRunning then
      (s.applyActuator d ((s.drive.actuator d).reversalExpired s.drive.plan.held s.asleep)).finish s
    else s

/-- HOMING_TIMER_EXPIRY (R134). -/
def execHomingTimerExpiry (d : Damper) (s : State) : Host.Outcome State Fault Refusal :=
  .next <|
    if (s.drive.actuator d).state = .homing ∧ (s.drive.actuator d).homing.isRunning then
      (s.applyActuator d (s.drive.actuator d).homingExpired).finish s
    else s

/-- RETRY_TIMER_EXPIRY (R137). -/
def execRetryTimerExpiry (d : Damper) (s : State) : Host.Outcome State Fault Refusal :=
  .next <|
    if (s.drive.actuator d).state = .stalled ∧ (s.drive.actuator d).retry.isRunning then
      (s.applyActuator d ((s.drive.actuator d).retryExpired s.drive.plan.held s.asleep)).finish s
    else s

end Sys2Proof.Machine
end

