-- ==== Sys2Proof/Machine/FrameCommands.lean ====
section
/-! DEFINITION. The meanings of the receptions: the arrival of each record (R1, R2, R16), the ignored and discarded frames, the
address conflict and the error window. -/

namespace Sys2Proof.Machine

/-! ### What each record does in its block -/

/-- An Allowance arrival (R31): an arrival that finds the store Lost ends AllowanceLost. -/
def State.allowanceArrives (b0 b1 b2 : Byte) (s : State) : State :=
  (s.mapAllowance (AllowanceStore.arrive b0 b1 b2)).lower .allowanceLost

/-- A Demand arrival from a peer (R20, R21). -/
def State.demandArrives (n : Node) (d : DemandBytes) (s : State) : State := s.mapPeers (PeerTable.arrive n d)

/-- A Panel arrival (R142 to R144): the settings are taken in every node state, the override part in Running alone, and a
forced fresh damper reaches its actuator at once (R145). -/
def State.panelArrives (d : PanelBytes) (s : State) : State :=
  let t := s.mapAir (AirUnit.takeSettings d)
  if t.node.state = .running then (t.mapAir (AirUnit.takeOverrides d)).settleFresh else t

/-- A Condition Read (R149): the latched set is frozen and a report filled after that is handed. -/
def State.conditionReads (s : State) : State :=
  let t := s.mapCond ConditionUnit.freeze
  t.mapLine (LineInterface.handReport (reportContent t))

/-- A Condition Clear (R150). -/
def State.conditionClears (b1 b2 b3 : Byte) (s : State) : State :=
  s.mapCond (ConditionUnit.clear (conditionSetOfBytes b1 b2 b3))

/-- A Condition Release (R151). -/
def State.conditionReleases (s : State) : State := s.mapCond ConditionUnit.release

/-- A Channel Unlock (R128): the channel set names the blower, the heater group and the clutch in bits 0 to 2. DESIGN CHOICE: the
named channels are unlocked in that order, each taking up the plan before the next goes Off (log entry 42), and whether a named
channel is Locked is judged at its turn (log entry 44). -/
def State.channelsUnlock (b1 : Byte) (s : State) : State :=
  let t := s.when (b1.getLsbD 0) (State.unlockChannel .blower)
  let u := t.when (b1.getLsbD 1) (State.unlockChannel .heater)
  u.when (b1.getLsbD 2) (State.unlockChannel .clutch)

/-- A Rehome request on one actuator (R139). -/
def State.rehome (x : Damper) (s : State) : State :=
  s.applyActuator x ((s.drive.actuator x).rehome s.drive.plan.held)

/-- A Rehome request on both actuators (R139). -/
def State.dampersRehome (s : State) : State := (s.rehome .fresh).rehome .blend

/-- A reception that ended in a receive error: both counts of the error window rise (R12). -/
def State.hearsError (s : State) : State := s.countReception true

/-- A frame received without error, as the sorting of Table 1-2 has it (R1, R2, R12, R13). -/
def State.hears (o : Sorted) (s : State) : State :=
  match o with
  | .outside => s.heardWellFormed
  | .conflict => s.heardConflict
  | .badLength => s.countReception true
  | .ignored => s.heardGood
  | .allowance b0 b1 b2 => s.heardGood.allowanceArrives b0 b1 b2
  | .demand n d => s.heardGood.demandArrives n d
  | .panel d => s.heardGood.panelArrives d
  | .conditionRead => s.heardGood.conditionReads
  | .conditionClear b1 b2 b3 => s.heardGood.conditionClears b1 b2 b3
  | .conditionRelease => s.heardGood.conditionReleases
  | .channelUnlock b1 => s.heardGood.channelsUnlock b1
  | .rehome => s.heardGood.dampersRehome

/-- A reception of any kind. -/
def State.receives (r : Reception) (s : State) : State :=
  match r with
  | .error => s.hearsError
  | .frame f => s.hears (sortFrame s.node.own f)

/-- The reception counts in the error window (R12): an error, or a Zone Exchange frame. -/
def Reception.counts (own : Node) : Reception → Bool
  | .error => true
  | .frame f => decide (sortFrame own f ≠ .outside)

/-- One event at the receiver: nothing in a node state in which it takes in no frames (R15). -/
def State.reception (f : State → State) (s : State) : State :=
  if s.node.state.receives then (f s).finish s else s

/-! ### The commands -/

/-- ALLOWANCE_ARRIVAL (R31); the node field of the identifier plays no part. -/
def execAllowanceArrival (_nodeField : BitVec 4) (b0 b1 b2 : Byte) (s : State) : Host.Outcome State Fault Refusal :=
  .next (s.reception (State.hears (.allowance b0 b1 b2)))

/-- DEMAND_ARRIVAL (R19 to R21). A Demand bearing the own node number is an address conflict (R2). -/
def execDemandArrival (sender : Node) (d : DemandBytes) (s : State) : Host.Outcome State Fault Refusal :=
  .next (s.reception (State.hears (if sender = s.node.own then .conflict else .demand sender d)))

/-- PANEL_ARRIVAL (R142 to R146). -/
def execPanelArrival (d : PanelBytes) (s : State) : Host.Outcome State Fault Refusal :=
  .next (s.reception (State.hears (.panel d)))

/-- CONDITION_READ (R149). -/
def execConditionRead (s : State) : Host.Outcome State Fault Refusal := .next (s.reception (State.hears .conditionRead))

/-- CONDITION_CLEAR (R150). -/
def execConditionClear (b1 b2 b3 : Byte) (s : State) : Host.Outcome State Fault Refusal :=
  .next (s.reception (State.hears (.conditionClear b1 b2 b3)))

/-- CONDITION_RELEASE (R151). -/
def execConditionRelease (s : State) : Host.Outcome State Fault Refusal :=
  .next (s.reception (State.hears .conditionRelease))

/-- CHANNEL_UNLOCK (R128). -/
def execChannelUnlock (b1 : Byte) (s : State) : Host.Outcome State Fault Refusal :=
  .next (s.reception (State.hears (.channelUnlock b1)))

/-- REHOME_DAMPERS (R139). -/
def execRehomeDampers (s : State) : Host.Outcome State Fault Refusal := .next (s.reception (State.hears .rehome))

/-- IGNORED_FRAME (R2): a frame that the sorting does not mark as ignored is not this event. -/
def execIgnoredFrame (f : Frame) (s : State) : Host.Outcome State Fault Refusal :=
  .next (if sortFrame s.node.own f = .ignored then s.reception (State.hears .ignored) else s)

/-- OUTSIDE_EXCHANGE_FRAME (R1, R13): a frame outside the Exchange counts in no error count, and restarts the silence timer if
it was received without error. DEDUCED: one received with an error has no effect (log entry 31). -/
def execOutsideExchangeFrame (f : Frame) (withoutError : Bool) (s : State) : Host.Outcome State Fault Refusal :=
  .next (if sortFrame s.node.own f = .outside ∧ withoutError then s.reception (State.hears .outside) else s)

/-- RECEIVE_ERROR (R12). -/
def execReceiveError (s : State) : Host.Outcome State Fault Refusal := .next (s.reception State.hearsError)

/-- ADDRESS_CONFLICT (R14). -/
def execAddressConflict (f : Frame) (s : State) : Host.Outcome State Fault Refusal :=
  .next (if sortFrame s.node.own f = .conflict then s.reception (State.hears .conflict) else s)

/-- ERROR_WINDOW_CLOSE (R12): the counted reception that would bring the received count to 256. DEDUCED (log entry 11). -/
def execErrorWindowClose (r : Reception) (s : State) : Host.Outcome State Fault Refusal :=
  .next (if s.line.receivedCount = 255 ∧ r.counts s.node.own then s.reception (State.receives r) else s)

/-- FRAME_DISCARDED_FOR_LENGTH (R2, R12): the frame counts as received and erroneous, and does not restart the silence
timer. -/
def execFrameDiscardedForLength (f : Frame) (s : State) : Host.Outcome State Fault Refusal :=
  .next (if sortFrame s.node.own f = .badLength then s.reception (State.hears .badLength) else s)

end Sys2Proof.Machine
end

