-- ==== Sys2Proof/Machine/InputCommands.lean ====
section
/-! DEFINITION. The meanings of the sensor, tachometer and window events (R104 to R111). -/

namespace Sys2Proof.Machine

/-- A completed sample of this sensor joins a window: the window timer runs and the sensor is fitted (R108, R110). -/
def State.samplesCount (x : Sensor) (s : State) : Bool := s.input.windowOpen && s.params.fitted x

/-- A commanded edge on a sensor input: its capture value is the capture timer's as it stands, and a command with another names
an edge that cannot be (R103; log entries 3 and 10). -/
def State.onCapturedEdge (x : FastInput) (rising : Bool) (capture : BitVec 16) (f : State → State) (s : State) : State :=
  s.when (decide (capture = s.input.captureTimer)) (State.onEdge x rising f)

/-- TEMPERATURE_EDGE (R103 to R106). -/
def execTemperatureEdge (t : TempInput) (rising : Bool) (capture : BitVec 16) (s : State) :
    Host.Outcome State Fault Refusal :=
  .next (s.onCapturedEdge t.line rising capture
    (State.mapSensor t.sensor (SensorEntry.temperatureEdge (s.samplesCount t.sensor) rising capture)))

/-- SMOKE_EDGE (R103, R104, R107). -/
def execSmokeEdge (k : SmokeInput) (rising : Bool) (capture : BitVec 16) (s : State) :
    Host.Outcome State Fault Refusal :=
  .next (s.onCapturedEdge k.line rising capture
    (State.mapSensor k.sensor (SensorEntry.smokeEdge (s.samplesCount k.sensor) rising capture)))

/-- TACH_EDGE (R111). -/
def execTachEdge (s : State) : Host.Outcome State Fault Refusal :=
  .next (s.onEdge .tach true (State.mapInput InputUnit.countTach))

/-- EDGE_TIMEOUT_EXPIRY (R104). -/
def execEdgeTimeoutExpiry (x : Sensor) (s : State) : Host.Outcome State Fault Refusal :=
  .next (if (s.input.sensors.get x).edgeTimeout.isRunning then s.mapSensor x SensorEntry.timedOut else s)

/-- The tach value handed to the Drive Unit at a window close (R111, R125). -/
def State.handTach (s : State) : State :=
  match s.input.tachValue with
  | none => s
  | some rpm => s.mapDrive (DriveUnit.judgeTach rpm)

/-- WINDOW_CLOSE (R108 to R111): every entry is brought up to date, the tach value is handed on, and the next windows open. -/
def execWindowClose (s : State) : Host.Outcome State Fault Refusal :=
  .next <|
    if s.input.windowOpen then
      (((s.mapInput fun i => { i with windowTimer := Timer.start }).closeSensors).closeTach.handTach).finish s
    else s

end Sys2Proof.Machine
end

