-- ==== Sys2Proof/Machine/LineCommands.lean ====
section
/-! DEFINITION. The meanings of the transmitter's events, of the Line Interface's timers, and of the Condition Unit's
auto-release timer (R6 to R9, R11, R13, R151). -/

namespace Sys2Proof.Machine

/-- OFFER_FRAME (R6). -/
def execOfferFrame (s : State) : Host.Outcome State Fault Refusal := .next s.offer

/-- LOST_ARBITRATION (R7): the slot keeps its frame and the fault counter is unchanged. -/
def execLostArbitration (s : State) : Host.Outcome State Fault Refusal :=
  .next (s.mapLine fun l => { l with onLine := none })

/-- TRANSMIT_FAILURE (R7, R11). -/
def execTransmitFailure (s : State) : Host.Outcome State Fault Refusal := .next (s.failOffer.finish s)

/-- The failure of the offer in progress would bring the line fault counter to 32 (R11). -/
def State.failureTakesLineOff (s : State) : Bool :=
  match s.line.onLine with
  | none => false
  | some o => !o.void && s.line.lineOn && decide (s.line.faultCounter = 31)

/-- LINE_OFF (R11): the failure that brings the line fault counter to 32. DEDUCED (log entry 11). -/
def execLineOff (s : State) : Host.Outcome State Fault Refusal :=
  .next (if s.failureTakesLineOff then s.failOffer.finish s else s)

/-- A Demand completes (R7, R8, R56): the Share Unit is told the take of the frame sent, and the completion of a leaving Demand
in the leaving phase sends the node to Sleep (R159). -/
def State.demandCompletes (c : Demand) (replaced : Bool) (s : State) : State :=
  let t := (s.mapLine (LineInterface.demandCompleted c replaced)).mapShare (ShareUnit.complete c.take)
  t.when (c.leaving && decide (t.node.state = .parking) && t.node.leaving) State.enterSleep

/-- DEMAND_COMPLETION (R7). An outcome made void by Listen-only frees the line and does nothing else (R14). DESIGN CHOICE: with another
frame on the line, whose completion is the row FRAME_COMPLETION, or with none, the command leaves the state as it is (log entry 3). -/
def execDemandCompletion (s : State) : Host.Outcome State Fault Refusal :=
  .next <|
    match s.line.onLine with
    | none => s
    | some o =>
      match o.frame with
      | .demand c =>
        if o.void then s.mapLine fun l => { l with onLine := none }
        else (s.demandCompletes c o.replaced).finish s
      | .status _ => s
      | .report _ => s

/-- FRAME_COMPLETION (R7): a Status A, Status B or Condition Report completes. An outcome made void by Listen-only frees the line and
does nothing else (R14). DESIGN CHOICE: with a Demand on the line, whose completion is the row DEMAND_COMPLETION, or with no frame
there, the command leaves the state as it is (log entry 3). -/
def execFrameCompletion (s : State) : Host.Outcome State Fault Refusal :=
  .next <|
    match s.line.onLine with
    | none => s
    | some o =>
      match o.frame with
      | .demand _ => s
      | .status f =>
        if o.void then s.mapLine fun l => { l with onLine := none }
        else (s.mapLine (LineInterface.statusCompleted f o.replaced)).finish s
      | .report _ =>
        if o.void then s.mapLine fun l => { l with onLine := none }
        else (s.mapLine (LineInterface.reportCompleted o.replaced)).finish s

/-- LINE_OFF_TIMER_EXPIRY (R11). -/
def execLineOffTimerExpiry (s : State) : Host.Outcome State Fault Refusal :=
  .next <|
    if s.line.lineOffTimer.isRunning then ((s.mapLine LineInterface.lineBack).lower .lineOff).finish s else s

/-- INHIBIT_TIMER_EXPIRY (R8 case 2): a Demand is handed if the content differs from the last completed Demand. DESIGN CHOICE: a raise
whose announced take is that of the last completed Demand does not make it differ, and is not handed here (log entry 47). -/
def execInhibitTimerExpiry (s : State) : Host.Outcome State Fault Refusal :=
  .next <|
    if s.line.inhibit.isRunning then
      let t := s.mapLine fun l => { l with inhibit := .expired }
      (t.when (t.node.state.speaks && (demandContent t).differs t.line.lastDemand) State.handDemand).finish s
    else s

/-- REFRESH_TIMER_EXPIRY (R8 case 3): a Demand is handed whatever the content. -/
def execRefreshTimerExpiry (s : State) : Host.Outcome State Fault Refusal :=
  .next <|
    if s.line.refresh.isRunning then
      let t := s.mapLine fun l => { l with refresh := .expired }
      (t.when t.node.state.speaks State.handDemand).finish s
    else s

/-- STATUS_TIMER_EXPIRY (R9). -/
def execStatusTimerExpiry (s : State) : Host.Outcome State Fault Refusal :=
  .next <|
    if s.line.statusTimer.isRunning ∧ s.node.state.speaks then
      let t := s.mapLine fun l => { l with statusTimer := Timer.start, aOwed := true, bOwed := true }
      t.refreshStatus.finish s
    else s

/-- STATUS_B_GUARD_EXPIRY (R9): the scheduler at the end of the event hands a Status B if one is owed and the slot is empty. -/
def execStatusBGuardExpiry (s : State) : Host.Outcome State Fault Refusal :=
  .next <|
    if s.line.statusBGuard.isRunning then (s.mapLine fun l => { l with statusBGuard := .expired }).finish s else s

/-- SILENCE_TIMER_EXPIRY (R13, R62): the Isolated flag is set. -/
def execSilenceTimerExpiry (s : State) : Host.Outcome State Fault Refusal :=
  .next <|
    if s.line.silence.isRunning ∧ s.silenceCounts then
      ((s.mapLine fun l => { l with silence := .expired }).setIsolated).finish s
    else s

/-- AUTO_RELEASE_EXPIRY (R151): the freeze ends as by a Condition Release. -/
def execAutoReleaseExpiry (s : State) : Host.Outcome State Fault Refusal :=
  .next <| if s.cond.autoRelease.isRunning then (s.mapCond ConditionUnit.release).finish s else s

end Sys2Proof.Machine
end

