-- ==== Sys2Proof/Machine/NodeCommands.lean ====
section
/-! DEFINITION. The meanings of the start-up, supply, ignition and sleep commands (chapter 12). -/

namespace Sys2Proof.Machine

/-- COLD_START (R153): every block takes its cold-start values, the straps are latched and the node enters Loading. The pins are
the outside's, and the queue and the count of free choices are the model's own. DESIGN CHOICE (log entries 9 and 33). -/
def execColdStart (straps : Straps) (s : State) : Host.Outcome State Fault Refusal :=
  .next (State.cold straps s.input.pins s.pending s.choices)

/-- The configuration put in force at the end of Loading (R155): the parameters, the report mask, the pull-ups, the default
target, and the fitted counts of the heater group and the Air Unit. DEDUCED (log entries 6 and 8). -/
def State.applyConfig (p : Params) (s : State) : State :=
  let t := { s with params := p }
  let u := t.mapAir fun a => { a with target := p.defaultTarget, dischargeTarget := p.defaultTarget }
  let v := u.mapInput fun i => { i with pullUps := p.pullUps }
  (v.mapDrive fun d => { d with heater := OutputChannel.cold (decide (0 < p.stagesFitted)) }).mapCond fun c =>
    { c with mask := p.reportMask }

/-- The condition of how the configuration was taken (R154, R155). -/
def State.raiseConfig (how : ConfigSource) (s : State) : State :=
  match how with
  | .image => s
  | .clampedImage => s.raise .configClamped
  | .defaults => s.raise .configDefault

/-- LOADING_COMPLETE (R154, R155): the image is taken or the defaults applied, the values take effect together, ConfigDefault
or ConfigClamped arises under the mask just taken, and the node enters Listening. -/
def execLoadingComplete (image : Vector Byte 83) (s : State) : Host.Outcome State Fault Refusal :=
  .next <|
    if s.node.state = .loading then
      let r := takeImage s.node.cfgm image
      (((s.applyConfig r.1).raiseConfig r.2).enterListening).finish s
    else s

/-- LISTENING_TIMER_EXPIRY (R156): the node enters Running if SUPPLY_OK reads asserted. -/
def execListeningTimerExpiry (s : State) : Host.Outcome State Fault Refusal :=
  .next <|
    if s.node.state = .listening ∧ s.node.listening.isRunning then
      let t := s.mapNode fun n => { n with listening := .expired }
      (if t.lineLevel .supplyOk then t.enterRunning true else t).finish s
    else s

/-- What the acceptance of SUPPLY_OK asserted does in each node state (R156, R157). -/
def State.supplyReturns (s : State) : State :=
  match s.node.state with
  | .supplyLow => s.endSupplyLow.enterRunning false
  | .listening => if s.node.listening = .expired then s.enterRunning true else s
  | .loading => s
  | .running => s
  | .parking => s
  | .sleep => s

/-- SUPPLY_OK_ASSERTED (R157). -/
def execSupplyOkAsserted (s : State) : Host.Outcome State Fault Refusal :=
  .next (s.onSlowEvent .supplyOk true State.supplyReturns)

/-- What the loss of the supply does (R157): in Running, a leaving of Running for SupplyLow. -/
def State.supplyFails (s : State) : State :=
  if s.node.state = .running then (s.leaveRunning .supplyLow).raise .supplyLow else s

/-- SUPPLY_OK_DEASSERTED (R157). -/
def execSupplyOkDeasserted (s : State) : Host.Outcome State Fault Refusal :=
  .next (s.onSlowEvent .supplyOk false State.supplyFails)

/-- What the ignition's going off does (R158): in Running or SupplyLow the sleep-delay timer starts from 0. -/
def State.ignitionOff (s : State) : State :=
  s.when (decide (s.node.state = .running) || decide (s.node.state = .supplyLow))
    (State.mapNode fun n => { n with sleepDelay := Timer.start })

/-- IGN_ACCEPTED_LOW (R158). -/
def execIgnAcceptedLow (s : State) : Host.Outcome State Fault Refusal :=
  .next (s.onSlowEvent .ign false State.ignitionOff)

/-- The return from Parking at an ignition (R159): to Running, or to SupplyLow if SUPPLY_OK reads deasserted. -/
def State.unpark (s : State) : State :=
  let t := s.mapNode fun n => { n with parking := .stopped, leavingTimer := .stopped, leaving := false }
  if t.lineLevel .supplyOk then t.enterRunning false
  else ((t.mapNode fun n => { n with state := .supplyLow }).raise .supplyLow).settleFresh

/-- What the acceptance of IGN high does in each node state (R158, R159): the sleep-delay timer stops, and Parking and Sleep
end. -/
def State.ignitionOn (s : State) : State :=
  let t := s.mapNode fun n => { n with sleepDelay := .stopped }
  match s.node.state with
  | .parking => t.unpark
  | .sleep => t.enterListening
  | .loading => t
  | .listening => t
  | .running => t
  | .supplyLow => t

/-- IGN_ACCEPTED_HIGH (R158, R159). -/
def execIgnAcceptedHigh (s : State) : Host.Outcome State Fault Refusal :=
  .next (s.onSlowEvent .ign true State.ignitionOn)

/-- SLEEP_DELAY_EXPIRY (R158): the node enters Parking. -/
def execSleepDelayExpiry (s : State) : Host.Outcome State Fault Refusal :=
  .next <|
    if s.node.sleepDelay.isRunning ∧ (s.node.state = .running ∨ s.node.state = .supplyLow) then
      s.enterParking.finish s
    else s

/-- PARKING_TIMER_EXPIRY (R159): the wait of Parking ends, unless it has already ended. -/
def execParkingTimerExpiry (s : State) : Host.Outcome State Fault Refusal :=
  .next <|
    if s.node.state = .parking ∧ s.node.parking.isRunning then
      let t := s.mapNode fun n => { n with parking := .expired }
      (if t.node.leaving then t else t.beginLeaving).finish s
    else s

/-- LEAVING_TIMER_EXPIRY (R159): the node enters Sleep. -/
def execLeavingTimerExpiry (s : State) : Host.Outcome State Fault Refusal :=
  .next <|
    if s.node.state = .parking ∧ s.node.leavingTimer.isRunning then s.enterSleep.finish s else s

end Sys2Proof.Machine
end

