-- ==== Sys2Proof/Machine/PeerCommands.lean ====
section
/-! DEFINITION. The meanings of the age thresholds of the Peer Table and the Allowance Store and of the share expiry
(R22, R23, R32, R36). -/

namespace Sys2Proof.Machine

/-- PEER_AGING (R22). -/
def execPeerAging (n : Node) (s : State) : Host.Outcome State Fault Refusal :=
  .next <|
    if s.node.state.receives then
      (s.mapPeers fun t => t.set n ((t[n]).mapEntry PeerEntry.toAging)).finish s
    else s

/-- PEER_STALE (R22): the held take is created. -/
def execPeerStale (n : Node) (s : State) : Host.Outcome State Fault Refusal :=
  .next <|
    if s.node.state.receives then
      (s.mapPeers fun t => t.set n ((t[n]).mapEntry PeerEntry.toStale)).finish s
    else s

/-- PEER_HOLD_LIMIT (R23): the slot becomes Empty. -/
def execPeerHoldLimit (n : Node) (s : State) : Host.Outcome State Fault Refusal :=
  .next <|
    if s.node.state.receives then (s.mapPeers fun t => t.set n ((t[n]).toForgotten)).finish s else s

/-- ALLOWANCE_TIMEOUT (R32): the store becomes Lost and AllowanceLost becomes active. -/
def execAllowanceTimeout (s : State) : Host.Outcome State Fault Refusal :=
  .next <|
    if s.allowance.age.isRunning then
      ((s.mapAllowance AllowanceStore.timeout).raise .allowanceLost).finish s
    else s

/-- SHARE_EXPIRY (R36, R50): one computation, the take register's act on it, and a replan if the applied take fell (R64). -/
def execShareExpiry (s : State) : Host.Outcome State Fault Refusal :=
  .next <|
    if s.node.state = .running ∧ s.share.timer.isRunning then
      (s.changeTake (ShareUnit.expiry s.params s.line.isolated s.line.lineOn (grantOf s))).finish s
    else s

end Sys2Proof.Machine
end

