-- ==== Sys2Proof/Machine/Dispatch.lean ====
section
/-! DEFINITION. The dispatch: one arm per command, each a direct call of its meaning. -/

namespace Sys2Proof.Machine

-- One arm per row of spec/opcode_table.json, in the table's order.
def exec (i : Instr) (s : State) : Host.Outcome State Fault Refusal :=
  match i with
  | .coldStart straps => Sys2Proof.Machine.execColdStart straps s
  | .loadingComplete image => Sys2Proof.Machine.execLoadingComplete image s
  | .listeningTimerExpiry => Sys2Proof.Machine.execListeningTimerExpiry s
  | .supplyOkAsserted => Sys2Proof.Machine.execSupplyOkAsserted s
  | .supplyOkDeasserted => Sys2Proof.Machine.execSupplyOkDeasserted s
  | .ignAcceptedLow => Sys2Proof.Machine.execIgnAcceptedLow s
  | .ignAcceptedHigh => Sys2Proof.Machine.execIgnAcceptedHigh s
  | .sleepDelayExpiry => Sys2Proof.Machine.execSleepDelayExpiry s
  | .parkingTimerExpiry => Sys2Proof.Machine.execParkingTimerExpiry s
  | .leavingTimerExpiry => Sys2Proof.Machine.execLeavingTimerExpiry s
  | .allowanceArrival nodeField b0 b1 b2 => Sys2Proof.Machine.execAllowanceArrival nodeField b0 b1 b2 s
  | .demandArrival sender data => Sys2Proof.Machine.execDemandArrival sender data s
  | .panelArrival data => Sys2Proof.Machine.execPanelArrival data s
  | .conditionRead => Sys2Proof.Machine.execConditionRead s
  | .conditionClear b1 b2 b3 => Sys2Proof.Machine.execConditionClear b1 b2 b3 s
  | .conditionRelease => Sys2Proof.Machine.execConditionRelease s
  | .channelUnlock b1 => Sys2Proof.Machine.execChannelUnlock b1 s
  | .rehomeDampers => Sys2Proof.Machine.execRehomeDampers s
  | .ignoredFrame f => Sys2Proof.Machine.execIgnoredFrame f s
  | .outsideExchangeFrame f withoutError => Sys2Proof.Machine.execOutsideExchangeFrame f withoutError s
  | .receiveError => Sys2Proof.Machine.execReceiveError s
  | .addressConflict f => Sys2Proof.Machine.execAddressConflict f s
  | .errorWindowClose r => Sys2Proof.Machine.execErrorWindowClose r s
  | .offerFrame => Sys2Proof.Machine.execOfferFrame s
  | .lostArbitration => Sys2Proof.Machine.execLostArbitration s
  | .transmitFailure => Sys2Proof.Machine.execTransmitFailure s
  | .lineOff => Sys2Proof.Machine.execLineOff s
  | .demandCompletion => Sys2Proof.Machine.execDemandCompletion s
  | .frameCompletion => Sys2Proof.Machine.execFrameCompletion s
  | .lineOffTimerExpiry => Sys2Proof.Machine.execLineOffTimerExpiry s
  | .inhibitTimerExpiry => Sys2Proof.Machine.execInhibitTimerExpiry s
  | .refreshTimerExpiry => Sys2Proof.Machine.execRefreshTimerExpiry s
  | .statusTimerExpiry => Sys2Proof.Machine.execStatusTimerExpiry s
  | .statusBGuardExpiry => Sys2Proof.Machine.execStatusBGuardExpiry s
  | .silenceTimerExpiry => Sys2Proof.Machine.execSilenceTimerExpiry s
  | .peerAging n => Sys2Proof.Machine.execPeerAging n s
  | .peerStale n => Sys2Proof.Machine.execPeerStale n s
  | .peerHoldLimit n => Sys2Proof.Machine.execPeerHoldLimit n s
  | .allowanceTimeout => Sys2Proof.Machine.execAllowanceTimeout s
  | .shareExpiry => Sys2Proof.Machine.execShareExpiry s
  | .airExpiry => Sys2Proof.Machine.execAirExpiry s
  | .clearingHoldComplete => Sys2Proof.Machine.execClearingHoldComplete s
  | .doorCloseEvent d => Sys2Proof.Machine.execDoorCloseEvent d s
  | .doorOpenEvent d => Sys2Proof.Machine.execDoorOpenEvent d s
  | .boostTimerExpiry => Sys2Proof.Machine.execBoostTimerExpiry s
  | .purgeTimerExpiry => Sys2Proof.Machine.execPurgeTimerExpiry s
  | .lockoutTimerExpiry => Sys2Proof.Machine.execLockoutTimerExpiry s
  | .minimumOnExpiry => Sys2Proof.Machine.execMinimumOnExpiry s
  | .minimumOffExpiry => Sys2Proof.Machine.execMinimumOffExpiry s
  | .overrideLifetimeExpiry => Sys2Proof.Machine.execOverrideLifetimeExpiry s
  | .temperatureEdge t rising capture => Sys2Proof.Machine.execTemperatureEdge t rising capture s
  | .smokeEdge k rising capture => Sys2Proof.Machine.execSmokeEdge k rising capture s
  | .tachEdge => Sys2Proof.Machine.execTachEdge s
  | .edgeTimeoutExpiry x => Sys2Proof.Machine.execEdgeTimeoutExpiry x s
  | .windowClose => Sys2Proof.Machine.execWindowClose s
  | .hallEdge d => Sys2Proof.Machine.execHallEdge d s
  | .overCurrentAsserted c => Sys2Proof.Machine.execOverCurrentAsserted c s
  | .channelLock c cause => Sys2Proof.Machine.execChannelLock c cause s
  | .overCurrentCleared c => Sys2Proof.Machine.execOverCurrentCleared c s
  | .rampTimerExpiry => Sys2Proof.Machine.execRampTimerExpiry s
  | .blowerStallExpiry => Sys2Proof.Machine.execBlowerStallExpiry s
  | .cooldownTimerExpiry c => Sys2Proof.Machine.execCooldownTimerExpiry c s
  | .cleanRunExpiry c => Sys2Proof.Machine.execCleanRunExpiry c s
  | .damperStall d => Sys2Proof.Machine.execDamperStall d s
  | .coastTimerExpiry d => Sys2Proof.Machine.execCoastTimerExpiry d s
  | .reversalTimerExpiry d => Sys2Proof.Machine.execReversalTimerExpiry d s
  | .homingTimerExpiry d => Sys2Proof.Machine.execHomingTimerExpiry d s
  | .retryTimerExpiry d => Sys2Proof.Machine.execRetryTimerExpiry d s
  | .autoReleaseExpiry => Sys2Proof.Machine.execAutoReleaseExpiry s
  | .frameDiscardedForLength f => Sys2Proof.Machine.execFrameDiscardedForLength f s

end Sys2Proof.Machine
end

