-- ==== Sys2Proof/Machine/Step.lean ====
section
/-! DEFINITION. One step: the command at the front of the queue, or, on an empty queue, a due expiry or one microsecond of
time (log entry 1). -/

namespace Sys2Proof.Machine

/-- The part on an empty queue: an expiry that is due is taken, and otherwise one microsecond passes. DESIGN CHOICE (log entry
1). -/
def idle (s : State) : Host.Outcome State Fault Refusal :=
  match chooseDue s.choices (dueEvents s) with
  | none => .next s.tick
  | some c => exec c { s with choices := s.choices + 1 }

/-- One step of the part: the command at the front of the queue runs on the state with the queue's rest. DESIGN CHOICE: an edge or
a slow-line event sampled in the microsecond in which an expiry comes due stands in the queue and is taken before it, so that a
sample completed as the window timer reaches 500 ms falls in the closing window; R108 lets either be taken first (log entry 41).
Where the manual does not leave it open the edge's own meaning follows the manual: an edge timeout at its limit has expired
(R104), and so has a coast timer (R132). -/
def step (s : State) : Host.Outcome State Fault Refusal :=
  match s.pending with
  | c :: rest => exec c { s with pending := rest }
  | [] => idle s

/-- The state with the command a word spells at the front of its queue; unchanged where the word spells none. -/
def State.withFetchWord (s : State) (nbits w : Nat) : State :=
  match decodeTableWord nbits w with
  | some c => { s with pending := c :: s.pending }
  | none => s

end Sys2Proof.Machine
end

