-- ==== Sys2Proof/Machine/Outputs.lean ====
section
/-! DEFINITION. The levels of the output pins (Table 12-3) as the blocks drive them. Each is computed from the state that drives it;
no pin holds a state of its own. Of BLW_PWM the manual gives high and low (R120). DESIGN CHOICE: of HTR1 to HTR4, CLU_OUT, FRS_RUN and
BLD_RUN it gives on, driven or active and no polarity, and the model takes that level as high, `true` (log entry 49). -/

namespace Sys2Proof.Machine

/-- BLW_PWM: high for the figure's share of the cycle, in hundredths, from the beginning of the cycle (R120). -/
def State.blwPwm (s : State) : Bool := decide (s.drive.pwm.phase < 10 * s.drive.pwm.figure)

/-- HTR1 to HTR4: stage `k` is on when `k` is at most the stages driven (R122). DESIGN CHOICE: on is high (log entry 49). -/
def State.htr (s : State) (k : Nat) : Bool := decide (k ≤ s.drive.stages)

/-- CLU_OUT: at high impedance, `none`, while the clutch channel is Disabled, and otherwise the clutch drive (R118, R123,
R153). DESIGN CHOICE: driven is high, and the inactive level is low (log entry 49). -/
def State.cluOut (s : State) : Option Bool :=
  if s.drive.clutch.state = .disabled then none else some s.clutchDriven

/-- FRS_RUN and BLD_RUN: the run line is active while the drive runs (R131). DESIGN CHOICE: active is high (log entry 49). -/
def State.damperRun (s : State) (x : Damper) : Bool := (s.drive.actuator x).drive.isSome

/-- FRS_DIR and BLD_DIR: while the drive runs the direction line gives its direction (R131). DESIGN CHOICE: while the drive is
stopped the model gives the line no level, `none`, since R131 gives it none (log entry 45). -/
def State.damperDir (s : State) (x : Damper) : Option Direction := (s.drive.actuator x).drive

end Sys2Proof.Machine
end

