-- ==== Sys2Proof/Safety.lean ====
section
/-! DEFINITION. What counts as a safe run: the frame of a command in the blocks of the part, and the invariants of the
manual, in the terms the statements use. -/

namespace Sys2Proof.Machine

/-! ### Frames -/

/-- A component of the state: a block, the configuration in force, or one of the model's own two fields. -/
inductive Block
  | params | node | line | peers | allowance | share | air | input | drive | cond | queue | choices
  deriving DecidableEq, Repr

/-- `t` differs from `s` in none of the components but those of `bs`. -/
abbrev State.sameExcept (bs : List Block) (s t : State) : Prop :=
  (.params ∈ bs ∨ t.params = s.params) ∧ (.node ∈ bs ∨ t.node = s.node) ∧ (.line ∈ bs ∨ t.line = s.line) ∧
  (.peers ∈ bs ∨ t.peers = s.peers) ∧ (.allowance ∈ bs ∨ t.allowance = s.allowance) ∧
  (.share ∈ bs ∨ t.share = s.share) ∧ (.air ∈ bs ∨ t.air = s.air) ∧ (.input ∈ bs ∨ t.input = s.input) ∧
  (.drive ∈ bs ∨ t.drive = s.drive) ∧ (.cond ∈ bs ∨ t.cond = s.cond) ∧ (.queue ∈ bs ∨ t.pending = s.pending) ∧
  (.choices ∈ bs ∨ t.choices = s.choices)

/-- The frame and the fate of an offer, without whether a newer frame has taken its slot. -/
def OnLine.bare (o : OnLine) : TxFrame × Bool := (o.frame, o.void)

/-- `m` differs from `l` at most in what the Demand and Status timing writes at the end of any event (R8, R9): the Demand
slot, the Status slot, the three marks, and whether the frame on the line has been replaced in its slot. -/
abbrev LineInterface.sameOutsideSlots (l m : LineInterface) : Prop :=
  m = { l with
    demandSlot := m.demandSlot
    statusSlot := m.statusSlot
    onLine := m.onLine
    aOwed := m.aOwed
    bOwed := m.bOwed
    bChangeOwed := m.bChangeOwed } ∧
  m.onLine.map OnLine.bare = l.onLine.map OnLine.bare

/-- The offer after newer frames were handed to these slots: the one whose frame's own slot took a newer frame is replaced, and the
transmission runs on undisturbed (R5, R7). -/
abbrev OnLine.afterHanding (demand status report : Bool) (o : OnLine) : OnLine :=
  { o with
    replaced := o.replaced ||
      match o.frame with
      | .demand _ => demand
      | .status _ => status
      | .report _ => report }

/-- The Status scheduler finds its slot empty and a Status record to hand (R9). -/
abbrev LineInterface.statusDue (l : LineInterface) : Bool :=
  l.statusSlot.isNone && (l.aOwed || l.bOwed || (l.bChangeOwed && !l.statusBGuard.isRunning))

/-- The row of the table that a frame taken in is, by its sorting (R2, Table 1-2). -/
def Sorted.row (f : Frame) : Sorted → Instr
  | .outside => .outsideExchangeFrame f true
  | .conflict => .addressConflict f
  | .badLength => .frameDiscardedForLength f
  | .ignored => .ignoredFrame f
  | .allowance b0 b1 b2 => .allowanceArrival (BitVec.ofNat 4 f.ident) b0 b1 b2
  | .demand n d => .demandArrival n d
  | .panel d => .panelArrival d
  | .conditionRead => .conditionRead
  | .conditionClear b1 b2 b3 => .conditionClear b1 b2 b3
  | .conditionRelease => .conditionRelease
  | .channelUnlock b1 => .channelUnlock b1
  | .rehome => .rehomeDampers

/-- The row of the table that a reception is at the station `own`. -/
def Reception.row (own : Node) : Reception → Instr
  | .error => .receiveError
  | .frame f => (sortFrame own f).row f

/-- Of the Condition Unit, only the activity of the conditions of `cs` may differ. -/
abbrev State.condsSameBut (cs : List Condition) (s t : State) : Prop :=
  t.cond = { s.cond with active := t.cond.active } ∧
  ∀ c : Condition, c ∉ cs → inSet t.cond.active c = inSet s.cond.active c

/-- Nothing but a slow line's accepted level has changed, and what the Demand and Status timing writes (R113). -/
abbrev State.onlyAccepted (l : SlowLine) (level : Bool) (s t : State) : Prop :=
  t.input = (s.accept l level).input ∧ s.line.sameOutsideSlots t.line ∧ s.sameExcept [.input, .line] t

/-- The short-cycle timers follow the clutch output: the minimum-on timer starts when the output becomes driven, and when it
ceases to be driven the minimum-on timer stops and the minimum-off timer starts (R95, R123). -/
abbrev State.clutchReported (s t : State) : Prop :=
  if t.clutchDriven = s.clutchDriven then t.air.minOn = s.air.minOn ∧ t.air.minOff = s.air.minOff
  else if t.clutchDriven then t.air.minOn = .running 0 ∧ t.air.minOff = s.air.minOff
  else t.air.minOn = .stopped ∧ t.air.minOff = .running 0

/-! ### What a handed target does at an actuator (R131, R135, R136) -/

/-- The actuator with its drive stopped: the run line released, the coast timer from 0 if the drive ran, the stall timer
stopped. -/
abbrev Actuator.halted (a : Actuator) : Actuator :=
  { a with
    drive := none
    coast := if a.drive.isSome then .running 0 else a.coast
    stallTimer := if a.drive.isSome then .stopped else a.stallTimer }

/-- p lies within 2 counts of the target count (R131). -/
abbrev Actuator.near (a : Actuator) : Prop := a.target ≤ a.position + 2 ∧ a.position ≤ a.target + 2

/-- The direction from p to the target count (R135). -/
abbrev Actuator.towards (a : Actuator) : Direction := if a.position < a.target then .towardFull else .towardZero

/-- `b` is the Idle actuator `a` after a start test off target under a plan that frees the dampers (R135): Reversing when it still
coasts the other way, and otherwise Moving with its drive started. -/
abbrev Actuator.started (a b : Actuator) : Prop :=
  b = if a.towards ≠ a.last ∧ a.coast.isRunning = true then { a with state := .reversing, reversal := .running 0 }
    else
      { a with
        state := .moving, drive := some a.towards, last := a.towards, coast := .stopped, stallTimer := .running 0 }

/-- `b` is the actuator `a` after a target of 0 to 1000 is handed to it. -/
abbrev Actuator.targetTaken (travel : Nat) (held asleep : Bool) (target : Nat) (a b : Actuator) : Prop :=
  let c := { a with target := target * travel / 1000 }
  if c.target = a.target then b = a
  else if a.state = .idle then
    if asleep = true ∨ c.near then b = c
    else if held then b = { c with state := .held, resume := some .idle }
    else c.started b
  else if a.state = .moving then
    if c.near then b = { c.halted with state := .idle, stalls := 0 }
    else if a.drive = some c.towards then b = c
    else b = { c.halted with state := .reversing, reversal := .running 0 }
  else b = c

/-- The target handed completes a move, which ends the stall condition (R135, R138). -/
abbrev Actuator.targetCompletes (travel target : Nat) (a : Actuator) : Prop :=
  target * travel / 1000 ≠ a.target ∧ a.state = .moving ∧ ({ a with target := target * travel / 1000 } : Actuator).near

/-! ### What a handed plan does (R119, R121 to R124, R133, R134) -/

/-- `b` is the actuator `a` in Homing from the start: the drive toward 0, the homing and stall timers from 0 (R134). -/
abbrev Actuator.homesFrom (a b : Actuator) : Prop :=
  b = { a with
    state := .homing, drive := some .towardZero, last := .towardZero, coast := .stopped, stallTimer := .running 0
    homing := .running 0 }

/-- `b` is the actuator `a` in Held with this resume state, its drive and its homing, stall and reversal timers stopped (R133). -/
abbrev Actuator.heldFrom (r : Resume) (a b : Actuator) : Prop :=
  b = { a.halted with
    state := .held, resume := some r, homing := .stopped, reversal := .stopped, stallTimer := .stopped }

/-- `b` is the actuator `a` after the dampers-held part of a plan is handed to it (R133, R134). -/
abbrev Actuator.planTaken (held asleep : Bool) (a b : Actuator) : Prop :=
  if held then
    match a.state with
    | .homing => a.heldFrom .homing b
    | .moving => a.heldFrom .moving b
    | .reversing => a.heldFrom .reversing b
    | .idle => if a.near then b = a else a.heldFrom .idle b
    | _ => b = a
  else
    match a.state with
    | .unhomed => a.homesFrom b
    | .held =>
      let r := { a with resume := none }
      match a.resume with
      | some .homing => r.homesFrom b
      | some .reversing => b = { r with state := .reversing, reversal := .running 0 }
      | _ =>
        if a.near then b = { r with state := .idle, stalls := 0 }
        else if asleep then b = { r with state := .idle }
        else r.started b
    | _ => b = a

/-- The plan handed completes a move of a Held actuator, which ends the stall condition (R133, R138). -/
abbrev Actuator.planCompletes (held : Bool) (a : Actuator) : Prop :=
  held = false ∧ a.state = .held ∧ a.resume ≠ some .homing ∧ a.resume ≠ some .reversing ∧ a.near

/-- `b` is the channel `a` tripped on the way out of Off, its line accepted asserted (R124, R127). -/
abbrev OutputChannel.trippedFrom (a b : OutputChannel) : Prop :=
  b = ⟨if 2 ≤ a.trips then .locked else .tripped, min 3 (a.trips + 1), .stopped, .stopped⟩

/-- The blower meets an asserted line as the plan of `t` would take it out of Off (R124). -/
abbrev State.blowerMeetsFault (s t : State) : Prop :=
  s.drive.blower.state = .off ∧ t.drive.plan.duty ≠ 0 ∧ s.overCurrent .blower = true

/-- What the blower of `s` has become in `t` by taking up the plan of `t` (R119, R121, R124): from Off it starts at MinDuty; driven,
it goes Off under a duty of 0, follows a lower duty at once and ramps toward a higher one; after a trip it keeps its state. A cut
of the figure stops the ramp timer (log entry 48). -/
abbrev State.blowerTook (s t : State) : Prop :=
  let a := s.drive.blower
  let q := t.drive.plan.duty
  let is := fun (b : OutputChannel) (duty : Nat) (ramp stall : Timer) =>
    t.drive.blower = b ∧ t.drive.duty = duty ∧ t.drive.ramp = ramp ∧ t.drive.stall = stall
  t.drive.pwm = (if s.blowerMeetsFault t then { s.drive.pwm with figure := 0 } else s.drive.pwm) ∧
  if a.state = .off then
    if q = 0 then is a s.drive.duty s.drive.ramp s.drive.stall
    else if s.overCurrent .blower = true then
      a.trippedFrom t.drive.blower ∧ t.drive.duty = 0 ∧ t.drive.ramp = .stopped ∧ t.drive.stall = .stopped
    else if s.params.minDuty = q then
      is { a with state := .running, cleanRun := .running 0 } s.params.minDuty s.drive.ramp s.drive.stall
    else is { a with state := .starting } s.params.minDuty (.running 0) s.drive.stall
  else if a.state = .starting ∨ a.state = .running then
    if q = 0 then is { a with state := .off, cleanRun := .stopped } 0 .stopped .stopped
    else if q ≤ s.drive.duty then
      is (if a.state = .running then a else { a with state := .running, cleanRun := .running 0 }) q .stopped s.drive.stall
    else is a s.drive.duty (if s.drive.ramp.isRunning then s.drive.ramp else .running 0) s.drive.stall
  else is a s.drive.duty s.drive.ramp s.drive.stall

/-- The stages the interlock of `t` permits of the plan of `t`: the plan's, with the blower driven at MinDuty or above, and
otherwise none (R122). -/
abbrev State.stagesPermitted (s t : State) : Nat :=
  if t.drive.blower.driving = true ∧ s.params.minDuty ≤ t.drive.duty then t.drive.plan.stages else 0

/-- The heater group meets an asserted line as the plan of `t` would take it out of Off (R124). -/
abbrev State.heaterMeetsFault (s t : State) : Prop :=
  s.drive.heater.state = .off ∧ s.stagesPermitted t ≠ 0 ∧ s.overCurrent .heater = true

/-- What the heater group of `s` has become in `t` by taking up the plan of `t` (R119, R122, R124). -/
abbrev State.heaterTook (s t : State) : Prop :=
  let a := s.drive.heater
  let n := s.stagesPermitted t
  if s.heaterMeetsFault t then a.trippedFrom t.drive.heater ∧ t.drive.stages = 0
  else if a.state = .off ∧ n ≠ 0 then
    t.drive.heater = { a with state := .running, cleanRun := .running 0 } ∧ t.drive.stages = n
  else if a.state = .running then
    t.drive.heater = (if n = 0 then { a with state := .off, cleanRun := .stopped } else a) ∧ t.drive.stages = n
  else t.drive.heater = a ∧ t.drive.stages = s.drive.stages

/-- The clutch meets an asserted line as the plan of `t` would take it out of Off (R124). -/
abbrev State.clutchMeetsFault (s t : State) : Prop :=
  s.drive.clutch.state = .off ∧ t.drive.plan.clutch = true ∧ s.overCurrent .clutch = true

/-- What the clutch of `s` has become in `t` by taking up the plan of `t` (R119, R123, R124). -/
abbrev State.clutchTook (s t : State) : Prop :=
  let a := s.drive.clutch
  if s.clutchMeetsFault t then a.trippedFrom t.drive.clutch
  else if a.state = .off ∧ t.drive.plan.clutch = true then
    t.drive.clutch = { a with state := .running, cleanRun := .running 0 }
  else if a.state = .running ∧ t.drive.plan.clutch = false then
    t.drive.clutch = { a with state := .off, cleanRun := .stopped }
  else t.drive.clutch = a

/-- What the three channels of `s` have become in `t` by taking up the plan of `t`, and the trip conditions with them: one whose
way out of Off meets an asserted line trips, and is Locked at its third trip; no other condition of theirs changes (R119, R121 to
R124, R127). -/
abbrev State.channelsTook (s t : State) : Prop :=
  s.blowerTook t ∧ s.heaterTook t ∧ s.clutchTook t ∧
  inSet t.cond.active .blowerTrip = (inSet s.cond.active .blowerTrip || decide (s.blowerMeetsFault t)) ∧
  inSet t.cond.active .heaterTrip = (inSet s.cond.active .heaterTrip || decide (s.heaterMeetsFault t)) ∧
  inSet t.cond.active .clutchTrip = (inSet s.cond.active .clutchTrip || decide (s.clutchMeetsFault t)) ∧
  inSet t.cond.active .blowerStall = inSet s.cond.active .blowerStall ∧
  inSet t.cond.active .channelLocked =
    (inSet s.cond.active .channelLocked || decide (s.blowerMeetsFault t ∧ 2 ≤ s.drive.blower.trips) ||
      decide (s.heaterMeetsFault t ∧ 2 ≤ s.drive.heater.trips) || decide (s.clutchMeetsFault t ∧ 2 ≤ s.drive.clutch.trips))

/-- What a plan handed in `s`, which is the plan of `t`, does at the channels and the actuators (R119, R133). -/
abbrev State.planTook (s t : State) : Prop :=
  s.channelsTook t ∧
  ∀ x : Damper, (s.drive.actuator x).planTaken t.drive.plan.held s.asleep (t.drive.actuator x) ∧
    inSet t.cond.active x.stallCondition =
      (inSet s.cond.active x.stallCondition && !decide ((s.drive.actuator x).planCompletes t.drive.plan.held))

/-- The applied take has changed only at a fall, and then the plan was made anew from it and taken up by the channels and
the actuators (R64, R119); no channel, damper or short-cycle timer moved otherwise. -/
abbrev State.replannedOnFall (s t : State) : Prop :=
  (t.share.applied < s.share.applied → t.drive.plan = split s.params t.share.applied s.wants ∧ s.planTook t) ∧
  (s.share.applied ≤ t.share.applied → t.drive = s.drive ∧ t.air = s.air) ∧
  t.air = { s.air with minOn := t.air.minOn, minOff := t.air.minOff } ∧ s.clutchReported t

/-- The fresh damper target is the one of R81, 0 in Parking, the forced position while one is forced, and otherwise the source's
(Table 5-3); it is handed to the fresh actuator, and nothing else of the Drive Unit has changed. -/
abbrev State.freshSettled (s t : State) : Prop :=
  t.air.freshTarget =
    (if t.node.state = .parking then 0
     else match t.air.overrides.fresh with
      | some forcedOpen => if forcedOpen then 1000 else 0
      | none => if t.air.source = .off ∨ t.air.source = .recirculate then 0 else 1000) ∧
  t.drive = { s.drive with fresh := t.drive.fresh } ∧
  s.drive.fresh.targetTaken s.params.freshTravel s.drive.plan.held t.asleep t.air.freshTarget t.drive.fresh ∧
  inSet t.cond.active .freshDamperStall =
    (inSet s.cond.active .freshDamperStall &&
      !decide (s.drive.fresh.targetCompletes s.params.freshTravel t.air.freshTarget))

/-- A leaving Demand waits in its slot: the leaving flag set, take 0 and request 0 (R159). -/
abbrev LineInterface.leavingWaits (l : LineInterface) : Prop :=
  match l.demandSlot with
  | some c => c.leaving = true ∧ c.take = 0 ∧ c.request = 0
  | none => False

/-- The test of R159 at an event that may change the fresh actuator's state: the wait of Parking ends exactly when the event leaves
the actuator Idle, Stalled or Failed in a new state, and the leaving Demand is then handed (log entry 46). -/
abbrev State.parkingTested (s t : State) : Prop :=
  if s.node.state = .parking ∧ s.node.leaving = false ∧ s.drive.fresh.state ≠ t.drive.fresh.state ∧
      (t.drive.fresh.state = .idle ∨ t.drive.fresh.state = .stalled ∨ t.drive.fresh.state = .failed)
  then t.node = { s.node with leaving := true, leavingTimer := .running 0 } ∧ t.line.leavingWaits
  else t.node = s.node

/-- No test of Parking can send the node to Sleep in this event: the node is not in Parking, or a handing is accepted. -/
abbrev State.mayHand (s : State) : Prop := s.node.state ≠ .parking ∨ s.line.listenOnly = false

/-- The plan in force drives this channel: a duty for the blower, stages that the interlock permits for the heater, the clutch
(R121 to R123). -/
def State.driveWanted (s : State) : Channel → Bool
  | .blower => decide (s.drive.plan.duty ≠ 0)
  | .heater => s.drive.blower.driving && decide (s.params.minDuty ≤ s.drive.duty) && decide (s.drive.plan.stages ≠ 0)
  | .clutch => s.drive.plan.clutch

/-- The channel has entered Off with this trip count and taken up the plan in force (R119, R121 to R124, R126): it trips again
when it would be driven while its line is accepted asserted, and otherwise it is driven exactly when the plan drives it. -/
abbrev State.channelReturned (s : State) (c : Channel) (trips : Nat) (t : State) : Prop :=
  if t.driveWanted c = true ∧ s.overCurrent c = true then
    (t.drive.channel c).trips = min 3 (trips + 1) ∧
    (t.drive.channel c).state = (if 2 ≤ trips then .locked else .tripped) ∧ inSet t.cond.active c.tripCondition = true ∧
    (c = .blower → t.drive.duty = 0) ∧ (c = .heater → t.drive.stages = 0)
  else
    (t.drive.channel c).trips = trips ∧ inSet t.cond.active c.tripCondition = false ∧
    (c = .blower → inSet t.cond.active .blowerStall = false ∧
      t.drive.duty = (if s.drive.plan.duty = 0 then 0 else s.params.minDuty) ∧
      t.drive.blower.state =
        (if s.drive.plan.duty = 0 then .off else if s.params.minDuty = s.drive.plan.duty then .running else .starting)) ∧
    (c = .heater → t.drive.heater.state = (if t.driveWanted .heater then .running else .off) ∧
      t.drive.stages = (if t.driveWanted .heater then s.drive.plan.stages else 0)) ∧
    (c = .clutch → t.drive.clutch.state = (if s.drive.plan.clutch then .running else .off))

/-! ### Entering and leaving Running -/

/-- What an entry into Running does (R8, R9, R13, R35, R67, R81, R156), from Listening or from another state. -/
abbrev State.enteredRunning (fromListening : Bool) (s t : State) : Prop :=
  t.share = { s.share with timer := .running 0 } ∧
  t.air = { s.air with timer := .running 0, freshTarget := t.air.freshTarget } ∧ s.freshSettled t ∧
  ({ s.line with
    silence := if s.params.expectedPeers = 0 then .stopped else .running 0
    inhibit := if fromListening then .stopped else s.line.inhibit
    refresh := if fromListening then .stopped else s.line.refresh
    statusTimer := if fromListening then .running 0 else s.line.statusTimer } : LineInterface).sameOutsideSlots t.line ∧
  t.line.demandSlot = (if s.line.listenOnly then s.line.demandSlot else some (demandContent t)) ∧
  s.sameExcept [.node, .share, .air, .line, .drive, .cond, .input] t

/-- The source after leaving Running (R84). -/
def AirUnit.sourceLeft (a : AirUnit) : Source :=
  match a.source with
  | .off => .off
  | .fresh => .fresh
  | .recirculate => .recirculate
  | .pressurize => .fresh
  | .purge => if a.recircCause then .recirculate else .fresh

/-- Every output is off: no duty, no stage, and no channel driven (R129). -/
abbrev DriveUnit.allOff (d : DriveUnit) : Prop :=
  d.duty = 0 ∧ d.stages = 0 ∧ d.blower.driving = false ∧ d.heater.driving = false ∧ d.clutch.driving = false ∧
  d.plan.clutch = false ∧ d.plan.duty = 0 ∧ d.plan.stages = 0

/-- What a leaving of Running does (R49, R65, R67, R84, R101, R129, R140, R146), the node's own change apart: among it, the
channels and the actuators take up the plan of the event, and the fresh actuator then the target that follows. -/
abbrev State.leftRunning (s t : State) : Prop :=
  t.share =
    { s.share with timer := .stopped, grant := 0, applied := 0, announced := 0, state := .steady } ∧
  t.air =
    { s.air with
      timer := .stopped, overrides := Overrides.none, overrideTimer := .stopped, source := s.air.sourceLeft
      boost := t.air.boost, purge := t.air.purge, leadSet := [], ownClear := 0, clearingHold := 0, heaterWant := 0
      changeTimer := none, riseTimer := none, level := 0, wantedDuty := 0, cooling := false, actingHolder := false
      clutchWant := false, clutchCall := false, request := 0, minOn := t.air.minOn, minOff := t.air.minOff
      cls := t.air.cls, freshTarget := t.air.freshTarget } ∧
  t.air.boost.isRunning = false ∧ t.air.purge.isRunning = false ∧
  t.air.cls = classOf s.params t.air (s.reading .cabTemp) ∧ t.drive.allOff ∧ s.clutchReported t ∧
  s.channelsTook t ∧ s.drive.blend.planTaken t.drive.plan.held false t.drive.blend ∧
  inSet t.cond.active .blendDamperStall =
    (inSet s.cond.active .blendDamperStall && !decide (s.drive.blend.planCompletes t.drive.plan.held)) ∧
  (∃ f : Actuator, s.drive.fresh.planTaken t.drive.plan.held false f ∧
    f.targetTaken s.params.freshTravel t.drive.plan.held false t.air.freshTarget t.drive.fresh ∧
    inSet t.cond.active .freshDamperStall =
      (inSet s.cond.active .freshDamperStall && !decide (s.drive.fresh.planCompletes t.drive.plan.held) &&
        !decide (f.targetCompletes s.params.freshTravel t.air.freshTarget))) ∧
  inSet t.cond.active .holderConflict = false ∧ inSet t.cond.active .coolingUnavailable = false ∧
  s.line.sameOutsideSlots t.line ∧ s.sameExcept [.node, .share, .air, .line, .drive, .cond, .input] t

/-- The conditions that every entry into Sleep ends (R11, R12, R34, R84, R116). Isolated ends there too unless Listen-only
holds (R13). -/
def Condition.endsAtSleep : Condition → Bool
  | .supplyLow => false
  | .configDefault => false
  | .configClamped => false
  | .addressConflict => false
  | .lineOff => true
  | .lineDegraded => true
  | .isolated => false
  | .allowanceLost => true
  | .coolingUnavailable => false
  | .holderConflict => false
  | .cabTempFault => true
  | .dischargeTempFault => true
  | .intakeTempFault => true
  | .intakeSmokeFault => true
  | .cabSmokeFault => true
  | .blowerTrip => false
  | .blowerStall => false
  | .heaterTrip => false
  | .clutchTrip => false
  | .channelLocked => false
  | .freshDamperStall => false
  | .blendDamperStall => false
  | .smokeHigh => true
  | .purgeTimeout => true

/-! ### The configuration (Table 12-1) -/

/-- The figures of the line and of the timers lie in their ranges. -/
abbrev Params.timingInRange (p : Params) : Prop :=
  (100 ≤ p.controlPeriod ∧ p.controlPeriod ≤ 1000 ∧ p.controlPeriod % 50 = 0) ∧
  (5 ≤ p.refreshInterval ∧ p.refreshInterval ≤ 20) ∧ (50 ≤ p.demandInhibit ∧ p.demandInhibit ≤ 500) ∧
  (1 ≤ p.statusInterval ∧ p.statusInterval ≤ 10) ∧ (10 ≤ p.holdLimit ∧ p.holdLimit ≤ 60) ∧ p.expectedPeers ≤ 7 ∧
  (1 ≤ p.allowanceTimeout ∧ p.allowanceTimeout ≤ 10) ∧ (1 ≤ p.stageDwell ∧ p.stageDwell ≤ 10) ∧
  (2 ≤ p.retryDelay ∧ p.retryDelay ≤ 30) ∧ (10 ≤ p.sleepDelay ∧ p.sleepDelay ≤ 600)

/-- The figures of currents, loads and travels lie in their ranges. -/
abbrev Params.loadsInRange (p : Params) : Prop :=
  p.isolatedCap ≤ 600 ∧ p.fallbackAllowance ≤ 2000 ∧ (10 ≤ p.raiseStep ∧ p.raiseStep ≤ 200) ∧ p.baseLoad ≤ 50 ∧
  (20 ≤ p.blowerFull ∧ p.blowerFull ≤ 400) ∧ (20 ≤ p.minDuty ∧ p.minDuty ≤ 50) ∧
  (1 ≤ p.pwmFrequency ∧ p.pwmFrequency ≤ 25) ∧ p.stagesFitted ≤ 4 ∧ (20 ≤ p.stageCurrent ∧ p.stageCurrent ≤ 250) ∧
  (10 ≤ p.clutchCurrent ∧ p.clutchCurrent ≤ 80) ∧ (50 ≤ p.freshTravel ∧ p.freshTravel ≤ 2000) ∧
  (50 ≤ p.blendTravel ∧ p.blendTravel ≤ 2000)

/-- The figures of air, temperature and inputs lie in their ranges. -/
abbrev Params.airInRange (p : Params) : Prop :=
  (10 ≤ p.smokeEnter ∧ p.smokeEnter ≤ 500) ∧ p.smokeLeave ≤ p.smokeEnter - 10 ∧
  (10 ≤ p.purgeEnter ∧ p.purgeEnter ≤ 500) ∧ p.purgeLeave ≤ p.purgeEnter - 5 ∧
  (30 ≤ p.purgeMax ∧ p.purgeMax ≤ 600) ∧ (5 ≤ p.boostTime ∧ p.boostTime ≤ 60) ∧
  (1 ≤ p.boostLevel ∧ p.boostLevel ≤ 8) ∧ (20 ≤ p.recoveryError ∧ p.recoveryError ≤ 150) ∧
  (10 ≤ p.cabGain ∧ p.cabGain ≤ 80) ∧ (1 ≤ p.blendGain ∧ p.blendGain ≤ 40) ∧ (1 ≤ p.errorLimit ∧ p.errorLimit ≤ 128) ∧
  (1 ≤ p.airSpace ∧ p.airSpace ≤ 4) ∧ p.doorsFitted ≤ 2 ∧ (1 ≤ p.pulsesPerRev ∧ p.pulsesPerRev ≤ 4) ∧
  (150 ≤ p.defaultTarget ∧ p.defaultTarget ≤ 300)

/-- Every figure lies in its range of Table 12-1. -/
abbrev Params.inRange (p : Params) : Prop := p.timingInRange ∧ p.loadsInRange ∧ p.airInRange

/-! ### The invariants -/

/-- A channel of these two states has not been driven and has not tripped. -/
def ChannelState.atRest : ChannelState → Bool
  | .disabled => true
  | .off => true
  | .starting => false
  | .running => false
  | .tripped => false
  | .cooldown => false
  | .locked => false

/-- The channel waits after a trip: Tripped, Cooldown or Locked (R126). -/
def ChannelState.afterTrip : ChannelState → Bool
  | .disabled => false
  | .off => false
  | .starting => false
  | .running => false
  | .tripped => true
  | .cooldown => true
  | .locked => true

/-- In Loading the Drive Unit stands as at cold start: nothing has moved a damper or driven a channel (R118, R119, R131). -/
abbrev State.loadingAtRest (s : State) : Prop :=
  s.node.state = .loading →
    s.drive.fresh = Actuator.cold ∧ s.drive.blend = Actuator.cold ∧ s.drive.plan = Plan.cold ∧
    s.drive.blower.state.atRest = true ∧ s.drive.heater.state.atRest = true ∧ s.drive.clutch.state.atRest = true ∧
    s.drive.duty = 0 ∧ s.drive.stages = 0

/-- The Peer Table: the own slot and no other is marked Own, and every entry's fields lie in their ranges, its held take
present in Stale alone (R18, R19, Table 2-1). -/
abbrev PeerEntry.inRange (e : PeerEntry) : Prop :=
  e.request ≤ 600 ∧ e.take ≤ 600 ∧ (5 ≤ e.refresh ∧ e.refresh ≤ 20) ∧ (1 ≤ e.airSpace ∧ e.airSpace ≤ 4) ∧
  (e.freshness = .stale ↔ e.held.isSome = true) ∧ e.held.getD 0 ≤ 600

/-- One slot of the Peer Table as R18 has it. -/
def PeerSlot.inRange (own : Bool) : PeerSlot → Bool
  | .own => own
  | .empty => !own
  | .entry e => !own && decide e.inRange

/-- Every slot of the Peer Table is as R18 has it. -/
abbrev State.peersInRange (s : State) : Prop := ∀ n : Node, (s.peers[n]).inRange (decide (n = s.node.own))

/-- The laws of the take register (R49, R51, R52, R65) that hold in every state: A equals T in Steady and exceeds it
otherwise, T exceeds neither the grant nor, while Isolated is set, the isolated cap, all figures lie in 0 to 600, and
outside Running the grant and the register stand at 0 with the share timer stopped. -/
abbrev State.takeLaws (s : State) : Prop :=
  (s.share.state = .steady → s.share.announced = s.share.applied) ∧
  (s.share.state ≠ .steady → s.share.applied < s.share.announced) ∧
  s.share.applied ≤ s.share.grant ∧ s.share.grant ≤ 600 ∧ s.share.announced ≤ 600 ∧ s.air.request ≤ 600 ∧
  (s.line.isolated = true → s.share.applied ≤ s.params.isolatedCap) ∧
  (s.node.state = .running → s.share.timer.isRunning = true) ∧
  (s.node.state ≠ .running → s.share.grant = 0 ∧ s.share.applied = 0 ∧ s.share.announced = 0 ∧
    s.share.state = .steady ∧ s.share.timer = .stopped)

/-- The frame on the line is no Demand, or counts for nothing, or carries at least this take. -/
def OnLine.carries (take : Nat) (o : OnLine) : Bool :=
  match o.frame with
  | .demand c => o.void || decide (take ≤ c.take)
  | .status _ => true
  | .report _ => true

/-- The announcement keeps ahead of the take (R52, R56): in Announced a Demand carrying A or more has completed, and the Demand
on the line, unless its outcome counts for nothing, carries no less. -/
abbrev State.announcedLaw (s : State) : Prop :=
  s.share.state = .announced →
    s.share.announced ≤ s.share.lastCompleted ∧ ∀ o ∈ s.line.onLine, o.carries s.share.announced = true

/-- The source machine's state (R72 to R79, R84): the boost timer runs in Pressurize alone and the purge timer in Purge
alone, the counts and the lead set are 0 and empty outside their states, no purge runs during a lockout, and neither a
boost nor a purge outlasts Running. -/
abbrev State.sourceLaws (s : State) : Prop :=
  (s.air.boost.isRunning = true ↔ s.air.source = .pressurize) ∧
  (s.air.purge.isRunning = true ↔ s.air.source = .purge) ∧
  (s.air.source ≠ .recirculate → s.air.clearingHold = 0) ∧ s.air.clearingHold ≤ 8 ∧
  (s.air.source ≠ .purge → s.air.leadSet = [] ∧ s.air.ownClear = 0) ∧ s.air.ownClear ≤ 3 ∧
  (s.air.source = .purge → s.air.lockout.isRunning = false) ∧
  (s.node.state ≠ .running → s.air.source ≠ .pressurize ∧ s.air.source ≠ .purge) ∧
  (s.node.own ∉ s.air.purgeSeen) ∧ (s.node.state = .running → s.air.timer.isRunning = true) ∧
  (s.node.state ≠ .running → s.air.timer = .stopped)

/-- The override set is empty, with its timer stopped, outside Running, and its timer runs while it is not empty
(R144, R146). -/
abbrev State.overrideLaws (s : State) : Prop :=
  (s.air.overrides.inForce = true ↔ s.air.overrideTimer.isRunning = true) ∧
  (s.node.state ≠ .running → s.air.overrides = Overrides.none ∧ s.air.overrideTimer = .stopped)

/-- What the Condition Unit holds while not frozen and while frozen (R147 to R151). -/
abbrev State.freezeLaws (s : State) : Prop :=
  (s.cond.frozen = false → s.cond.pending = 0 ∧ s.cond.swallowed = 0 ∧ s.cond.autoRelease = .stopped) ∧
  (s.cond.frozen = true → s.cond.autoRelease.isRunning = true) ∧ s.cond.swallowed ≤ 255

/-- A condition is active exactly while `b` holds. -/
abbrev State.follows (s : State) (c : Condition) (b : Bool) : Prop := inSet s.cond.active c = b

/-- Each of these conditions is active exactly while its owner's state says so (Table 11-1). -/
abbrev State.ownersFollowed (s : State) : Prop :=
  s.follows .supplyLow (decide (s.node.state = .supplyLow)) ∧ s.follows .addressConflict s.line.listenOnly ∧
  s.follows .lineOff (!s.line.lineOn) ∧ s.follows .lineDegraded s.line.degraded ∧ s.follows .isolated s.line.isolated ∧
  s.follows .allowanceLost (decide (s.allowance.state = .lost)) ∧ s.follows .smokeHigh s.air.smokeHigh ∧
  s.follows .purgeTimeout s.air.lockout.isRunning ∧ (∀ x : Sensor, s.follows x.fault (s.input.sensors.get x).fault) ∧
  s.follows .channelLocked s.drive.anyLocked ∧ s.follows .heaterTrip s.drive.heater.state.afterTrip ∧
  s.follows .clutchTrip s.drive.clutch.state.afterTrip ∧
  (inSet s.cond.active .blowerTrip || inSet s.cond.active .blowerStall) = s.drive.blower.state.afterTrip

/-- The heater interlock (R122): a stage is on only with the blower driven at MinDuty or above and the heater group Running,
the group is Running exactly while a stage is on, and it rests in Off only where the interlock permits no stage of the plan in
force. -/
abbrev State.heaterSafe (s : State) : Prop :=
  (0 < s.drive.stages ↔ s.drive.heater.state = .running) ∧
  (0 < s.drive.stages → s.drive.blower.driving = true ∧ s.params.minDuty ≤ s.drive.duty) ∧
  (s.drive.heater.state = .off →
    s.drive.blower.driving = false ∨ s.drive.duty < s.params.minDuty ∨ s.drive.plan.stages = 0)

/-- The outputs driven are within the plan in force (R99, R121 to R123, R133): the duty figure is 0 or at least MinDuty, is 0
exactly while the blower is not driven, and like the stages and the clutch is no more than the plan's, and no damper is driven under a
plan that holds the dampers. -/
abbrev State.withinPlan (s : State) : Prop :=
  s.drive.duty ≤ s.drive.plan.duty ∧ s.drive.stages ≤ s.drive.plan.stages ∧
  (s.drive.clutch.state = .running → s.drive.plan.clutch = true) ∧
  (s.drive.plan.held = true → s.drive.fresh.drive = none ∧ s.drive.blend.drive = none) ∧
  (0 < s.drive.duty → s.params.minDuty ≤ s.drive.duty) ∧ (s.drive.blower.driving = false → s.drive.duty = 0) ∧
  (s.drive.blower.driving = true → s.params.minDuty ≤ s.drive.duty) ∧
  (0 < s.drive.plan.duty → s.params.minDuty ≤ s.drive.plan.duty) ∧
  (0 < s.air.wantedDuty → s.params.minDuty ≤ s.air.wantedDuty) ∧
  (s.node.state ≠ .running → s.air.wantedDuty = 0) ∧
  (∀ x : Damper, (s.drive.actuator x).drive.isSome = true →
    (s.drive.actuator x).state = .homing ∨ (s.drive.actuator x).state = .moving)

/-- The estimated current of the plan in force is within the applied take (R99), and outside Running the plan drives
nothing. -/
abbrev State.withinTake (s : State) : Prop :=
  s.drive.plan.current s.params ≤ s.share.applied ∧
  (s.node.state ≠ .running → s.drive.plan.clutch = false ∧ s.drive.plan.duty = 0 ∧ s.drive.plan.stages = 0)

/-- Each damper's position estimate and target count lie within its full travel (R131), for commanded positions of at most
1000. -/
abbrev State.withinTravel (s : State) : Prop :=
  (∀ x : Damper, (s.drive.actuator x).position ≤ s.params.travel x ∧
    (s.drive.actuator x).target ≤ s.params.travel x) ∧
  s.air.blend ≤ 1000 ∧ s.air.freshTarget ≤ 1000 ∧ s.air.overrides.blend.getD 0 ≤ 100

/-- A Demand waiting in its slot carries the current values (R4, R8 case 4), frames wait only in the node states in which they
are handed, and none waits in Listen-only (R5, R14, R15). -/
abbrev State.waitingCurrent (s : State) : Prop :=
  (s.line.demandSlot = none ∨ s.line.demandSlot = some (demandContent s)) ∧
  (s.node.state.speaks = false → s.line.demandSlot = none ∧ s.line.statusSlot = none) ∧
  (s.line.listenOnly = true → s.line.demandSlot = none ∧ s.line.statusSlot = none ∧ s.line.reportSlot = none ∧
    s.line.isolated = true)

/-- The supervision counts of the Line Interface lie in their ranges, and the line is Off exactly while the Line Off timer
runs with the fault counter at 32 (R11, R12). -/
abbrev State.lineLaws (s : State) : Prop :=
  s.line.receivedCount ≤ 255 ∧ s.line.erroneousCount ≤ s.line.receivedCount ∧ s.line.faultCounter ≤ 32 ∧
  (s.line.lineOn = false ↔ s.line.lineOffTimer.isRunning = true) ∧ (s.line.lineOn = true → s.line.faultCounter < 32)

/-- The slot of the frame on offer holds a frame, which is that frame unless a newer one replaced it there (R5, R7). -/
def OnLine.stands (l : LineInterface) (o : OnLine) : Bool :=
  match o.frame with
  | .demand c => l.demandSlot.isSome && (o.replaced || decide (l.demandSlot = some c))
  | .status f => l.statusSlot.isSome && (o.replaced || decide (l.statusSlot = some f))
  | .report c => l.reportSlot.isSome && (o.replaced || decide (l.reportSlot = some c))

/-- A frame stays in its slot while it is offered, unless its outcome counts for nothing, and a newer one in its place shows in the
offer (R5, R7, R14). -/
abbrev State.offerLaw (s : State) : Prop := ∀ o ∈ s.line.onLine, o.void = false → o.stands s.line = true

/-- In `m` the offer of one of these slots' frames that `l` had on the line has completed: the line is free and the fault counter
has fallen (R7, R11). -/
def LineInterface.offerCompleted (demand status report : Bool) (l m : LineInterface) : Bool :=
  m.onLine.isNone && decide (m.faultCounter = l.faultCounter - 1) &&
    match l.onLine.map OnLine.frame with
    | some (.demand _) => demand
    | some (.status _) => status
    | some (.report _) => report
    | none => false

/-- An occupied slot keeps its frame, or a newer one in its place, until that slot's frame completes, and Status and Report frames
are replaced by their own events alone; only Listen-only, Sleep and cold start empty the slots otherwise (R5, R7, R9, R14, R15,
R149). -/
abbrev State.slotsKept (s t : State) : Prop :=
  t.line.listenOnly = false → t.node.state ≠ .sleep → t.node.state ≠ .loading →
    (s.line.demandSlot ≠ none → t.line.demandSlot ≠ none ∨ s.line.offerCompleted true false false t.line = true) ∧
    (s.line.statusSlot ≠ none → t.line.statusSlot = s.line.statusSlot ∨ s.line.offerCompleted false true false t.line = true ∨
      (t.line.statusSlot ≠ none ∧ t.line.statusTimer = .running 0)) ∧
    (s.line.reportSlot ≠ none → t.line.reportSlot = s.line.reportSlot ∨ s.line.offerCompleted false false true t.line = true ∨
      (t.line.reportSlot ≠ none ∧ t.cond.frozen = true ∧ t.cond.autoRelease = .running 0))

/-- What the drive of the outputs rests on (R118, R120, R124, Table 8-1): the phase lies within the cycle, a tripped blower's
generator is forced low, the blower is fitted, the heater group is Disabled exactly without stages fitted, and the clutch exactly
without the HOLD strap, and Starting is the blower's state alone. -/
abbrev State.outputLaws (s : State) : Prop :=
  s.drive.pwm.phase < 1000 ∧ (s.drive.blower.state.afterTrip = true → s.drive.pwm.figure = 0) ∧
  s.drive.blower.state ≠ .disabled ∧ (s.drive.heater.state = .disabled ↔ s.params.stagesFitted = 0) ∧
  (s.drive.clutch.state = .disabled ↔ s.node.hold = false) ∧
  s.drive.heater.state ≠ .starting ∧ s.drive.clutch.state ≠ .starting

/-- The leaving phase is a part of Parking (R159). -/
abbrev State.nodeLaws (s : State) : Prop := s.node.state ≠ .parking → s.node.leaving = false

/-- The edge timeout of a sensor has run since the edge of this capture value, within its limit (R104). -/
def SensorEntry.timedSince (now edge : BitVec 16) (e : SensorEntry) : Bool :=
  match e.edgeTimeout with
  | .running us => decide (us ≤ edgeTimeoutLimit) && decide (captureDiff now edge = us)
  | .stopped => false
  | .expired => false

/-- The sample in progress of a sensor whose input has this accepted level: its last edge made that level and started the edge timeout,
and the interval from a beginning rising edge to its fall stays below the limit (R104, R105, R107). -/
def SensorEntry.paced (now : BitVec 16) (level : Option Bool) (e : SensorEntry) : Bool :=
  match e.sample with
  | .none => true
  | .begun rise => decide (level = some true) && e.timedSince now rise
  | .fallen rise fall =>
    decide (level = some false) && decide (captureDiff fall rise < edgeTimeoutLimit) && e.timedSince now fall

/-- The sample in progress of one sensor, at its input. -/
def State.samplePaced (s : State) (x : Sensor) (l : FastInput) : Bool :=
  (s.input.sensors.get x).paced s.input.captureTimer (s.input.fast.get l).accepted

/-- Every sample in progress is as its edges and its edge timeout leave it, so that every interval measured is below 20 ms (R103 to R105,
R107). -/
abbrev State.sampleLaws (s : State) : Prop :=
  (∀ x : TempInput, s.samplePaced x.sensor x.line = true) ∧ (∀ k : SmokeInput, s.samplePaced k.sensor k.line = true)

/-- The output pins show what their blocks drive (R118, R120, R122 to R124, R131): the blower pin is high for the figure's share of the
cycle, low through it at 0 and after a trip, and high through it at 100; heater stage k is on when k is at most the stages driven,
and then the blower is driven at MinDuty or above; the clutch pin is at high impedance without the HOLD strap and otherwise driven
exactly while the channel is Running; a run line is active while its drive runs, under no plan that holds the dampers, and the
direction line then gives its direction. -/
abbrev State.pinsDriven (s : State) : Prop :=
  ((s.blwPwm = true ↔ 100 * s.drive.pwm.phase < 1000 * s.drive.pwm.figure) ∧
    (s.drive.pwm.figure = 0 → s.blwPwm = false) ∧ (s.drive.pwm.figure = 100 → s.blwPwm = true) ∧
    (s.drive.blower.state.afterTrip = true → s.blwPwm = false)) ∧
  (∀ k : Nat, (s.htr k = true ↔ k ≤ s.drive.stages) ∧
    (1 ≤ k → s.htr k = true → s.drive.heater.state = .running ∧ s.drive.blower.driving = true ∧
      s.params.minDuty ≤ s.drive.duty)) ∧
  (s.cluOut = if s.node.hold then some (decide (s.drive.clutch.state = .running)) else none) ∧
  (∀ x : Damper, (s.damperRun x = true ↔ (s.drive.actuator x).drive.isSome = true) ∧
    (s.damperRun x = true → s.drive.plan.held = false ∧ s.damperDir x = (s.drive.actuator x).drive))

/-- The invariant of the part: what every step keeps. -/
structure State.Inv (s : State) : Prop where
  params : s.params.inRange
  loading : s.loadingAtRest
  peers : s.peersInRange
  take : s.takeLaws
  announced : s.announcedLaw
  source : s.sourceLaws
  override : s.overrideLaws
  freeze : s.freezeLaws
  owners : s.ownersFollowed
  heater : s.heaterSafe
  plan : s.withinPlan
  current : s.withinTake
  travel : s.withinTravel
  waiting : s.waitingCurrent
  line : s.lineLaws
  offer : s.offerLaw
  outputs : s.outputLaws
  node : s.nodeLaws
  samples : s.sampleLaws

end Sys2Proof.Machine
end

