-- ==== Sys2Proof/Certificates/Slice0/Obligations.lean ====
section
/-! DEFINITION. The statements for the provers, chapter by chapter of the manual. A command's statement gives the next state it
answers and what that state holds; the blocks it does not name are as they were. -/

open Sys2Proof Sys2Proof.Machine

/-! ### The machine -/

/-- The step rule of the block: with a command at the front of the queue, a step is that command on the state with the queue's
rest. The queue is the model's own (log entry 33). -/
def Obligations.FrontCommandRuns : Prop :=
  ∀ (c : Instr) (rest : List Instr) (s : State), s.pending = c :: rest → step s = exec c { s with pending := rest }

/-- On an empty queue one of the due expiries is taken, whichever the free choice names, and with none due a microsecond passes:
the model's choice of log entries 1 and 4. An expiry is due when its timer has run to the limit its rule gives: R156, R158 and
R159 for the node; R8, R9, R11 and R13 for the line; R22, R23 and R32 for the peers and the allowance; R35, R67, R73, R76, R79,
R95 and R144 for the share and air timers; R104 and R108 for the inputs; R121 and R125 to R127 for the channels; R132, R134, R136
and R137 for the dampers; R149 for the freeze. The end of Loading is due at once with CFGM low (R154), its image then without
effect and written as zeros (log entry 7). In a microsecond every running timer, and every peer entry's age while frames are taken
in, grows by 1 (section 0.8); the capture timer advances by 1 and wraps (R103), and the PWM generator goes on with its cycle
(R120; log entry 26). Each fast input is sampled then and each slow line every 10 ms (R103, R113, R115): two samples that agree
accept a first level silently and make a new level after that an edge or an event, which joins the queue, the lines in a fixed
order (log entry 41); an edge with no event is accepted at once. The pins stay as the outside holds them (log entry 9). -/
def Obligations.EmptyQueueTakesDueOrTicks : Prop :=
  (∀ s : State, s.pending = [] → dueEvents s ≠ [] →
     ∃ c, c ∈ dueEvents s ∧ step s = exec c { s with choices := s.choices + 1 }) ∧
  (∀ (s : State) (c : Instr),
     let reached := fun (x : Timer) (limit : Nat) => match x with
      | .running us => decide (limit ≤ us)
      | _ => false
     let p := s.params
     let aged := fun (n : Node) (f : Freshness) (limit : PeerEntry → Nat) => match s.peers[n] with
      | .entry e => s.node.state.receives && decide (e.freshness = f) && decide (limit e ≤ e.age)
      | _ => false
     c ∈ dueEvents s ↔
       (match c with
        | .loadingComplete image => s.node.state = .loading ∧ s.node.cfgm = false ∧ image = Vector.replicate 83 0
        | .listeningTimerExpiry => s.node.state = .listening ∧ reached s.node.listening (2 * p.refreshInterval * 100000)
        | .sleepDelayExpiry =>
          (s.node.state = .running ∨ s.node.state = .supplyLow) ∧ reached s.node.sleepDelay (p.sleepDelay * 1000000)
        | .parkingTimerExpiry => s.node.state = .parking ∧ reached s.node.parking 30000000
        | .leavingTimerExpiry => s.node.state = .parking ∧ reached s.node.leavingTimer 2000000
        | .lineOffTimerExpiry => reached s.line.lineOffTimer 1000000
        | .inhibitTimerExpiry => reached s.line.inhibit (p.demandInhibit * 1000)
        | .refreshTimerExpiry => reached s.line.refresh (p.refreshInterval * 100000)
        | .statusTimerExpiry => s.node.state.speaks ∧ reached s.line.statusTimer (p.statusInterval * 1000000)
        | .statusBGuardExpiry => reached s.line.statusBGuard 500000
        | .silenceTimerExpiry =>
          s.node.state = .running ∧ p.expectedPeers ≠ 0 ∧ reached s.line.silence (3 * p.refreshInterval * 100000)
        | .autoReleaseExpiry => s.cond.frozen ∧ reached s.cond.autoRelease 10000000
        | .peerAging n => aged n .fresh fun e => 2 * e.refresh * 100000
        | .peerStale n => aged n .aging fun e => 4 * e.refresh * 100000
        | .peerHoldLimit n => aged n .stale fun e => max (p.holdLimit * 1000000) (4 * e.refresh * 100000)
        | .allowanceTimeout => reached s.allowance.age (p.allowanceTimeout * 1000000)
        | .shareExpiry => s.node.state = .running ∧ reached s.share.timer (p.controlPeriod * 1000)
        | .airExpiry => s.node.state = .running ∧ reached s.air.timer (p.controlPeriod * 1000)
        | .boostTimerExpiry => s.air.source = .pressurize ∧ reached s.air.boost (p.boostTime * 1000000)
        | .purgeTimerExpiry => s.air.source = .purge ∧ reached s.air.purge (p.purgeMax * 1000000)
        | .lockoutTimerExpiry => reached s.air.lockout 60000000
        | .minimumOnExpiry => reached s.air.minOn 5000000
        | .minimumOffExpiry => reached s.air.minOff 10000000
        | .overrideLifetimeExpiry => reached s.air.overrideTimer (s.air.overrideLife * 1000000)
        | .edgeTimeoutExpiry x => reached (s.input.sensors.get x).edgeTimeout 20000
        | .windowClose => reached s.input.windowTimer 500000
        | .rampTimerExpiry => s.drive.blower.driving ∧ reached s.drive.ramp 100000
        | .blowerStallExpiry => s.drive.blower.state = .running ∧ reached s.drive.stall 2000000
        | .cooldownTimerExpiry k =>
          (s.drive.channel k).state = .cooldown ∧ reached (s.drive.channel k).cooldown (p.retryDelay * 1000000)
        | .cleanRunExpiry k => reached (s.drive.channel k).cleanRun 60000000
        | .damperStall x =>
          ((s.drive.actuator x).state = .homing ∨ (s.drive.actuator x).state = .moving) ∧
            reached (s.drive.actuator x).stallTimer 300000
        | .coastTimerExpiry x => reached (s.drive.actuator x).coast 100000
        | .reversalTimerExpiry x => (s.drive.actuator x).state = .reversing ∧ reached (s.drive.actuator x).reversal 200000
        | .homingTimerExpiry x => (s.drive.actuator x).state = .homing ∧ reached (s.drive.actuator x).homing 30000000
        | .retryTimerExpiry x =>
          (s.drive.actuator x).state = .stalled ∧ reached (s.drive.actuator x).retry (p.retryDelay * 1000000)
        | _ => False)) ∧
  (∀ s : State, s.pending = [] → dueEvents s = [] → ∃ t, step s = .next t ∧
     (let up := fun x : Timer => match x with
      | .running us => .running (us + 1)
      | other => other
      let channel := fun c : OutputChannel => { c with cleanRun := up c.cleanRun, cooldown := up c.cooldown }
      let actuator := fun a : Actuator =>
        { a with
          stallTimer := up a.stallTimer, coast := up a.coast, reversal := up a.reversal, homing := up a.homing
          retry := up a.retry }
      t.node =
        { s.node with
          listening := up s.node.listening, sleepDelay := up s.node.sleepDelay, parking := up s.node.parking
          leavingTimer := up s.node.leavingTimer } ∧
      t.line =
        { s.line with
          lineOffTimer := up s.line.lineOffTimer
          silence :=
            if s.node.state = .running ∧ s.params.expectedPeers ≠ 0 then up s.line.silence else s.line.silence
          inhibit := up s.line.inhibit, refresh := up s.line.refresh, statusTimer := up s.line.statusTimer
          statusBGuard := up s.line.statusBGuard } ∧
      (∀ n : Node, t.peers[n] = match s.peers[n] with
       | .entry e => .entry { e with age := if s.node.state.receives then e.age + 1 else e.age }
       | other => other) ∧
      t.allowance = { s.allowance with age := up s.allowance.age } ∧
      t.share = { s.share with timer := up s.share.timer } ∧
      t.air =
        { s.air with
          timer := up s.air.timer, overrideTimer := up s.air.overrideTimer, boost := up s.air.boost
          purge := up s.air.purge, lockout := up s.air.lockout, minOn := up s.air.minOn, minOff := up s.air.minOff } ∧
      t.cond = { s.cond with autoRelease := up s.cond.autoRelease } ∧
      t.drive =
        { s.drive with
          blower := channel s.drive.blower, heater := channel s.drive.heater, clutch := channel s.drive.clutch
          ramp := up s.drive.ramp, stall := up s.drive.stall
          pwm :=
            if s.drive.pwm.phase + s.params.pwmFrequency < 1000 then
              ⟨s.drive.pwm.phase + s.params.pwmFrequency, s.drive.pwm.figure⟩
            else ⟨s.drive.pwm.phase + s.params.pwmFrequency - 1000, s.drive.duty⟩
          fresh := actuator s.drive.fresh, blend := actuator s.drive.blend } ∧
      t.input =
        { s.input with
          captureTimer := s.input.captureTimer + 1
          slowCount := if s.input.slowCount + 1 < 10000 then s.input.slowCount + 1 else 0
          windowTimer := up s.input.windowTimer
          sensors := s.input.sensors.map fun e => { e with edgeTimeout := up e.edgeTimeout }
          fast := t.input.fast, slow := t.input.slow }) ∧
     (let pinLevel := fun l : SlowLine => match (s.input.pins.slow l).driven with
      | some level => level
      | none => s.input.pullUps.getLsbD l.pullUpBit || (s.input.pins.slow l).wiring
      let changes := fun (v : Sampler) (level : Bool) => decide (v.last = some level) && decide (v.accepted = some !level)
      (∀ x : FastInput,
       let v := s.input.fast.get x
       let level := s.input.pins.fast x
       t.input.fast.get x =
        ⟨some level,
          if v.last = some level ∧ (v.accepted = none ∨ level = false ∧ x ∈ [.tach, .hallFrs, .hallBld]) then some level
          else v.accepted⟩) ∧
      (∀ l : SlowLine,
       let v := s.input.slow.get l
       t.input.slow.get l =
        (if t.input.slowCount = 0 then
          ⟨some (pinLevel l), if v.last = some (pinLevel l) ∧ v.accepted = none then some (pinLevel l) else v.accepted⟩
         else v)) ∧
      t.pending =
        (allFastInputs.filterMap fun x =>
          if changes (s.input.fast.get x) (s.input.pins.fast x) then
            fastEvent (s.input.captureTimer + 1) x (s.input.pins.fast x)
          else none) ++
        (if t.input.slowCount = 0 then
          allSlowLines.filterMap fun l =>
            if changes (s.input.slow.get l) (pinLevel l) then some (slowEvent l (pinLevel l)) else none
         else [])) ∧
     t.params = s.params ∧ t.choices = s.choices)

/-! ### Start-up, supply and sleep (chapter 12) -/

/-- COLD_START (R153 and the cold-start columns of Tables 1-10, 2-5, 3-3, 4-2, 5-5, 6-2, 7-5, 8-2, 9-2 and 10-2): the straps are
latched, the node enters Loading, and every block takes the cold-start values the manual gives it: among them no level accepted on
any input, the edge timeouts running from the release (R104, R116), and every actuator's timers stopped. The target, the discharge
target, the report mask and the heater group follow the configuration, which stands at its defaults until the end of Loading, as the
model reads it (log entries 6 and 8). The queue and the outside's pin levels are kept, which is the model's choice (log entries 9
and 33). -/
def Obligations.ColdStartValues : Prop :=
  ∀ (st : Straps) (s : State), ∃ t, exec (.coldStart st) s = .next t ∧
    (t.node.state = .loading ∧
      nodeNumber t.node.own = st.node0.toNat + 2 * st.node1.toNat + 4 * st.node2.toNat + 1 ∧ t.node.cfgm = st.cfgm ∧
      t.node.hold = st.hold ∧ t.node.listening = .stopped ∧ t.node.sleepDelay = .stopped ∧ t.node.parking = .stopped ∧
      t.node.leavingTimer = .stopped) ∧
    (t.line.demandSlot = none ∧ t.line.statusSlot = none ∧ t.line.reportSlot = none ∧ t.line.faultCounter = 0 ∧
      t.line.lineOn = true ∧ t.line.receivedCount = 0 ∧ t.line.erroneousCount = 0 ∧ t.line.degraded = false ∧
      t.line.silence = .stopped ∧ t.line.isolated = false ∧ t.line.listenOnly = false ∧ t.line.onLine = none) ∧
    (t.line.aOwed = false ∧ t.line.bOwed = false ∧ t.line.bChangeOwed = false ∧ t.line.statusBGuard = .expired ∧
      t.line.lastDemand = none) ∧
    (∀ n : Node, t.peers[n] = if n = t.node.own then .own else .empty) ∧
    (t.allowance.state = .awaiting ∧ t.allowance.allowance = 0 ∧ t.allowance.stage = 0 ∧ t.allowance.age = .stopped) ∧
    (t.share.timer = .stopped ∧ t.share.grant = 0 ∧ t.share.applied = 0 ∧ t.share.announced = 0 ∧
      t.share.lastCompleted = 0 ∧ t.share.state = .steady) ∧
    (t.air.timer = .stopped ∧ t.air.source = .off ∧ t.air.boost = .stopped ∧ t.air.purge = .stopped ∧
      t.air.lockout = .stopped ∧ t.air.leadSet = [] ∧ t.air.ownClear = 0 ∧ t.air.clearingHold = 0 ∧
      t.air.purgeSeen = [] ∧ t.air.smokeHigh = false ∧ t.air.defrost = false) ∧
    (t.air.cls = .standby ∧ t.air.freshTarget = 0 ∧ t.air.blend = 500 ∧ t.air.heaterWant = 0 ∧
      t.air.changeTimer = none ∧ t.air.riseTimer = none ∧ t.air.level = 0 ∧ t.air.wantedDuty = 0 ∧
      t.air.cooling = false ∧ t.air.actingHolder = false ∧ t.air.clutchWant = false ∧ t.air.clutchCall = false) ∧
    (t.air.minOn.isRunning = false ∧ t.air.minOff.isRunning = false ∧ t.air.request = 0 ∧ t.air.fan = .auto ∧
      t.air.mode = .auto ∧ t.air.overrides = Overrides.none ∧ t.air.overrideTimer = .stopped) ∧
    (t.params = defaultParams ∧ t.air.target = t.params.defaultTarget ∧ t.air.dischargeTarget = t.params.defaultTarget ∧
      t.cond.mask = t.params.reportMask) ∧
    (∀ x : FastInput, (t.input.fast.get x).accepted = none) ∧ (∀ l : SlowLine, (t.input.slow.get l).accepted = none) ∧
    (∀ x : Sensor, (t.input.sensors.get x).value = none ∧ (t.input.sensors.get x).missed = 0 ∧
      (t.input.sensors.get x).fault = false ∧ (t.input.sensors.get x).edgeTimeout = .running 0) ∧
    (t.input.windowTimer = .stopped ∧ t.input.tachValue = none ∧ t.input.pullUps = 0b0000011#7) ∧
    (t.drive.plan = ⟨true, false, 0, 0⟩ ∧ t.drive.blower.state = .off ∧
      t.drive.heater.state = (if t.params.stagesFitted = 0 then .disabled else .off) ∧
      t.drive.clutch.state = (if st.hold then .off else .disabled) ∧ t.drive.duty = 0 ∧ t.drive.stages = 0 ∧
      t.drive.ramp = .stopped ∧ t.drive.stall = .stopped ∧
      (∀ c : Channel, (t.drive.channel c).trips = 0 ∧ (t.drive.channel c).cleanRun = .stopped ∧
        (t.drive.channel c).cooldown = .stopped)) ∧
    (∀ x : Damper, (t.drive.actuator x).state = .unhomed ∧ (t.drive.actuator x).position = 0 ∧
      (t.drive.actuator x).target = 0 ∧ (t.drive.actuator x).drive = none ∧ (t.drive.actuator x).last = .towardZero ∧
      (t.drive.actuator x).stalls = 0 ∧ (t.drive.actuator x).coast = .stopped ∧
      (t.drive.actuator x).stallTimer = .stopped ∧ (t.drive.actuator x).reversal = .stopped ∧
      (t.drive.actuator x).homing = .stopped ∧ (t.drive.actuator x).retry = .stopped) ∧
    (t.cond.active = 0 ∧ t.cond.latched = 0 ∧ t.cond.pending = 0 ∧ t.cond.frozen = false ∧
      t.cond.autoRelease = .stopped ∧ t.cond.swallowed = 0) ∧
    t.pending = s.pending ∧ t.input.pins = s.input.pins

/-- Every cold start, and so the state after reset, meets the invariant of Sys2Proof/Safety.lean. -/
def Obligations.ColdStartMeetsInvariant : Prop :=
  (∀ (st : Straps) (pins : Pins) (q : List Instr) (k : Nat), (State.cold st pins q k).Inv) ∧ State.reset.Inv

/-- LOADING_COMPLETE (R154, R155): in Loading the figures of the image, taken into range, or the defaults take effect together,
ConfigDefault or ConfigClamped arises under the mask just taken, and the node enters Listening with the Listening timer, the
window timer and the allowance age started. The values before the end of Loading, the image as the command's operand and the
heater channel's fitting are the model's reading (log entries 6, 7 and 8). -/
def Obligations.LoadingTakesImage : Prop :=
  ∀ (image : Vector Byte 83) (s : State), s.node.state = .loading → ∃ t, exec (.loadingComplete image) s = .next t ∧
    t.params = (takeImage s.node.cfgm image).1 ∧
    t.node = { s.node with state := .listening, listening := .running 0 } ∧
    t.allowance = { s.allowance with age := .running 0 } ∧
    t.input =
      { s.input with
        pullUps := t.params.pullUps, windowTimer := .running 0, tachCount := 0
        sensors := s.input.sensors.map SensorEntry.openWindow } ∧
    t.air = { s.air with target := t.params.defaultTarget, dischargeTarget := t.params.defaultTarget } ∧
    t.drive =
      { s.drive with
        heater := ⟨if 0 < t.params.stagesFitted then .off else .disabled, 0, .stopped, .stopped⟩ } ∧
    t.cond =
      (let u := { s.cond with mask := t.params.reportMask }
       match (takeImage s.node.cfgm image).2 with
       | .image => u
       | .clampedImage => if inSet u.active .configClamped then u else u.arise .configClamped
       | .defaults => if inSet u.active .configDefault then u else u.arise .configDefault) ∧
    s.sameExcept [.params, .node, .allowance, .input, .air, .drive, .cond] t

/-- The configuration in force (R154, R155): whatever the image, every figure lies in its range of Table 12-1; from an image with the
marker each figure is the two-byte figure at its offset of Table 12-1, below its range the lower bound and above it the upper one,
the control period first rounded down to a multiple of 50 and the leave ranges reckoned from the enter figures taken; an image whose
figures all lie in their ranges is taken as it stands, without a clamp; and without CFGM or the marker the defaults are taken. -/
def Obligations.ConfigurationInRange : Prop :=
  ∀ (cfgm : Bool) (image : Vector Byte 83),
    (takeImage cfgm image).1.inRange ∧
    (cfgm = true → markerMatches image = true → (rawParams image).inRange →
      takeImage cfgm image = (rawParams image, .image)) ∧
    (cfgm = true → markerMatches image = true → ¬ (rawParams image).inRange →
      takeImage cfgm image = (takeParams (rawParams image), .clampedImage)) ∧
    (cfgm = true → markerMatches image = true →
      (let byte := fun i : Nat => image.toList.getD i 0
       let figure := fun i : Nat => 256 * (byte i).toNat + (byte (i + 1)).toNat
       let taken := fun lo hi x : Nat => max lo (min hi x)
       let smoke := taken 10 500 (figure 42)
       let purge := taken 10 500 (figure 46)
       (takeImage cfgm image).1 =
        { controlPeriod := taken 100 1000 (figure 2 / 50 * 50), refreshInterval := taken 5 20 (figure 4)
          demandInhibit := taken 50 500 (figure 6), statusInterval := taken 1 10 (figure 8)
          holdLimit := taken 10 60 (figure 10), expectedPeers := taken 0 7 (figure 12)
          isolatedCap := taken 0 600 (figure 14), fallbackAllowance := taken 0 2000 (figure 16)
          allowanceTimeout := taken 1 10 (figure 18), raiseStep := taken 10 200 (figure 20)
          baseLoad := taken 0 50 (figure 22), blowerFull := taken 20 400 (figure 24), minDuty := taken 20 50 (figure 26)
          pwmFrequency := taken 1 25 (figure 28), stagesFitted := taken 0 4 (figure 30)
          stageCurrent := taken 20 250 (figure 32), stageDwell := taken 1 10 (figure 34)
          clutchCurrent := taken 10 80 (figure 36), freshTravel := taken 50 2000 (figure 38)
          blendTravel := taken 50 2000 (figure 40), smokeEnter := smoke, smokeLeave := taken 0 (smoke - 10) (figure 44)
          purgeEnter := purge, purgeLeave := taken 0 (purge - 5) (figure 48), purgeMax := taken 30 600 (figure 50)
          boostTime := taken 5 60 (figure 52), boostLevel := taken 1 8 (figure 54)
          recoveryError := taken 20 150 (figure 56), cabGain := taken 10 80 (figure 58)
          blendGain := taken 1 40 (figure 60), retryDelay := taken 2 30 (figure 62), errorLimit := taken 1 128 (figure 64)
          airSpace := taken 1 4 (figure 66), doorsFitted := taken 0 2 (figure 68)
          sensorsFitted := BitVec.ofNat 6 (figure 70), pulsesPerRev := taken 1 4 (figure 72)
          pullUps := BitVec.ofNat 7 (figure 74), reportMask := byte 78 ++ byte 77 ++ byte 76
          sleepDelay := taken 10 600 (figure 79), defaultTarget := taken 150 300 (figure 81) })) ∧
    (cfgm = false ∨ markerMatches image = false → takeImage cfgm image = (defaultParams, .defaults))

/-- LISTENING_TIMER_EXPIRY (R156), and SUPPLY_OK_ASSERTED after it: the node enters Running at the expiry if SUPPLY_OK reads
asserted, and otherwise at the event that accepts it asserted; the sleep-delay timer starts if IGN then reads off. The fresh
damper target settled at the entry into Running is the model's reading (log entry 23). -/
def Obligations.ListeningEndsInRunning : Prop :=
  (∀ s : State, s.node.state = .listening → s.node.listening.isRunning = true → s.lineLevel .supplyOk = true →
    ∃ t, exec .listeningTimerExpiry s = .next t ∧ s.enteredRunning true t ∧
      t.node =
        { s.node with
          listening := .expired, state := .running, leaving := false
          sleepDelay := if s.lineLevel .ign then s.node.sleepDelay else .running 0 } ∧
      t.input = s.input ∧ s.condsSameBut [.freshDamperStall] t) ∧
  (∀ s : State, s.node.state = .listening → s.node.listening.isRunning = true → s.lineLevel .supplyOk = false →
    ∃ t, exec .listeningTimerExpiry s = .next t ∧ t.node = { s.node with listening := .expired } ∧
      s.sameExcept [.node] t) ∧
  (∀ s : State, s.node.state = .listening → s.node.listening = .expired → s.accepts .supplyOk true = true →
    ∃ t, exec .supplyOkAsserted s = .next t ∧ s.enteredRunning true t ∧
      t.node =
        { s.node with
          state := .running, leaving := false
          sleepDelay := if s.lineLevel .ign then s.node.sleepDelay else .running 0 } ∧
      t.input = (s.accept .supplyOk true).input ∧ s.condsSameBut [.freshDamperStall] t)

/-- SUPPLY_OK_DEASSERTED and SUPPLY_OK_ASSERTED (R156, R157, R100, R129): at the loss in Running the node goes to SupplyLow,
which is a leaving of Running; the plan of the event turns every output off and holds the dampers, and SupplyLow becomes active.
At the return in SupplyLow the node is in Running again with the sleep-delay timer as it was and SupplyLow inactive. In the
other states, but for a return that ends Listening, the level is accepted and nothing else. The order of the plan and the fresh
damper target in the leaving event, and the target settled at the return, are the model's reading (log entries 17 and 23); a
level already accepted is no event (log entry 24). -/
def Obligations.SupplyLossAndReturn : Prop :=
  (∀ s : State, s.Inv → s.accepts .supplyOk false = true → ∃ t, exec .supplyOkDeasserted s = .next t ∧
     (s.node.state = .running →
       s.leftRunning t ∧ t.node = { s.node with state := .supplyLow } ∧ t.drive.plan = ⟨true, false, 0, 0⟩ ∧
       t.air.freshTarget = t.air.source.freshTarget ∧ t.input = (s.accept .supplyOk false).input ∧
       inSet t.cond.active .supplyLow = true ∧ t.drive.fresh.drive = none ∧ t.drive.blend.drive = none) ∧
     (s.node.state ≠ .running → s.onlyAccepted .supplyOk false t)) ∧
  (∀ s : State, s.accepts .supplyOk true = true → ∃ t, exec .supplyOkAsserted s = .next t ∧
     (s.node.state = .supplyLow →
       s.enteredRunning false t ∧ t.node = { s.node with state := .running, leaving := false } ∧
       t.input = (s.accept .supplyOk true).input ∧ inSet t.cond.active .supplyLow = false ∧
       s.condsSameBut [.supplyLow, .freshDamperStall] t) ∧
     (s.node.state ≠ .supplyLow → ¬ (s.node.state = .listening ∧ s.node.listening = .expired) →
       s.onlyAccepted .supplyOk true t))

/-- IGN_ACCEPTED_LOW and IGN_ACCEPTED_HIGH (R34, R108, R158, R159): off in Running or SupplyLow starts the sleep-delay timer
from 0, and in the other states the level is accepted and nothing else. On ends Sleep in Listening with its timer, the window
timer and the allowance age started; it ends Parking in Running, or in SupplyLow if SUPPLY_OK reads deasserted, with the Parking
and leaving timers stopped; in the other states the sleep-delay timer stops and nothing else happens. The fresh damper target
settled at the return is the model's reading (log entry 23); a level already accepted is no event (log entry 24). -/
def Obligations.IgnitionOffAndOn : Prop :=
  (∀ s : State, s.accepts .ign false = true → ∃ t, exec .ignAcceptedLow s = .next t ∧
     t.node =
       (if s.node.state = .running ∨ s.node.state = .supplyLow then { s.node with sleepDelay := .running 0 } else s.node) ∧
     t.input = (s.accept .ign false).input ∧ s.line.sameOutsideSlots t.line ∧ s.sameExcept [.node, .input, .line] t) ∧
  (∀ s : State, s.accepts .ign true = true → ∃ t, exec .ignAcceptedHigh s = .next t ∧
     (s.node.state = .sleep →
       t.node = { s.node with state := .listening, listening := .running 0, sleepDelay := .stopped } ∧
       t.allowance = { s.allowance with age := .running 0 } ∧
       t.input =
         { (s.accept .ign true).input with
           windowTimer := .running 0, tachCount := 0
           sensors := s.input.sensors.map SensorEntry.openWindow } ∧
       s.sameExcept [.node, .allowance, .input] t) ∧
     (s.node.state = .parking → s.lineLevel .supplyOk = true →
       s.enteredRunning false t ∧ t.input = (s.accept .ign true).input ∧ s.condsSameBut [.freshDamperStall] t ∧
       t.node =
         { s.node with
           state := .running, sleepDelay := .stopped, parking := .stopped, leavingTimer := .stopped, leaving := false }) ∧
     (s.node.state = .parking → s.lineLevel .supplyOk = false →
       t.node =
         { s.node with
           state := .supplyLow, sleepDelay := .stopped, parking := .stopped, leavingTimer := .stopped
           leaving := false } ∧
       inSet t.cond.active .supplyLow = true ∧ s.freshSettled t ∧
       t.air = { s.air with freshTarget := t.air.freshTarget } ∧ t.input = (s.accept .ign true).input ∧
       (s.raise .supplyLow).condsSameBut [.freshDamperStall] t ∧ s.line.sameOutsideSlots t.line ∧
       s.sameExcept [.node, .air, .drive, .cond, .input, .line] t) ∧
     (s.node.state ≠ .sleep → s.node.state ≠ .parking →
       t.node = { s.node with sleepDelay := .stopped } ∧ t.input = (s.accept .ign true).input ∧
       s.line.sameOutsideSlots t.line ∧ s.sameExcept [.node, .input, .line] t))

/-- SLEEP_DELAY_EXPIRY (R81, R146, R158, R159): from Running or SupplyLow the node enters Parking with the take at 0, every output
off, the override set empty, the fresh damper target 0 and the Parking timer started; the damper test of R159, that the fresh
actuator is Idle, Stalled or Failed, is made at once. In Listen-only that test may end in Sleep. From Running the plan of the event
holds the dampers with a base load above 0 and frees them with one of 0 (R140; by R140 rather than step 1 of R98 is the model's
reading, log entry 43). The model's choices: the plan is handed before the fresh damper target (log entry 17), and the damper test
looks at the state the event leaves (log entry 46). -/
def Obligations.SleepDelayParks : Prop :=
  ∀ s : State, s.Inv → s.node.sleepDelay.isRunning = true → s.line.listenOnly = false →
    (s.node.state = .running ∨ s.node.state = .supplyLow) → ∃ t, exec .sleepDelayExpiry s = .next t ∧
    (let rests := decide (t.drive.fresh.state = .idle ∨ t.drive.fresh.state = .stalled ∨ t.drive.fresh.state = .failed)
     t.node =
      { s.node with
        state := .parking, sleepDelay := .stopped, parking := .running 0, leaving := rests
        leavingTimer := if rests then .running 0 else s.node.leavingTimer } ∧
     (rests = true → t.line.leavingWaits)) ∧
    t.air.freshTarget = 0 ∧ t.air.overrides = Overrides.none ∧ t.air.overrideTimer = .stopped ∧
    t.share.applied = 0 ∧ t.share.announced = 0 ∧ t.share.grant = 0 ∧ t.drive.allOff ∧
    (s.node.state = .running → s.leftRunning t ∧
      t.drive.plan.held = decide (0 < s.params.baseLoad)) ∧
    (s.node.state = .supplyLow →
      inSet t.cond.active .supplyLow = false ∧ s.freshSettled t ∧ s.share = t.share ∧
      t.air = { s.air with freshTarget := 0 } ∧ s.condsSameBut [.supplyLow, .freshDamperStall] t ∧
      s.line.sameOutsideSlots t.line ∧ s.sameExcept [.node, .air, .line, .drive, .cond] t)

/-- PARKING_TIMER_EXPIRY, and Parking in Listen-only (R159): the wait ends and the leaving Demand is handed, with the leaving
flag, take 0 and request 0, and the leaving timer starts; when the leaving phase has already begun the expiry does nothing more;
in Listen-only the handing is refused and the node sleeps in that event. So does every event of the fresh actuator, and the
entry into Parking itself, that would begin the leaving phase were Listen-only not set; one that would not moves the actuators
alike. The leaving phase fixes the leaving flag, the take and the request alone (log entry 29). -/
def Obligations.ParkingWaitEnds : Prop :=
  (∀ s : State, s.node.state = .parking → s.node.parking.isRunning = true →
    ∃ t, exec .parkingTimerExpiry s = .next t ∧
    (s.node.leaving = true →
      t.node = { s.node with parking := .expired } ∧ s.line.sameOutsideSlots t.line ∧ s.sameExcept [.node, .line] t) ∧
    (s.node.leaving = false → s.line.listenOnly = false →
      t.node = { s.node with parking := .expired, leaving := true, leavingTimer := .running 0 } ∧ t.line.leavingWaits ∧
      s.line.sameOutsideSlots t.line ∧ s.sameExcept [.node, .line] t) ∧
    (s.node.leaving = false → s.line.listenOnly = true → t.node.state = .sleep)) ∧
  (∀ (x : Damper) (c : Instr) (s : State), s.node.leaving = false → s.line.listenOnly = true →
    (s.node.state = .parking ∧
        c ∈ [.hallEdge x, .damperStall x, .homingTimerExpiry x, .reversalTimerExpiry x, .retryTimerExpiry x]) ∨
      (c = .sleepDelayExpiry ∧ s.node.sleepDelay.isRunning = true ∧
        (s.node.state = .running ∨ s.node.state = .supplyLow)) →
    ∃ t u, exec c s = .next t ∧ exec c { s with line := { s.line with listenOnly := false } } = .next u ∧
      u.node.state = .parking ∧
      (u.node.leaving = true → t.node.state = .sleep ∧ t.line.demandSlot = none ∧ t.drive.fresh = u.drive.fresh.sleep) ∧
      (u.node.leaving = false → t.node = u.node ∧ t.drive = u.drive ∧ t.cond = u.cond ∧ t.air = u.air ∧
        t.share = u.share))

/-- LEAVING_TIMER_EXPIRY (R159 and the Sleep columns of Tables 1-10, 2-3, 2-5, 5-5, 7-5, 8-2, 9-2 and 10-2): the node enters
Sleep; every block takes the values the manual gives for that entry and keeps the rest. A frame on the line at that moment is
forgotten, the stall count of every actuator becomes 0, and the sample in progress is discarded, as the model reads them (log
entries 16, 21 and 30). -/
def Obligations.LeavingTimerSleeps : Prop :=
  ∀ s : State, s.Inv → s.node.state = .parking → s.node.leavingTimer.isRunning = true →
    ∃ t, exec .leavingTimerExpiry s = .next t ∧
    t.node =
      { s.node with
        state := .sleep, listening := .stopped, sleepDelay := .stopped, parking := .stopped, leavingTimer := .stopped
        leaving := false } ∧
    t.line =
      { s.line with
        demandSlot := none, statusSlot := none, reportSlot := none, onLine := none, faultCounter := 0, lineOn := true
        lineOffTimer := .stopped, receivedCount := 0, erroneousCount := 0, degraded := false, silence := .stopped
        isolated := s.line.isolated && s.line.listenOnly, inhibit := .stopped, refresh := .stopped
        statusTimer := .stopped, aOwed := false, bOwed := false, bChangeOwed := false } ∧
    (∀ n : Node, t.peers[n] = if n = s.node.own then .own else .empty) ∧
    t.allowance = { s.allowance with state := .awaiting, age := .stopped } ∧ t.share = s.share ∧
    t.air =
      { s.air with
        source := .off, boost := .stopped, purge := .stopped, lockout := .stopped, clearingHold := 0, ownClear := 0
        leadSet := [], purgeSeen := [], smokeHigh := false, defrost := false, cls := .standby, freshTarget := 0
        minOn := .stopped, minOff := .stopped } ∧
    t.input =
      { s.input with
        windowTimer := .stopped, sensors := t.input.sensors, tachCount := 0, tachValue := none } ∧
    (∀ x : Sensor, t.input.sensors.get x =
      { s.input.sensors.get x with sample := .none, sum := 0, count := 0, value := none, missed := 0, fault := false }) ∧
    t.drive.allOff ∧ t.drive.plan.held = s.drive.plan.held ∧
    (∀ c : Channel, (t.drive.channel c).trips = (s.drive.channel c).trips ∧
      (t.drive.channel c).cooldown = (s.drive.channel c).cooldown ∧
      (t.drive.channel c).state =
        (if (s.drive.channel c).driving then .off else (s.drive.channel c).state)) ∧
    (∀ x : Damper, t.drive.actuator x =
      { s.drive.actuator x with
        state :=
          match (s.drive.actuator x).state with
          | .unhomed => .unhomed
          | .failed => .failed
          | _ => .idle
        drive := none, resume := none, stalls := 0
        coast := if (s.drive.actuator x).drive.isSome then .running 0 else (s.drive.actuator x).coast
        stallTimer := .stopped, homing := .stopped, reversal := .stopped, retry := .stopped }) ∧
    t.cond = { s.cond with active := t.cond.active } ∧
    (∀ c : Condition, inSet t.cond.active c =
      (inSet s.cond.active c && !c.endsAtSleep && (decide (c ≠ .isolated) || s.line.listenOnly))) ∧
    s.sameExcept [.node, .line, .peers, .allowance, .air, .input, .drive, .cond] t

/-! ### The Zone Exchange (chapter 1) -/

/-- RECEIVE_ERROR, FRAME_DISCARDED_FOR_LENGTH and ERROR_WINDOW_CLOSE (R2, R12): a receive error and a frame discarded for its
length add 1 to both counts and touch neither the silence timer nor Isolated; the counted reception, of whatever kind, that would
bring the received count to 256 closes the window: both counts return to 0 and Line Degraded is set exactly when the erroneous
count, that reception included, is at least the error limit. LineDegraded follows the flag. Receptions are taken in Listening,
Running, SupplyLow and Parking (R15). Every counted reception counts so, by whichever row it comes, and ERROR_WINDOW_CLOSE answers
what the reception's own row answers. The closing reception as a command of its own is the model's reading (log entry 11); that a
conflict frame counts as good is log entry 13, and the order of the counts, the silence timer and the block log entry 12. -/
def Obligations.ErrorWindowCounts : Prop :=
  (∀ (c : Instr) (s : State), s.node.state.receives = true →
     (c = .receiveError ∨ ∃ f, c = .frameDiscardedForLength f ∧ sortFrame s.node.own f = .badLength) →
     ∃ t, exec c s = .next t ∧
     (let d := if s.line.receivedCount < 255 then s.line.degraded else decide (s.params.errorLimit ≤ s.line.erroneousCount + 1)
      ({ s.line with
         receivedCount := if s.line.receivedCount < 255 then s.line.receivedCount + 1 else 0
         erroneousCount := if s.line.receivedCount < 255 then s.line.erroneousCount + 1 else 0
         degraded := d } : LineInterface).sameOutsideSlots t.line ∧
      t.cond = (s.setCond d .lineDegraded).cond) ∧
     s.sameExcept [.line, .cond] t) ∧
  (∀ (r : Reception) (c : Instr) (s : State), s.Inv → s.node.state.receives = true → r.counts s.node.own = true →
     c = r.row s.node.own ∨ (c = .errorWindowClose r ∧ s.line.receivedCount = 255) → ∃ t, exec c s = .next t ∧
     (let errors := s.line.erroneousCount +
       (match r with
        | .error => 1
        | .frame f => if sortFrame s.node.own f = .badLength then 1 else 0)
      t.line.receivedCount = (if s.line.receivedCount < 255 then s.line.receivedCount + 1 else 0) ∧
      t.line.erroneousCount = (if s.line.receivedCount < 255 then errors else 0) ∧
      t.line.degraded =
        (if s.line.receivedCount < 255 then s.line.degraded else decide (s.params.errorLimit ≤ errors))) ∧
     inSet t.cond.active .lineDegraded = t.line.degraded ∧ t.params = s.params ∧ t.pending = s.pending ∧
     t.choices = s.choices ∧ t.node.own = s.node.own) ∧
  (∀ (r : Reception) (s : State), s.line.receivedCount = 255 → r.counts s.node.own = true →
     exec (.errorWindowClose r) s = exec (r.row s.node.own) s) ∧
  (∀ n : NodeState, n.receives = true ↔ n = .listening ∨ n = .running ∨ n = .supplyLow ∨ n = .parking)

/-- IGNORED_FRAME and OUTSIDE_EXCHANGE_FRAME (R1, R2, R13, R15, R63): in the four node states that receive, a frame no block uses
restarts the silence timer and, unless Listen-only holds, clears Isolated, at which T is trimmed to Lc and the register stands
Steady; an ignored Exchange frame counts as good, closing the error window at a received count of 255, and a frame outside the
Exchange does not count; one received with an error has no effect, as the model reads it (log entry 31). What an ignored frame does
is what every good frame does before its block (State.heardGood). The order of the counts, the silence timer and the block is the
model's reading (log entry 12); the silence timer restarts in Listen-only too (log entry 28). A plan that cuts the duty figure
stops the ramp timer, as the model reads R121 (log entry 48). -/
def Obligations.WellFormedFrameHeard : Prop :=
  (∀ (f : Frame) (s : State), exec (.outsideExchangeFrame f false) s = .next s) ∧
  ∀ (c : Instr) (good : Bool) (s : State), s.Inv →
    (s.node.state = .listening ∨ s.node.state = .running ∨ s.node.state = .supplyLow ∨ s.node.state = .parking) →
    (if good then ∃ f, c = .ignoredFrame f ∧ sortFrame s.node.own f = .ignored
     else ∃ f, c = .outsideExchangeFrame f true ∧ sortFrame s.node.own f = .outside) →
    ∃ t, exec c s = .next t ∧
    t.line.silence = (if s.params.expectedPeers = 0 then .stopped else .running 0) ∧
    t.line.isolated = (s.line.isolated && s.line.listenOnly) ∧ inSet t.cond.active .isolated = t.line.isolated ∧
    t.line.receivedCount =
      (if good then (if s.line.receivedCount < 255 then s.line.receivedCount + 1 else 0) else s.line.receivedCount) ∧
    (good = false ∨ s.line.receivedCount < 255 → t.line.erroneousCount = s.line.erroneousCount ∧
      t.line.degraded = s.line.degraded) ∧
    (good = true → s.line.receivedCount = 255 → t.line.erroneousCount = 0 ∧
      t.line.degraded = decide (s.params.errorLimit ≤ s.line.erroneousCount)) ∧
    inSet t.cond.active .lineDegraded = t.line.degraded ∧
    t.share =
      (if s.line.isolated && !s.line.listenOnly then
        { s.share with
          applied := min s.share.applied s.share.lastCompleted
          announced := min s.share.applied s.share.lastCompleted
          state := .steady }
       else s.share) ∧
    s.replannedOnFall t ∧
    ({ s.line with
      silence := t.line.silence
      isolated := t.line.isolated
      receivedCount := t.line.receivedCount
      erroneousCount := t.line.erroneousCount
      degraded := t.line.degraded } : LineInterface).sameOutsideSlots t.line ∧
    (good = true → s.heardGood.line.sameOutsideSlots t.line ∧ s.heardGood.sameExcept [.line] t) ∧
    s.sameExcept [.line, .share, .air, .drive, .cond] t

/-- ADDRESS_CONFLICT (R14, R62): the first frame bearing the own node number enters Listen-only: AddressConflict becomes active,
the slots are emptied, the marks clear, Isolated is set with T trimmed to the isolated cap, and a frame on the line counts for
nothing. While Listen-only holds a further one is counted as good, restarts the silence timer and has no other effect. That the
frame counts as good and restarts the silence timer is the model's reading (log entry 13). A plan that cuts the duty figure stops
the ramp timer, as the model reads R121 (log entry 48). -/
def Obligations.ConflictEntersListenOnly : Prop :=
  ∀ (f : Frame) (s : State), s.Inv → s.node.state.receives = true → sortFrame s.node.own f = .conflict →
    ∃ t, exec (.addressConflict f) s = .next t ∧
    t.line =
      { s.line with
        receivedCount := if s.line.receivedCount < 255 then s.line.receivedCount + 1 else 0
        erroneousCount := if s.line.receivedCount < 255 then s.line.erroneousCount else 0
        degraded :=
          if s.line.receivedCount < 255 then s.line.degraded else decide (s.params.errorLimit ≤ s.line.erroneousCount)
        silence := if s.params.expectedPeers = 0 then .stopped else .running 0
        listenOnly := true
        isolated := true
        demandSlot := none
        statusSlot := none
        reportSlot := none
        aOwed := t.line.aOwed
        bOwed := t.line.bOwed
        bChangeOwed := t.line.bChangeOwed
        onLine := if s.line.listenOnly then s.line.onLine else s.line.onLine.map fun o => { o with void := true } } ∧
    (s.line.listenOnly = false → t.line.aOwed = false ∧ t.line.bOwed = false ∧ t.line.bChangeOwed = false) ∧
    t.share =
      (if s.line.listenOnly then s.share
       else
        { s.share with
          applied := min s.share.applied s.params.isolatedCap
          announced := min s.share.applied s.params.isolatedCap
          state := .steady }) ∧
    inSet t.cond.active .addressConflict = true ∧ inSet t.cond.active .isolated = true ∧ s.replannedOnFall t ∧
    (s.line.listenOnly = true → t.cond = (s.setCond t.line.degraded .lineDegraded).cond ∧ s.sameExcept [.line, .cond] t) ∧
    s.sameExcept [.line, .share, .air, .drive, .cond] t

/-- OFFER_FRAME and LOST_ARBITRATION (R6, R7, R15): with transmission permitted, in Running, SupplyLow and Parking, and no offer in
progress the occupied slot's frame with the lowest identifier goes on the line; otherwise nothing does; a lost arbitration ends the
offer and leaves every slot and the fault counter as they are. The command itself says that the line is idle, which is the model's
choice (log entry 25). -/
def Obligations.OfferLowestIdentifier : Prop :=
  (∀ s : State, ∃ t, exec .offerFrame s = .next t ∧ s.sameExcept [.line] t ∧
    t.line = { s.line with onLine := t.line.onLine } ∧
    (¬ (s.node.state.speaks = true ∧ s.line.lineOn = true ∧ s.line.listenOnly = false) ∨ s.line.onLine ≠ none →
      t.line.onLine = s.line.onLine) ∧
    (s.node.state.speaks = true → s.line.lineOn = true → s.line.listenOnly = false → s.line.onLine = none →
      let waiting := (s.line.demandSlot.map TxFrame.demand).toList ++ (s.line.reportSlot.map TxFrame.report).toList ++
        (s.line.statusSlot.map TxFrame.status).toList
      (waiting = [] → t.line.onLine = none) ∧
      (waiting ≠ [] → ∃ f, f ∈ waiting ∧ t.line.onLine = some ⟨f, false, false⟩ ∧
        ∀ g, g ∈ waiting → f.ident s.node.own ≤ g.ident s.node.own))) ∧
  (∀ s : State, exec .lostArbitration s = .next { s with line := { s.line with onLine := none } }) ∧
  (∀ n : NodeState, n.speaks = true ↔ n = .running ∨ n = .supplyLow ∨ n = .parking)

/-- TRANSMIT_FAILURE, LINE_OFF and LINE_OFF_TIMER_EXPIRY (R7, R11, R14): a failure adds 1 to the line fault counter and keeps what
the slots hold, to be offered again; the one that brings it to 32 takes the line Off, starts the Line Off timer and raises LineOff;
at that timer's expiry the counter is 0, the line On and LineOff inactive. The outcome of an offer made void by Listen-only counts
for nothing. LINE_OFF as the failure that brings the counter to 32 is the model's reading (log entry 11). -/
def Obligations.FailuresTakeLineOff : Prop :=
  (∀ (o : OnLine) (s : State), s.line.onLine = some o → s.line.lineOn = true → s.line.faultCounter < 32 →
    ∃ t, exec .transmitFailure s = .next t ∧
    ({ s.line with
      onLine := none
      faultCounter := if o.void then s.line.faultCounter else s.line.faultCounter + 1
      lineOn := o.void || decide (s.line.faultCounter ≠ 31)
      lineOffTimer := if o.void = false ∧ s.line.faultCounter = 31 then .running 0 else s.line.lineOffTimer }
      : LineInterface).sameOutsideSlots t.line ∧
    t.line.demandSlot = s.line.demandSlot ∧ t.line.reportSlot = s.line.reportSlot ∧
    (s.line.statusSlot ≠ none → t.line.statusSlot = s.line.statusSlot) ∧
    t.cond = (if o.void = false ∧ s.line.faultCounter = 31 then (s.raise .lineOff).cond else s.cond) ∧
    s.sameExcept [.line, .cond] t) ∧
  (∀ (o : OnLine) (s : State), s.line.onLine = some o → o.void = false → s.line.lineOn = true → s.line.faultCounter = 31 →
    ∃ t, exec .lineOff s = .next t ∧ t.line.faultCounter = 32 ∧ t.line.lineOn = false ∧
    t.line.lineOffTimer = .running 0 ∧ t.line.demandSlot = s.line.demandSlot ∧ t.line.reportSlot = s.line.reportSlot ∧
    (s.line.statusSlot ≠ none → t.line.statusSlot = s.line.statusSlot) ∧
    inSet t.cond.active .lineOff = true ∧ s.sameExcept [.line, .cond] t ∧
    exec .lineOff s = exec .transmitFailure s) ∧
  (∀ s : State, s.line.lineOffTimer.isRunning = true → ∃ t, exec .lineOffTimerExpiry s = .next t ∧
    ({ s.line with faultCounter := 0, lineOn := true, lineOffTimer := .stopped } : LineInterface).sameOutsideSlots t.line ∧
    t.line.demandSlot = s.line.demandSlot ∧ t.line.reportSlot = s.line.reportSlot ∧
    (s.line.statusSlot ≠ none → t.line.statusSlot = s.line.statusSlot) ∧
    t.cond = (s.lower .lineOff).cond ∧ s.sameExcept [.line, .cond] t)

/-- DEMAND_COMPLETION (R7, R8, R14, R56, R159): the fault counter falls by 1, the slot empties unless a newer frame took it, the
content sent becomes the last completed Demand, the inhibit and refresh timers restart, Lc becomes the take sent, and an
Announcing register whose A it carries becomes Announced; T and A do not change. A leaving Demand that completes in the leaving
phase sends the node to Sleep. The end of a frame made void by Listen-only frees the line alone. The leaving phase fixes the
leaving flag, the take and the request alone (log entry 29). -/
def Obligations.DemandCompletes : Prop :=
  ∀ (o : OnLine) (c : Demand) (s : State), s.line.onLine = some o → o.frame = .demand c →
    ∃ t, exec .demandCompletion s = .next t ∧
    (o.void = true → t = { s with line := { s.line with onLine := none } }) ∧
    (o.void = false → ¬ (c.leaving = true ∧ s.node.state = .parking ∧ s.node.leaving = true) →
      ({ s.line with
        onLine := none
        faultCounter := s.line.faultCounter - 1
        lastDemand := some c
        inhibit := .running 0
        refresh := .running 0 } : LineInterface).sameOutsideSlots t.line ∧
      t.line.demandSlot = (if o.replaced then s.line.demandSlot else none) ∧
      t.share =
        { s.share with
          lastCompleted := c.take
          state := if s.share.state = .announcing ∧ s.share.announced ≤ c.take then .announced else s.share.state } ∧
      s.sameExcept [.line, .share] t) ∧
    (o.void = false → c.leaving = true ∧ s.node.state = .parking ∧ s.node.leaving = true →
      t.node.state = .sleep ∧ t.line.demandSlot = none ∧ t.line.lastDemand = some c ∧
      t.share.lastCompleted = c.take ∧ t.share.applied = s.share.applied)

/-- FRAME_COMPLETION (R7, R9, R14): the fault counter falls by 1 and the frame's slot empties unless a newer frame took it; a Status
B restarts the guard; the emptied Status slot is served at once in the order of R9. Other blocks are told nothing. The end of a
frame made void by Listen-only frees the line alone. That the command leaves the state as it was where the frame on the line is a
Demand, whose completion is the row DEMAND_COMPLETION, is the model's choice (log entry 3). -/
def Obligations.StatusAndReportComplete : Prop :=
  ∀ (o : OnLine) (s : State), s.line.onLine = some o → s.line.listenOnly = false ∨ o.void = true →
    (∃ t, exec .frameCompletion s = .next t ∧ s.sameExcept [.line] t ∧
      (∀ c, o.frame = .demand c → t = s) ∧
      (∀ c, o.frame = .report c → o.void = false →
        t.line.reportSlot = (if o.replaced then s.line.reportSlot else none) ∧
        ({ s.line with onLine := none, faultCounter := s.line.faultCounter - 1, reportSlot := t.line.reportSlot }
          : LineInterface).sameOutsideSlots t.line ∧
        (s.line.statusSlot.isSome = true → t.line.statusSlot = s.line.statusSlot) ∧
        t.line.demandSlot = s.line.demandSlot) ∧
      (∀ f, o.frame = .status f → o.void = false →
        (let b := match f with
          | .a _ => false
          | .b _ => true
         ({ s.line with
            onLine := none, faultCounter := s.line.faultCounter - 1
            statusBGuard := if b then .running 0 else s.line.statusBGuard } : LineInterface).sameOutsideSlots t.line ∧
         t.line.demandSlot = s.line.demandSlot ∧
         (o.replaced = true → s.line.statusSlot.isSome = true → t.line.statusSlot = s.line.statusSlot) ∧
         (o.replaced = false → s.node.state.speaks = true →
          t.line.statusSlot =
            (if s.line.aOwed then some (.a (statusAContent s))
             else if s.line.bOwed || (s.line.bChangeOwed && !b && !s.line.statusBGuard.isRunning) then
              some (.b (statusBContent s))
             else none)))) ∧
      (o.void = true → (∀ c, o.frame ≠ .demand c) → t = { s with line := { s.line with onLine := none } }))

/-- INHIBIT_TIMER_EXPIRY and REFRESH_TIMER_EXPIRY (R5, R8 cases 2 and 3): at the inhibit timer's expiry a Demand is handed if the
content differs from the last completed Demand, and at the refresh timer's expiry whatever the content; in Listen-only the handing
is refused. Whatever the event, a change of content that leaves it differing while the inhibit timer has expired hands a Demand in
that event. A handing marks the offer of the frame of its slot as replaced, and no other offer. The content differs exactly as case
2 of R8 says. A handing takes the values at the end of the event, and without a last completed Demand the content counts as
differing, as the model reads them (log entries 14 and 34). That a raise whose announced take is that of the last completed Demand
is not handed for that alone is the model's choice (R55, log entry 47). -/
def Obligations.DemandTimersHand : Prop :=
  (∀ s : State, s.node.state.speaks = true →
     (s.line.inhibit.isRunning = true → ∃ t, exec .inhibitTimerExpiry s = .next t ∧
       ({ s.line with inhibit := .expired } : LineInterface).sameOutsideSlots t.line ∧
       t.line.demandSlot =
         (if (demandContent s).differs s.line.lastDemand && !s.line.listenOnly then some (demandContent s)
          else s.line.demandSlot) ∧
       t.line.onLine = s.line.onLine.map (OnLine.afterHanding
         ((demandContent s).differs s.line.lastDemand && !s.line.listenOnly) (s.line.statusDue && !s.line.listenOnly) false) ∧
       s.sameExcept [.line] t) ∧
     (s.line.refresh.isRunning = true → ∃ t, exec .refreshTimerExpiry s = .next t ∧
       ({ s.line with refresh := .expired } : LineInterface).sameOutsideSlots t.line ∧
       t.line.demandSlot = (if s.line.listenOnly then s.line.demandSlot else some (demandContent s)) ∧
       t.line.onLine = s.line.onLine.map
         (OnLine.afterHanding (!s.line.listenOnly) (s.line.statusDue && !s.line.listenOnly) false) ∧
       s.sameExcept [.line] t)) ∧
  (∀ (c : Instr) (s t : State), exec c s = .next t → t.node.state.speaks = true → t.line.listenOnly = false →
     demandContent t ≠ demandContent s → t.line.inhibit = .expired → (demandContent t).differs t.line.lastDemand = true →
     t.line.demandSlot = some (demandContent t)) ∧
  (∀ (c d : Demand),
     (c.differs (some d) = true ↔
       c.cls ≠ d.cls ∨ c.source ≠ d.source ∨ c.leaving ≠ d.leaving ∨ c.isolated ≠ d.isolated ∨ c.holder ≠ d.holder ∨
       c.clutch ≠ d.clutch ∨ c.defrost ≠ d.defrost ∨ c.smoke ≠ d.smoke ∨ c.airSpace ≠ d.airSpace ∨
       c.cooling ≠ d.cooling ∨ c.take ≠ d.take ∨ 10 ≤ ((c.request : Int) - d.request).natAbs))

/-- STATUS_TIMER_EXPIRY and STATUS_B_GUARD_EXPIRY (R9): the Status timer's expiry sets A owed and B owed; a waiting frame is
replaced by a fresh one of the same record and an empty slot takes a Status A; the guard's expiry hands a Status B when the slot
is empty and a Status B is owed, and with the slot occupied, or with nothing owed, hands and replaces nothing. A handing marks the
offer of a Status frame as replaced, and no other offer. In Listen-only nothing is handed. What becomes of the marks in
Listen-only is the model's choice and is not stated (log entry 15). -/
def Obligations.StatusTimersHand : Prop :=
  ∀ s : State, s.node.state.speaks = true →
    (s.line.statusTimer.isRunning = true → ∃ t, exec .statusTimerExpiry s = .next t ∧ s.sameExcept [.line] t ∧
      t.line.statusTimer = .running 0 ∧ t.line.demandSlot = s.line.demandSlot ∧
      ({ s.line with statusTimer := .running 0 } : LineInterface).sameOutsideSlots t.line ∧
      t.line.onLine = s.line.onLine.map (OnLine.afterHanding false (!s.line.listenOnly) false) ∧
      (s.line.listenOnly = true → t.line.statusSlot = s.line.statusSlot) ∧
      (∀ c, s.line.listenOnly = false → s.line.statusSlot = some (.b c) →
        t.line.statusSlot = some (.b (statusBContent s)) ∧ t.line.aOwed = true ∧ t.line.bOwed = false ∧
        t.line.bChangeOwed = false) ∧
      (s.line.listenOnly = false → (∀ c, s.line.statusSlot ≠ some (.b c)) →
        t.line.statusSlot = some (.a (statusAContent s)) ∧ t.line.aOwed = false ∧ t.line.bOwed = true ∧
        t.line.bChangeOwed = s.line.bChangeOwed)) ∧
    (s.line.statusBGuard.isRunning = true → ∃ t, exec .statusBGuardExpiry s = .next t ∧ s.sameExcept [.line] t ∧
      t.line.demandSlot = s.line.demandSlot ∧
      ({ s.line with statusBGuard := .expired } : LineInterface).sameOutsideSlots t.line ∧
      t.line.onLine = s.line.onLine.map (OnLine.afterHanding false
        (({ s.line with statusBGuard := .expired } : LineInterface).statusDue && !s.line.listenOnly) false) ∧
      (s.line.listenOnly = true → t.line.statusSlot = s.line.statusSlot) ∧
      (s.line.listenOnly = false → s.line.statusSlot = none → s.line.aOwed = false →
        (s.line.bOwed || s.line.bChangeOwed) = true →
          t.line.statusSlot = some (.b (statusBContent s)) ∧ t.line.bOwed = false ∧ t.line.bChangeOwed = false) ∧
      (s.line.statusSlot.isSome = true ∨ (s.line.aOwed || s.line.bOwed || s.line.bChangeOwed) = false →
        t.line = { s.line with statusBGuard := .expired }))

/-- SILENCE_TIMER_EXPIRY (R13, R62, R64): Isolated is set and becomes active, T becomes the smaller of T and the isolated cap, A
becomes T, the register stands Steady, and the plan is made anew if T fell. A plan that cuts the duty figure stops the ramp timer,
as the model reads R121 (log entry 48). -/
def Obligations.SilenceIsolates : Prop :=
  ∀ s : State, s.node.state = .running → s.params.expectedPeers ≠ 0 → s.line.silence.isRunning = true →
    ∃ t, exec .silenceTimerExpiry s = .next t ∧
    ({ s.line with silence := .expired, isolated := true } : LineInterface).sameOutsideSlots t.line ∧
    t.share =
      { s.share with
        applied := min s.share.applied s.params.isolatedCap
        announced := min s.share.applied s.params.isolatedCap
        state := .steady } ∧
    inSet t.cond.active .isolated = true ∧ s.replannedOnFall t ∧ s.sameExcept [.line, .share, .air, .drive, .cond] t

/-- The sorting of received frames (R1, R2, Table 1-2), by identifier and length, at the station `own`: a frame with a 29-bit
identifier and a remote frame are outside the Exchange, and so the sorting goes for a data frame with an 11-bit identifier of kind k
and node field nf. -/
def Obligations.SortingByTable12 : Prop :=
  (∀ (own : Node) (f : Frame), f.extended = true ∨ f.remote = true → sortFrame own f = .outside) ∧
  ∀ (own : Node) (k nf : Nat) (data : List Byte), nf < 16 →
    let f : Frame := ⟨false, false, 16 * k + nf, data⟩
    (k = 0 ∨ 7 < k → sortFrame own f = .outside) ∧
    (k = 1 → (data.length ≠ 3 → sortFrame own f = .badLength) ∧
      (∀ b0 b1 b2, data = [b0, b1, b2] → sortFrame own f = .allowance b0 b1 b2)) ∧
    (k = 2 → (nf = nodeNumber own → sortFrame own f = .conflict) ∧
      (nf = 0 ∨ 8 < nf → sortFrame own f = .ignored) ∧
      (∀ n : Node, n ≠ own → nf = nodeNumber n →
        (data.length ≠ 7 → sortFrame own f = .badLength) ∧
        (∀ d : DemandBytes, data = [d.b0, d.b1, d.b2, d.b3, d.b4, d.b5, d.b6] → sortFrame own f = .demand n d))) ∧
    (k = 3 → (nf ≠ nodeNumber own → sortFrame own f = .ignored) ∧
      (nf = nodeNumber own →
        (data.length ≠ 8 → sortFrame own f = .badLength) ∧
        (∀ d : PanelBytes, data = [d.b0, d.b1, d.b2, d.b3, d.b4, d.b5, d.b6, d.b7] → sortFrame own f = .panel d))) ∧
    (k = 4 → (nf ≠ nodeNumber own → sortFrame own f = .ignored) ∧
      (nf = nodeNumber own →
        (data = [] → sortFrame own f = .badLength) ∧
        (∀ c rest, data = c :: rest →
          (c ∈ [1#8, 3#8, 5#8] → rest ≠ [] → sortFrame own f = .badLength) ∧
          (c = 2#8 → rest.length ≠ 3 → sortFrame own f = .badLength) ∧
          (c = 4#8 → rest.length ≠ 1 → sortFrame own f = .badLength) ∧
          (c = 0#8 ∨ 5#8 < c → sortFrame own f = .ignored)) ∧
        (data = [1#8] → sortFrame own f = .conditionRead) ∧ (data = [3#8] → sortFrame own f = .conditionRelease) ∧
        (data = [5#8] → sortFrame own f = .rehome) ∧
        (∀ b1 b2 b3, data = [2#8, b1, b2, b3] → sortFrame own f = .conditionClear b1 b2 b3) ∧
        (∀ b1, data = [4#8, b1] → sortFrame own f = .channelUnlock b1))) ∧
    (k = 5 → sortFrame own f = .ignored) ∧
    (k = 6 ∨ k = 7 → sortFrame own f = if nf = nodeNumber own then .conflict else .ignored)

/-- The Demand record read back (R3, Table 1-6, R19, R20): whatever Demand one station sends with its fields in range, another
station sorts it as a Demand from that station and stores every field it keeps as it was sent; a leaving Demand is read as one. And
the filling of the own Demand (R4, R95, R159): each field from the block that owns it, the take the larger of T and A, and in the
leaving phase the leaving flag with request and take 0, the other fields those of the moment as the model reads R159 (log entry
29). -/
def Obligations.DemandRecordReadBack : Prop :=
  (∀ (sender own : Node) (c : Demand), sender ≠ own → c.request ≤ 600 → c.take ≤ 600 → 5 ≤ c.refresh → c.refresh ≤ 20 →
    1 ≤ c.airSpace → c.airSpace ≤ 4 →
    ∃ d : DemandBytes, sortFrame own ((TxFrame.demand c).onWire sender) = .demand sender d ∧ d.leaving = c.leaving ∧
      d.entry =
        { freshness := .fresh, cls := c.cls, request := c.request, take := c.take, isolated := c.isolated
          holder := c.holder, smoke := c.smoke, source := c.source, cooling := c.cooling, airSpace := c.airSpace
          refresh := c.refresh, age := 0, held := none }) ∧
  (∀ s : State, demandContent s =
    { cls := s.air.cls, source := s.air.source, cooling := s.air.cooling, airSpace := s.params.airSpace
      leaving := s.node.leaving, isolated := s.line.isolated, holder := s.air.actingHolder
      clutch := decide (s.drive.clutch.state = .running), defrost := s.air.defrost, smoke := s.air.smokeHigh
      request := if s.node.leaving then 0 else s.air.request
      take :=
        if s.node.leaving then 0
        else if s.share.applied ≤ s.share.announced then s.share.announced else s.share.applied
      refresh := s.params.refreshInterval })

/-- The Status and Condition Report records (R3, R4, Tables 1-7 to 1-9), byte by byte. Status A: the cab, discharge and intake
temperatures in bytes 0 to 5, two's complement with the most significant byte first, 0x8000 when Unavailable; the intake and cab
smoke in bytes 6 and 7, divided by 4, 255 when Unavailable; no value reads as the Unavailable code. Status B: the applied take, the
duty, the stages with the source, the two damper positions in whole percent of travel, the active count and the flags. Both are
filled from the blocks that own the values (R4). Report: the latched and active sets with condition k in bit k − 1, the swallowed
count and the two flags. -/
def Obligations.StatusAndReportBytes : Prop :=
  (∀ c : StatusA, ∃ c0 c1 d0 d1 i0 i1 s k : Byte, c.bytes = [c0, c1, d0, d1, i0, i1, s, k] ∧
    (let temperature := fun (v : Option Int) (hi lo : Byte) => match v with
      | none => hi = 0x80#8 ∧ lo = 0#8
      | some x => -400 ≤ x → x ≤ 1250 → (hi ++ lo).toInt = x ∧ ¬ (hi = 0x80#8 ∧ lo = 0#8)
     let smoke := fun (v : Option Int) (b : Byte) => match v with
      | none => b = 255#8
      | some x => 0 ≤ x → x ≤ 1000 → (b.toNat : Int) = x / 4 ∧ b ≠ 255#8
     temperature c.cabTemp c0 c1 ∧ temperature c.dischargeTemp d0 d1 ∧ temperature c.intakeTemp i0 i1 ∧
     smoke c.intakeSmoke s ∧ smoke c.cabSmoke k)) ∧
  (∀ c : StatusB, c.take ≤ 600 → c.stages ≤ 4 → c.duty ≤ 100 → c.freshPercent ≤ 100 → c.blendPercent ≤ 100 →
    c.activeCount ≤ 24 →
    ∃ b0 b1 b2 b3 b4 b5 b6 b7, c.bytes = [b0, b1, b2, b3, b4, b5, b6, b7] ∧ twoBytes b0 b1 = c.take ∧
    b2.toNat = c.duty ∧ b3.toNat % 16 = c.stages ∧ b3.toNat / 16 = c.source.code ∧ b4.toNat = c.freshPercent ∧
    b5.toNat = c.blendPercent ∧ b6.toNat = c.activeCount ∧
    b7.getLsbD 0 = c.isolated ∧ b7.getLsbD 1 = c.degraded ∧ b7.getLsbD 2 = c.actingHolder ∧ b7.getLsbD 3 = c.defrost ∧
    b7.getLsbD 4 = c.listenOnly ∧ b7.getLsbD 5 = c.overrideInForce ∧ b7.getLsbD 6 = false ∧ b7.getLsbD 7 = false) ∧
  (∀ s : State, (statusBContent s).take = s.share.applied ∧ (statusBContent s).duty = s.drive.duty ∧
    (statusBContent s).stages = s.drive.stages ∧
    (statusBContent s).freshPercent = s.drive.fresh.position * 100 / s.params.freshTravel ∧
    (statusBContent s).blendPercent = s.drive.blend.position * 100 / s.params.blendTravel ∧
    (statusBContent s).activeCount = ((List.range 24).filter fun k => s.cond.active.getLsbD k).length ∧
    (statusBContent s).source = s.air.source ∧ (statusBContent s).isolated = s.line.isolated ∧
    (statusBContent s).degraded = s.line.degraded ∧ (statusBContent s).actingHolder = s.air.actingHolder ∧
    (statusBContent s).defrost = s.air.defrost ∧ (statusBContent s).listenOnly = s.line.listenOnly ∧
    (statusBContent s).overrideInForce =
      (s.air.overrides.level.isSome || s.air.overrides.stages.isSome || s.air.overrides.fresh.isSome ||
        s.air.overrides.blend.isSome)) ∧
  (∀ s : State, statusAContent s =
    ⟨s.input.sensors.cabTemp.value, s.input.sensors.dischargeTemp.value, s.input.sensors.intakeTemp.value,
      s.input.sensors.intakeSmoke.value, s.input.sensors.cabSmoke.value⟩) ∧
  (∀ c : Report, ∃ l0 l1 l2 a0 a1 a2 n g, c.bytes = [l0, l1, l2, a0, a1, a2, n, g] ∧
    l2 ++ l1 ++ l0 = c.latched ∧ a2 ++ a1 ++ a0 = c.active ∧
    (c.swallowed ≤ 255 → n.toNat = c.swallowed) ∧ g.getLsbD 0 = c.frozen ∧ g.getLsbD 1 = c.pendingNotEmpty)

/-! ### The Peer Table and the Allowance Store (chapter 2) -/

/-- DEMAND_ARRIVAL (R19, R20, R21): the slot of the sending node holds the record's fields brought into range, Fresh with age 0
and no held take, or is Empty when the leaving flag is set, whatever it held before. Everything else is as any good frame leaves
it. The order within the reception is the model's reading (log entry 12). -/
def Obligations.DemandArrivalStored : Prop :=
  ∀ (n : Node) (d : DemandBytes) (s : State), s.Inv → s.node.state.receives = true → n ≠ s.node.own →
    ∃ t, exec (.demandArrival n d) s = .next t ∧
    (∀ m : Node, m ≠ n → t.peers[m] = s.peers[m]) ∧
    (d.b1.getLsbD 0 = true → t.peers[n] = .empty) ∧
    (d.b1.getLsbD 0 = false → t.peers[n] = .entry
      { freshness := .fresh
        cls := match d.b0.toNat % 4 with
          | 0 => .clearing
          | 1 => .recovery
          | 2 => .comfort
          | _ => .standby
        request := min 600 (256 * d.b2.toNat + d.b3.toNat)
        take := min 600 (256 * d.b4.toNat + d.b5.toNat)
        isolated := d.b1.getLsbD 1
        holder := d.b1.getLsbD 2
        smoke := d.b1.getLsbD 5
        source := match d.b0.toNat / 4 % 8 with
          | 1 => .fresh
          | 2 => .recirculate
          | 3 => .pressurize
          | 4 => .purge
          | _ => .off
        cooling := d.b0.getLsbD 5
        airSpace := d.b0.toNat / 64 + 1
        refresh := max 5 (min 20 d.b6.toNat)
        age := 0
        held := none }) ∧
    s.heardGood.line.sameOutsideSlots t.line ∧ s.heardGood.sameExcept [.peers, .line] t

/-- PEER_AGING, PEER_STALE and PEER_HOLD_LIMIT (R22, R23): a Fresh entry becomes Aging; an Aging entry becomes Stale with its
announced take held; a Stale entry leaves the table. Each keeps the rest of the entry and every other slot. The age stands at
the threshold reached (log entry 32). -/
def Obligations.PeerThresholdsPassed : Prop :=
  ∀ (n : Node) (e : PeerEntry) (s : State), s.node.state.receives = true → s.peers[n] = .entry e →
    (e.freshness = .fresh → ∃ t, exec (.peerAging n) s = .next t ∧
      t.peers[n] = .entry { e with freshness := .aging, age := 1000 * (2 * e.refresh * 100) } ∧
      (∀ m : Node, m ≠ n → t.peers[m] = s.peers[m]) ∧ s.line.sameOutsideSlots t.line ∧ s.sameExcept [.peers, .line] t) ∧
    (e.freshness = .aging → ∃ t, exec (.peerStale n) s = .next t ∧
      t.peers[n] =
        .entry { e with freshness := .stale, held := some e.take, age := 1000 * (4 * e.refresh * 100) } ∧
      (∀ m : Node, m ≠ n → t.peers[m] = s.peers[m]) ∧ s.line.sameOutsideSlots t.line ∧ s.sameExcept [.peers, .line] t) ∧
    (e.freshness = .stale → ∃ t, exec (.peerHoldLimit n) s = .next t ∧ t.peers[n] = .empty ∧
      (∀ m : Node, m ≠ n → t.peers[m] = s.peers[m]) ∧ s.line.sameOutsideSlots t.line ∧ s.sameExcept [.peers, .line] t)

/-- ALLOWANCE_ARRIVAL and ALLOWANCE_TIMEOUT (R31, R32, R33): an arrival stores its two figures, 2000 and 3 standing for larger
ones, restarts the age, makes the store Current and ends AllowanceLost; the timeout makes it Lost and AllowanceLost active, the
stored figures kept. The allowance and stage in use are the stored ones while Current, and the fallback with stage 0 in every state
that is Awaiting or Lost.
The order within the reception is the model's reading (log entry 12). -/
def Obligations.AllowanceStoreActs : Prop :=
  (∀ (nf : BitVec 4) (b0 b1 b2 : Byte) (s : State), s.Inv → s.node.state.receives = true →
    ∃ t, exec (.allowanceArrival nf b0 b1 b2) s = .next t ∧
    t.allowance =
      { allowance := min 2000 (256 * b0.toNat + b1.toNat), stage := min 3 b2.toNat, state := .current
        age := .running 0 } ∧
    allowanceInUse t = t.allowance.allowance ∧ stageInUse t = t.allowance.stage ∧
    t.cond = (s.heardGood.lower .allowanceLost).cond ∧
    s.heardGood.line.sameOutsideSlots t.line ∧ s.heardGood.sameExcept [.allowance, .cond, .line] t) ∧
  (∀ s : State, s.allowance.age.isRunning = true → ∃ t, exec .allowanceTimeout s = .next t ∧
    t.allowance = { s.allowance with state := .lost, age := .expired } ∧
    allowanceInUse t = s.params.fallbackAllowance ∧ stageInUse t = 0 ∧ t.cond = (s.raise .allowanceLost).cond ∧
    s.line.sameOutsideSlots t.line ∧ s.sameExcept [.allowance, .cond, .line] t) ∧
  (∀ s : State, s.allowance.state ≠ .current → allowanceInUse s = s.params.fallbackAllowance ∧ stageInUse s = 0)

/-- The claims list and the reserve (R27, R28): the own claim carries the own class and request and is always in the list; a peer's
claim is in it exactly when its entry is Fresh or Aging without the isolated flag, with the entry's class and request; the list
rises by class and within a class by node number; no node has two claims and there are at most eight. The reserve is the sum, over
the peer slots, of the held take of a Stale entry and of the announced take of a Fresh or Aging entry with the isolated flag; it
lies in 0 to 4200. -/
def Obligations.ClaimsAndReserveByRule : Prop :=
  (∀ s : State, s.peersInRange →
     (⟨s.node.own, s.air.cls, s.air.request⟩ ∈ claimsList s) ∧
     (∀ (k : ZoneClass) (q : Nat), (⟨s.node.own, k, q⟩ : Claim) ∈ claimsList s → k = s.air.cls ∧ q = s.air.request) ∧
     (∀ (n : Node) (e : PeerEntry), s.peers[n] = .entry e →
       ((∃ k q, (⟨n, k, q⟩ : Claim) ∈ claimsList s) ↔ (e.freshness = .fresh ∨ e.freshness = .aging) ∧ e.isolated = false)) ∧
     (∀ (n : Node) (e : PeerEntry) (k : ZoneClass) (q : Nat), s.peers[n] = .entry e → (⟨n, k, q⟩ : Claim) ∈ claimsList s →
       k = e.cls ∧ q = e.request) ∧
     (∀ (n : Node) (k : ZoneClass) (q : Nat), s.peers[n] = .empty → (⟨n, k, q⟩ : Claim) ∉ claimsList s) ∧
     ((claimsList s).Pairwise fun a b => a.cls.code < b.cls.code ∨ (a.cls = b.cls ∧ a.node < b.node)) ∧
     ((claimsList s).map Claim.node).Nodup ∧ (claimsList s).length ≤ 8) ∧
  (∀ s : State, s.peersInRange →
     reserve s = (allNodes.map fun n =>
       match s.peers[n] with
       | .own => 0
       | .empty => 0
       | .entry e =>
         if e.freshness = .stale then e.held.getD 0 else if e.isolated then e.take else 0).sum ∧
     reserve s ≤ 4200)

/-! ### The share computation (chapter 3) -/

/-- The counted request, the pool and a class served whole (R38 to R41, Table 3-2): the counted request is the request of a claim,
or 0 when the shed stage in use strikes its class; the stage in use is 0 while the Allowance Store is Awaiting or Lost; the pool is
W − H, or 0; with a class total of 0 each claim is allotted 0 and the pool passes unchanged; with a total above 0 and not above the
pool each claim is allotted its counted request and the pool falls by the total. -/
def Obligations.CountedAndServedWhole : Prop :=
  ((∀ (stage : Nat) (c : Claim), stage ≤ 3 →
     counted stage c =
       (match c.cls with
        | .clearing => c.request
        | .recovery => if stage = 3 then 0 else c.request
        | .comfort => if 2 ≤ stage then 0 else c.request
        | .standby => if 1 ≤ stage then 0 else c.request)) ∧
   (∀ s : State, s.allowance.state ≠ .current → stageInUse s = 0 ∧ ∀ c, counted (stageInUse s) c = c.request) ∧
   (∀ w h : Nat, (h < w → poolOf w h = w - h) ∧ (w ≤ h → poolOf w h = 0))) ∧
  (∀ (stage pool : Nat) (cs : List Claim),
     (classTotal stage cs = 0 → serveClass stage pool cs = (cs.map fun c => ⟨c.node, 0⟩, pool)) ∧
     (0 < classTotal stage cs → classTotal stage cs ≤ pool →
       serveClass stage pool cs = (cs.map fun c => ⟨c.node, counted stage c⟩, pool - classTotal stage cs)))

/-- A class divided (R42): with a total Q above the pool R each claim of counted request q is allotted floor(q × R / Q) and the pool
becomes 0, after which every claim of every later class is allotted 0; an allotment depends on q, Q and R alone, a claim that
counts 0 is allotted 0, none is allotted more than the pool, and together they come to at most the pool. -/
def Obligations.ClassDivided : Prop :=
  ∀ (stage pool : Nat) (cs : List Claim), pool < classTotal stage cs →
    serveClass stage pool cs = (cs.map fun c => ⟨c.node, counted stage c * pool / classTotal stage cs⟩, 0) ∧
    (∀ c ∈ cs, counted stage c = 0 → counted stage c * pool / classTotal stage cs = 0) ∧
    (∀ c ∈ cs, counted stage c * pool / classTotal stage cs ≤ pool) ∧
    ((serveClass stage pool cs).1.map Allotment.amount).sum ≤ pool ∧
    (∀ (all : List Claim) (ks : List ZoneClass), ∀ a ∈ divide stage all ks 0, a.amount = 0)

/-- The grant of the shared computation (R44): at a share expiry with Isolated clear G becomes the own claim's allotment and
nothing keeps the peers' allotments; G never exceeds the own request; all allotments together come to at most W − H, and to 0
when H is not less than W; and when H does not exceed W they come with H to at most W. -/
def Obligations.GrantWithinAllowance : Prop :=
  ∀ s : State, s.peersInRange →
    sharedGrant s ≤ s.air.request ∧
    ((allotments s).map Allotment.amount).sum ≤ allowanceInUse s - reserve s ∧
    (allowanceInUse s ≤ reserve s → ((allotments s).map Allotment.amount).sum = 0) ∧
    (reserve s ≤ allowanceInUse s → ((allotments s).map Allotment.amount).sum + reserve s ≤ allowanceInUse s) ∧
    (⟨s.node.own, sharedGrant s⟩ : Allotment) ∈ allotments s ∧
    (s.node.state = .running → s.share.timer.isRunning = true → s.line.isolated = false →
      ∃ t, exec .shareExpiry s = .next t ∧ t.share.grant = sharedGrant s)

/-! ### The take register (chapter 4) -/

/-- SHARE_EXPIRY with Isolated clear (R36, R50, R53 to R55, R57, R58, R60, R64): G becomes the new grant and the timer restarts. A
grant below T lowers T and A to it, Steady, with a replan. Otherwise a Steady register with G above T and the line On begins a
raise; an Announcing one is cut back, extended or kept; an Announced one applies the smaller of A and G and goes on from there. A
plan that cuts the duty figure stops the ramp timer, as the model reads R121 (log entry 48). -/
def Obligations.SharedExpiryTakes : Prop :=
  ∀ s : State, s.node.state = .running → s.share.timer.isRunning = true → s.line.isolated = false →
    let g := sharedGrant s
    let T := s.share.applied
    let A := s.share.announced
    let raise := fun T' : Nat =>
      if T' < g ∧ s.line.lineOn = true then (T', min g (T' + s.params.raiseStep), TakeState.announcing)
      else (T', T', TakeState.steady)
    ∃ t, exec .shareExpiry s = .next t ∧
    t.share.grant = g ∧ t.share.timer = .running 0 ∧ t.share.lastCompleted = s.share.lastCompleted ∧
    (g < T → (t.share.applied, t.share.announced, t.share.state) = (g, g, .steady)) ∧
    (T ≤ g → s.share.state = .steady → (t.share.applied, t.share.announced, t.share.state) = raise T) ∧
    (T ≤ g → s.share.state = .announcing →
      (t.share.applied, t.share.announced, t.share.state) =
        (if g = T then (T, T, .steady)
         else if g < A then (T, g, .announcing)
         else if A < g ∧ s.line.lineOn = true then (T, min g (T + s.params.raiseStep), .announcing)
         else (T, A, .announcing))) ∧
    (T ≤ g → s.share.state = .announced →
      (t.share.applied, t.share.announced, t.share.state) = raise (min A g)) ∧
    s.replannedOnFall t ∧ s.line.sameOutsideSlots t.line ∧
    (s.line.demandSlot.isSome = true → s.line.listenOnly = false → demandContent t ≠ demandContent s →
      t.line.demandSlot = some (demandContent t)) ∧
    s.sameExcept [.share, .line, .air, .drive, .cond] t

/-- SHARE_EXPIRY with Isolated set (R46, R61, R64): G becomes the smaller of the own request and the isolated cap, whatever the
allowance, the stage, the reserve, the claims and the own class; T becomes G and A becomes T, Steady, from whatever state and
whatever the line's state, with a replan when T falls. A plan that cuts the duty figure stops the ramp timer, as the model reads
R121 (log entry 48). -/
def Obligations.IsolatedExpiryTakes : Prop :=
  ∀ s : State, s.node.state = .running → s.share.timer.isRunning = true → s.line.isolated = true →
    ∃ t, exec .shareExpiry s = .next t ∧
    t.share =
      { s.share with
        timer := .running 0
        grant := min s.air.request s.params.isolatedCap
        applied := min s.air.request s.params.isolatedCap
        announced := min s.air.request s.params.isolatedCap
        state := .steady } ∧
    s.replannedOnFall t ∧ s.line.sameOutsideSlots t.line ∧ s.sameExcept [.share, .line, .air, .drive, .cond] t

/-! ### Air source and zone modes (chapter 5) -/

/-- AIR_EXPIRY, the source machine, and CLEARING_HOLD_COMPLETE (R29, R67 to R72, R75 to R77, R84, Table 5-1): SmokeHigh is settled
with its margin and its condition follows; the recirculation cause is judged and kept as it stands; the source makes the one
transition of the first test that holds, with the timers, counts and sets that go with it; the purge-seen set becomes the purging air-space peers, which like the smoking ones are the Fresh and
Aging entries of the own air space. A purge is entered outside the lockout for an own cause, the cab smoke at the enter figure and
worse than the intake's, or to join a new purge unless the intake sensor is lost or the outside is worse; it ends when the outside
is no better than the cab, when the intake sensor is lost, or when the cab has been clear at three expiries and no leader still
purges. The air expiry at which the clearing hold count would reach 8 takes the source from Recirculate to Fresh, with all the work
of an air expiry. CLEARING_HOLD_COMPLETE as that air expiry is the model's reading (log entry 11). -/
def Obligations.SourceAtAirExpiry : Prop :=
  (∀ (s : State) (n : Node),
     let near := fun q : PeerEntry → Bool => match s.peers[n] with
      | .entry e => decide (e.freshness = .fresh ∨ e.freshness = .aging) && decide (e.airSpace = s.params.airSpace) && q e
      | _ => false
     (n ∈ purgingPeers s ↔ near fun e => decide (e.source = .purge)) ∧
     (n ∈ smokingPeers s ↔ near fun e => e.smoke)) ∧
  (∀ s : State,
     let intake := s.reading .intakeSmoke
     let cab := s.reading .cabSmoke
     let smoke :=
       match intake with
       | none => false
       | some v => decide ((s.params.smokeEnter : Int) ≤ v) || (s.air.smokeHigh && decide ((s.params.smokeLeave : Int) ≤ v))
     let lost := s.params.fitted .intakeSmoke && intake.isNone
     let cause := smoke || lost || !(smokingPeers s).isEmpty || decide (s.air.mode = .recirculate)
     let byCause := if cause then Source.recirculate else Source.fresh
     let outsideWorse := match intake, cab with
       | some i, some c => decide (c ≤ i)
       | _, _ => false
     let ownCause := match intake, cab with
       | some i, some c => decide ((s.params.purgeEnter : Int) ≤ c) && decide (i < c)
       | _, _ => false
     let joins := (purgingPeers s).any (fun n => decide (n ∉ s.air.purgeSeen)) && !lost && !outsideWorse
     let entry := !s.air.lockout.isRunning && (ownCause || joins)
     let clear := !s.params.fitted .cabSmoke || (match cab with
       | some c => decide (c < (s.params.purgeLeave : Int))
       | none => false)
     let lead := s.air.leadSet.filter fun n => decide (n ∈ purgingPeers s)
     let ownClear := if clear then min 3 (s.air.ownClear + 1) else 0
     let exits := lost || outsideWorse || (decide (ownClear = 3) && lead.isEmpty)
     (s.Inv → s.node.state = .running → ∃ t, exec .airExpiry s = .next t ∧
       t.air.timer = .running 0 ∧ t.air.smokeHigh = smoke ∧ inSet t.cond.active .smokeHigh = smoke ∧
       t.air.purgeSeen = purgingPeers s ∧ t.air.recircCause = cause ∧
       t.air.source =
         (if s.air.mode = .off then .off
          else
           match s.air.source with
           | .off => byCause
           | .fresh => if entry then .purge else byCause
           | .pressurize => if entry then .purge else if cause then .recirculate else .pressurize
           | .recirculate =>
             if entry then .purge else if !cause && decide (s.air.clearingHold = 7 ∨ s.air.clearingHold = 8) then .fresh
             else .recirculate
           | .purge => if exits then byCause else .purge) ∧
       t.air.clearingHold =
         (if s.air.mode ≠ .off ∧ s.air.source = .recirculate ∧ t.air.source = .recirculate ∧ cause = false then
           s.air.clearingHold + 1
          else 0) ∧
       (t.air.source = .purge → s.air.source ≠ .purge →
         t.air.purge = .running 0 ∧ t.air.leadSet = purgingPeers s ∧ t.air.ownClear = 0) ∧
       (t.air.source = .purge → s.air.source = .purge →
         t.air.purge = s.air.purge ∧ t.air.leadSet = lead ∧ t.air.ownClear = ownClear) ∧
       (t.air.source ≠ .purge → t.air.purge.isRunning = false ∧ t.air.leadSet = [] ∧ t.air.ownClear = 0) ∧
       (t.air.source ≠ .pressurize → t.air.boost.isRunning = false) ∧
       (t.air.source = .pressurize → t.air.boost = s.air.boost) ∧ t.air.lockout = s.air.lockout) ∧
     (s.node.state = .running → s.air.timer.isRunning = true → s.air.mode ≠ .off → s.air.source = .recirculate →
       entry = false → cause = false → s.air.clearingHold = 7 →
       ∃ t, exec .clearingHoldComplete s = .next t ∧ t.air.source = .fresh ∧ t.air.clearingHold = 0 ∧
         exec .airExpiry s = .next t ∧ t.air.freshTarget = (match s.air.overrides.fresh with
           | some true => 1000
           | some false => 0
           | none => 1000)))

/-- AIR_EXPIRY, the wants (R30, R81 to R83, R87, R88, R91 to R97, Table 10-1): the class, the fresh damper target, the discharge
target, the blend position, the blower level and wanted duty, cooling wanted, the acting holder, the clutch want and call, whether
the base load is counted and the own request, each from the readings of the expiry and the results before it, forced fields
standing in. The base is not counted exactly when the source is Off and both actuators, their targets just handed, are Idle within
2 counts of target. The cooling and holder views are the Fresh and Aging entries that carry the field or the flag. -/
def Obligations.WantsAtAirExpiry : Prop :=
  (∀ (s : State) (n : Node),
     let live := fun q : PeerEntry → Bool => match s.peers[n] with
      | .entry e => decide (e.freshness = .fresh ∨ e.freshness = .aging) && q e
      | _ => false
     (n ∈ coolingView s ↔ live fun e => e.cooling) ∧ (n ∈ holderView s ↔ live fun e => e.holder)) ∧
  ∀ s : State, s.node.state = .running → s.air.timer.isRunning = true →
    ∃ t, exec .airExpiry s = .next t ∧
    (∃ f b : Actuator,
      s.drive.fresh.targetTaken s.params.freshTravel s.drive.plan.held false t.air.freshTarget f ∧
      s.drive.blend.targetTaken s.params.blendTravel s.drive.plan.held false t.air.blend b ∧
      t.air.baseCounted = !decide (t.air.source = .off ∧ (f.state = .idle ∧ f.near) ∧ b.state = .idle ∧ b.near)) ∧
    t.air.defrost = decide (s.air.mode = .defrost) ∧
    t.air.cls = (if t.air.defrost = true ∨ t.air.source = .purge then .clearing
      else if (match s.reading .cabTemp with
        | some c => decide (s.params.recoveryError ≤ ((s.air.target : Int) - c).natAbs)
        | none => false) then .recovery
      else if t.air.source = .off then .standby else .comfort) ∧
    t.air.freshTarget = (match s.air.overrides.fresh with
      | some true => 1000
      | some false => 0
      | none => t.air.source.freshTarget) ∧
    t.air.dischargeTarget = (match s.reading .cabTemp with
      | some c => max 50 (min 600 ((s.air.target : Int) + ((s.params.cabGain : Int) * (s.air.target - c)).tdiv 10))
      | none => s.air.target) ∧
    (t.air.blend : Int) = (match s.air.overrides.blend, s.reading .dischargeTemp with
      | some f, _ => (f : Int) * 10
      | none, x =>
        if t.air.defrost then 1000
        else if t.air.source = .off then (s.air.blend : Int)
        else match x with
          | none => (s.air.blend : Int)
          | some d => max 0 (min 1000 ((s.air.blend : Int) +
              max (-50) (min 50 (((t.air.dischargeTarget - d) * (s.params.blendGain : Int)).tdiv 10))))) ∧
    t.air.level = (match s.air.overrides.level with
      | some f => f
      | none =>
        let l3 := if t.air.source = .off then 0
          else match s.air.fan, s.reading .cabTemp with
            | .level k, _ => k
            | .auto, some c => max 2 (min 8 (2 + ((s.air.target : Int) - c).natAbs / 15))
            | .auto, none => 4
            | .off, _ => 0
        let l4 := if t.air.source = .pressurize then max l3 s.params.boostLevel else l3
        let l5 := if t.air.source = .purge then 8 else l4
        if t.air.defrost then max l5 6 else l5) ∧
    t.air.wantedDuty = (if t.air.level = 0 then 0
      else s.params.minDuty + (100 - s.params.minDuty) * (t.air.level - 1) / 7) ∧
    t.air.cooling =
      ((match s.reading .intakeTemp with
        | some x => decide (t.air.dischargeTarget < x)
        | none => false) ||
       (t.air.defrost && (match s.reading .intakeTemp with
        | some x => decide (30 ≤ x)
        | none => true))) ∧
    t.air.actingHolder = (s.node.hold && !(holderView s).any fun n => decide (n.val < s.node.own.val)) ∧
    inSet t.cond.active .holderConflict = (s.node.hold && !t.air.actingHolder) ∧
    inSet t.cond.active .coolingUnavailable =
      (t.air.cooling && !t.air.actingHolder && (holderView s).isEmpty) ∧
    t.air.clutchWant =
      (t.air.actingHolder && (t.air.cooling || !(coolingView s).isEmpty) && (match s.reading .intakeTemp with
        | some x => decide (30 ≤ x)
        | none => true)) ∧
    t.air.clutchCall =
      (t.air.actingHolder &&
        (if s.drive.clutch.state = .running then t.air.clutchWant || s.air.minOn.isRunning
         else t.air.clutchWant && !s.air.minOff.isRunning)) ∧
    t.air.request =
      min 600 ((if t.air.baseCounted then s.params.baseLoad else 0) +
        (if t.air.clutchCall then s.params.clutchCurrent else 0) +
        (s.params.blowerFull * t.air.wantedDuty + 99) / 100 + t.air.heaterWant * s.params.stageCurrent)

/-- AIR_EXPIRY, the heater want, the plan and the frame (R67, R86, R89, R90, R98, R119, R131, R145): the heater want rises by 1
below the fitted count when the rise timer reaches the stage dwell under the rise condition, falls by 1 under the fall condition
when the change timer reaches it and the Defrost flag was clear before this expiry too, is 0 with the source Off, and is the forced
count, at most the fitted one, while forced. Both timers restart at a change of the want and, unforced, with the source Off, the
rise timer also where the rise condition fails; otherwise they advance by the control period up to the dwell (the timing as log
entries 18 and 20 read it; that the rise timer goes on restarting while the stages are forced is the model's choice, log entry 19).
The fresh damper target and the blend position are handed to their actuators. The Output Plan is the split of the applied take as
it stands by the wants just settled; the channels take it up, each by its state, and the actuators its dampers-held part. The take
register, the Peer Table, the Allowance Store, the inputs, the configuration and the node are as they were. A plan that cuts the
duty figure stops the ramp timer, as the model reads R121 (log entry 48). That the change timer runs on while the stages are forced
is the model's choice too (log entry 50). -/
def Obligations.HeaterWantAndPlanAtAirExpiry : Prop :=
  (∀ s : State, s.node.state = .running → s.air.timer.isRunning = true →
     ∃ t, exec .airExpiry s = .next t ∧
     (let w := s.air.heaterWant
      let e : Option Int := (s.reading .dischargeTemp).map fun x => t.air.dischargeTarget - x
      let high := match e with
       | some e => decide (30 ≤ e)
       | none => false
      let low := match e with
       | some e => decide (e ≤ -30)
       | none => false
      let rise := if t.air.defrost then decide (w < s.params.stagesFitted) else decide (t.air.blend = 1000) && high
      let fall := !s.air.defrost && !t.air.defrost && decide (0 < w) && (low || decide (t.air.blend < 900))
      let dwell := 1000 * s.params.stageDwell
      let advanced : Option Nat → Option Nat := fun x => match x with
       | none => some 0
       | some ms => some (min dwell (ms + s.params.controlPeriod))
      t.air.heaterWant =
       (match s.air.overrides.stages with
        | some f => min f s.params.stagesFitted
        | none =>
         if t.air.source = .off then 0
         else if decide (w < s.params.stagesFitted) && rise && decide (advanced s.air.riseTimer = some dwell) then w + 1
         else if fall && decide (advanced s.air.changeTimer = some dwell) then w - 1
         else w) ∧
      (let restarts := decide (t.air.heaterWant ≠ w) || (s.air.overrides.stages.isNone && decide (t.air.source = .off))
       t.air.changeTimer = (if restarts then some 0 else advanced s.air.changeTimer) ∧
       t.air.riseTimer = (if restarts || !rise then some 0 else advanced s.air.riseTimer)))) ∧
  (∀ s : State, s.node.state = .running → s.air.timer.isRunning = true →
     ∃ t, exec .airExpiry s = .next t ∧
     t.drive.plan = split s.params s.share.applied ⟨t.air.baseCounted, t.air.clutchCall, t.air.wantedDuty, t.air.heaterWant⟩ ∧
     s.channelsTook t ∧
     (∃ f b : Actuator,
       (s.drive.fresh.targetTaken s.params.freshTravel s.drive.plan.held false t.air.freshTarget f ∧
        f.planTaken t.drive.plan.held false t.drive.fresh ∧
        inSet t.cond.active .freshDamperStall =
          (inSet s.cond.active .freshDamperStall &&
            !decide (s.drive.fresh.targetCompletes s.params.freshTravel t.air.freshTarget) &&
            !decide (f.planCompletes t.drive.plan.held))) ∧
       s.drive.blend.targetTaken s.params.blendTravel s.drive.plan.held false t.air.blend b ∧
       b.planTaken t.drive.plan.held false t.drive.blend ∧
       inSet t.cond.active .blendDamperStall =
         (inSet s.cond.active .blendDamperStall &&
           !decide (s.drive.blend.targetCompletes s.params.blendTravel t.air.blend) &&
           !decide (b.planCompletes t.drive.plan.held))) ∧
     t.drive.blend.target = t.air.blend * s.params.blendTravel / 1000 ∧
     t.drive.fresh.target = t.air.freshTarget * s.params.freshTravel / 1000 ∧ s.clutchReported t ∧
     t.air.target = s.air.target ∧ t.air.fan = s.air.fan ∧ t.air.mode = s.air.mode ∧
     t.air.overrides = s.air.overrides ∧ t.air.overrideTimer = s.air.overrideTimer ∧
     s.line.sameOutsideSlots t.line ∧ s.sameExcept [.air, .drive, .cond, .line] t)

/-- The split (R98, R99) for parameters in range and a wanted duty of 0 or MinDuty to 100: the estimated current of the plan is never
above the take it was made from; the planned duty is 0 or lies between MinDuty and the wanted duty; the stages are no more than
wanted, and none without the blower; the clutch is on only when called and covered; the dampers are free exactly when the base is
counted and covered. -/
def Obligations.SplitWithinTake : Prop :=
  ∀ (p : Params) (take : Nat) (w : Wants), p.inRange → (w.duty = 0 ∨ p.minDuty ≤ w.duty ∧ w.duty ≤ 100) →
    (split p take w).current p ≤ take ∧
    ((split p take w).duty = 0 ∨ p.minDuty ≤ (split p take w).duty ∧ (split p take w).duty ≤ w.duty) ∧
    (split p take w).stages ≤ w.stages ∧ ((split p take w).duty = 0 → (split p take w).stages = 0) ∧
    ((split p take w).clutch = true → w.clutchCall = true ∧ p.clutchCurrent ≤ take) ∧
    ((split p take w).held = false ↔ w.baseCounted = true ∧ p.baseLoad ≤ take)

/-- The split serves its steps in order (R98): what is left after the base and the clutch decides the blower, what is left after the
blower minimum decides the stages, and no further stage or duty would be covered by what remains. -/
def Obligations.SplitByRule : Prop :=
  ∀ (p : Params) (take : Nat) (w : Wants), p.inRange → (w.duty = 0 ∨ p.minDuty ≤ w.duty ∧ w.duty ≤ 100) →
    let q := split p take w
    let b1 := if q.held then take else take - p.baseLoad
    let b2 := if q.clutch then b1 - p.clutchCurrent else b1
    let m := (p.blowerFull * p.minDuty + 99) / 100
    (q.clutch = true ↔ w.clutchCall = true ∧ p.clutchCurrent ≤ b1) ∧
    (0 < q.duty ↔ 0 < w.duty ∧ m ≤ b2) ∧
    (0 < q.duty → q.stages * p.stageCurrent ≤ b2 - m ∧
      (q.stages < w.stages → b2 - m < (q.stages + 1) * p.stageCurrent) ∧
      q.duty = min w.duty (100 * (b2 - q.stages * p.stageCurrent) / p.blowerFull))

/-- The wanted duty of a blower level (R92, Table 6-1). -/
def Obligations.DutyOfLevel : Prop :=
  (∀ p : Params, dutyOf p 0 = 0) ∧
  (∀ (p : Params) (k : Nat), 1 ≤ k → k ≤ 8 → dutyOf p k = p.minDuty + (100 - p.minDuty) * (k - 1) / 7) ∧
  (∀ p : Params, p.inRange → dutyOf p 1 = p.minDuty ∧ dutyOf p 8 = 100 ∧
    ∀ k, k ≤ 8 → dutyOf p k = 0 ∨ p.minDuty ≤ dutyOf p k ∧ dutyOf p k ≤ 100) ∧
  ((List.range 9).map (dutyOf { defaultParams with minDuty := 30 }) = [0, 30, 40, 50, 60, 70, 80, 90, 100]) ∧
  ((List.range 9).map (dutyOf { defaultParams with minDuty := 25 }) = [0, 25, 35, 46, 57, 67, 78, 89, 100])

/-- DOOR_CLOSE_EVENT and DOOR_OPEN_EVENT (R73, R74, R81, R83): in Running, the close of the last open fitted door takes Fresh to
Pressurize and starts the boost timer, and the opening of a fitted door takes Pressurize to Fresh and stops it, the class and the
fresh damper target settled at once; in every other case the level is accepted and nothing else. Door 1 is fitted with one door or
two and door 2 with two, a door is closed when its line is accepted low, and the last open fitted door is the one whose close
leaves every fitted line so. A level already accepted is no event (log entry 24). -/
def Obligations.DoorsBoost : Prop :=
  (∀ (d : Door) (s : State), s.accepts d.line false = true → ∃ t, exec (.doorCloseEvent d) s = .next t ∧
    (if s.node.state = .running ∧ s.air.source = .fresh ∧
        ((d = .door1 ∧ 1 ≤ s.params.doorsFitted ∧ (s.params.doorsFitted < 2 ∨ s.input.slow.door2.accepted = some false)) ∨
          (d = .door2 ∧ 2 ≤ s.params.doorsFitted ∧ s.input.slow.door1.accepted = some false)) then
      t.air =
        { s.air with
          source := .pressurize, boost := .running 0, cls := classOf s.params t.air (s.reading .cabTemp)
          freshTarget := t.air.freshTarget } ∧
      s.freshSettled t ∧ t.input = (s.accept d.line false).input ∧ s.condsSameBut [.freshDamperStall] t ∧
      s.line.sameOutsideSlots t.line ∧ s.sameExcept [.air, .input, .drive, .cond, .line] t
     else s.onlyAccepted d.line false t)) ∧
  (∀ (d : Door) (s : State), s.accepts d.line true = true → ∃ t, exec (.doorOpenEvent d) s = .next t ∧
    (if s.node.state = .running ∧ s.air.source = .pressurize ∧
        ((d = .door1 ∧ 1 ≤ s.params.doorsFitted) ∨ (d = .door2 ∧ 2 ≤ s.params.doorsFitted)) then
      t.air =
        { s.air with
          source := .fresh, boost := .stopped, cls := classOf s.params t.air (s.reading .cabTemp)
          freshTarget := t.air.freshTarget } ∧
      s.freshSettled t ∧ t.input = (s.accept d.line true).input ∧ s.condsSameBut [.freshDamperStall] t ∧
      s.line.sameOutsideSlots t.line ∧ s.sameExcept [.air, .input, .drive, .cond, .line] t
     else s.onlyAccepted d.line true t)) ∧
  (∀ (p : Params) (a : AirUnit) (cab : Option Int), classOf p a cab =
    (if a.defrost = true ∨ a.source = .purge then .clearing
     else if (match cab with
      | some c => decide (p.recoveryError ≤ ((a.target : Int) - c).natAbs)
      | none => false) then .recovery
     else if a.source = .off then .standby else .comfort))

/-- BOOST_TIMER_EXPIRY, PURGE_TIMER_EXPIRY, LOCKOUT_TIMER_EXPIRY, MINIMUM_ON_EXPIRY, MINIMUM_OFF_EXPIRY and OVERRIDE_LIFETIME_EXPIRY
(R74, R78, R79, R81, R83, R95, R146): a boost ends in Fresh; a purge that runs out its time ends in Recirculate with PurgeTimeout
active, its counts and lead set cleared and the lockout started; the lockout's end makes PurgeTimeout inactive; each short-cycle
timer counts as expired from its expiry and nothing else happens; at the lifetime's end the override set is empty and its timer
stopped. The fresh damper target is settled at once. -/
def Obligations.AirTimersEnd : Prop :=
  ((∀ s : State, s.sourceLaws → s.air.boost.isRunning = true →
     ∃ t, exec .boostTimerExpiry s = .next t ∧
     t.air =
       { s.air with
         source := .fresh, boost := .stopped, cls := classOf s.params t.air (s.reading .cabTemp)
         freshTarget := t.air.freshTarget } ∧
     s.freshSettled t ∧ s.condsSameBut [.freshDamperStall] t ∧ s.line.sameOutsideSlots t.line ∧
     s.sameExcept [.air, .drive, .cond, .line] t) ∧
   (∀ s : State, s.sourceLaws → s.air.purge.isRunning = true →
     ∃ t, exec .purgeTimerExpiry s = .next t ∧
     t.air =
       { s.air with
         source := .recirculate, purge := .stopped, clearingHold := 0, leadSet := [], ownClear := 0
         lockout := .running 0, cls := classOf s.params t.air (s.reading .cabTemp), freshTarget := t.air.freshTarget } ∧
     inSet t.cond.active .purgeTimeout = true ∧ s.freshSettled t ∧
     (s.raise .purgeTimeout).condsSameBut [.freshDamperStall] t ∧ s.line.sameOutsideSlots t.line ∧
     s.sameExcept [.air, .drive, .cond, .line] t) ∧
   (∀ s : State, s.air.lockout.isRunning = true → ∃ t, exec .lockoutTimerExpiry s = .next t ∧
     t.air = { s.air with lockout := .expired } ∧ t.cond = (s.lower .purgeTimeout).cond ∧
     s.line.sameOutsideSlots t.line ∧ s.sameExcept [.air, .cond, .line] t)) ∧
  ((∀ s : State, s.air.minOn.isRunning = true →
     exec .minimumOnExpiry s = .next { s with air := { s.air with minOn := .expired } }) ∧
   (∀ s : State, s.air.minOff.isRunning = true →
     exec .minimumOffExpiry s = .next { s with air := { s.air with minOff := .expired } }) ∧
   (∀ s : State, s.overrideLaws → s.air.overrideTimer.isRunning = true → ∃ t, exec .overrideLifetimeExpiry s = .next t ∧
     t.air =
       { s.air with overrides := Overrides.none, overrideTimer := .stopped, freshTarget := t.air.freshTarget } ∧
     s.freshSettled t ∧ s.condsSameBut [.freshDamperStall] t ∧ s.line.sameOutsideSlots t.line ∧
     s.sameExcept [.air, .drive, .cond, .line] t))

/-- PANEL_ARRIVAL (R142 to R144, R81): the target is 100 + 5 × f with f at most 40, the fan request and the mode request are
taken, a mode of 4 to 7 leaving the mode as it was; in Running the override set is replaced whole, or cancelled when no flag is
set or the lifetime is 0, and the fresh damper target settled at once; outside Running the override part is ignored. The order
within the reception is the model's reading (log entry 12). -/
def Obligations.PanelArrivalTaken : Prop :=
  ∀ (d : PanelBytes) (s : State), s.Inv → s.node.state.receives = true → ∃ t, exec (.panelArrival d) s = .next t ∧
    t.air.target = 100 + 5 * min 40 d.b0.toNat ∧
    t.air.fan =
      (if d.b1.toNat % 16 = 15 then .off
       else if 1 ≤ d.b1.toNat % 16 ∧ d.b1.toNat % 16 ≤ 8 then .level (d.b1.toNat % 16) else .auto) ∧
    t.air.mode =
      (match d.b1.toNat / 16 % 8 with
       | 0 => .auto
       | 1 => .defrost
       | 2 => .recirculate
       | 3 => .off
       | _ => s.air.mode) ∧
    (let set : Overrides :=
      { level := if d.b2.getLsbD 0 then some (min 8 d.b3.toNat) else none
        stages := if d.b2.getLsbD 1 then some (min 4 (d.b4.toNat % 8)) else none
        fresh := if d.b2.getLsbD 2 then some (d.b4.getLsbD 7) else none
        blend := if d.b2.getLsbD 3 then some (min 100 d.b5.toNat) else none }
     (s.node.state = .running → d.b6 = 0 ∨ set = Overrides.none →
        t.air.overrides = Overrides.none ∧ t.air.overrideTimer = .stopped) ∧
     (s.node.state = .running → d.b6 ≠ 0 → set ≠ Overrides.none →
        t.air.overrides = set ∧ t.air.overrideLife = d.b6.toNat ∧ t.air.overrideTimer = .running 0)) ∧
    (s.node.state = .running → s.heardGood.freshSettled t) ∧
    (s.node.state ≠ .running → t.air.overrides = s.air.overrides ∧ t.air.overrideTimer = s.air.overrideTimer ∧
      t.drive = s.heardGood.drive ∧ t.cond = s.heardGood.cond ∧ t.air.freshTarget = s.air.freshTarget) ∧
    t.air =
      { s.heardGood.air with
        target := t.air.target, fan := t.air.fan, mode := t.air.mode, overrides := t.air.overrides
        overrideLife := t.air.overrideLife, overrideTimer := t.air.overrideTimer, freshTarget := t.air.freshTarget } ∧
    s.heardGood.condsSameBut [.freshDamperStall] t ∧ s.heardGood.line.sameOutsideSlots t.line ∧
    s.heardGood.sameExcept [.air, .drive, .cond, .line] t

/-! ### Measurement inputs (chapter 7) -/

/-- The temperature of a valid sample (R106): −400 plus the floor of 1650 × h / p; within the limits of h it lies between −318 and
+1167; and the product is at most 12 540 000. -/
def Obligations.TemperatureOfSample : Prop :=
  ∀ h p : Nat, 0 < p →
    (∃ q : Nat, q * p ≤ 1650 * h ∧ 1650 * h < (q + 1) * p ∧ tempOf h p = -400 + (q : Int)) ∧
    (tempValid h p = true ↔ 500 ≤ p ∧ p ≤ 8000 ∧ p ≤ 20 * h ∧ 20 * h ≤ 19 * p) ∧
    (tempValid h p = true → -318 ≤ tempOf h p ∧ tempOf h p ≤ 1167 ∧ 1650 * h ≤ 12540000)

/-- TEMPERATURE_EDGE, SMOKE_EDGE and EDGE_TIMEOUT_EXPIRY (R103 to R108, R110, Table 7-2), and what a commanded level or edge leaves at
its input (R103, R113): the accepted level, the last sample and the pin show it, and no other input changes; a first acceptance is
silent, a slow line's or an input's level already accepted is nothing, and an edge has the capture timer's value. Every edge restarts
the input's edge timeout, and one that comes 20 000 µs or more after the last finds no sample in progress, so that no interval of
20 ms is measured (R104). A temperature sample begins at a rising edge, takes the next falling edge as its fall and completes at the
next rising edge, which begins another; a smoke sample runs from a rising to the next falling edge. A valid completed sample of a
fitted sensor joins the open window; an edge that completes none changes no window; the timeout discards the sample in progress.
That a command naming an event that cannot be does nothing, that it moves the pin, and what it names at first acceptance are the
model's reading (log entries 3, 9, 10 and 24). -/
def Obligations.SensorEdgesSampled : Prop :=
  ((∀ (l : SlowLine) (level : Bool) (s : State),
      (∀ m : SlowLine, (s.accept l level).input.slow.get m =
        (if m = l then ⟨some level, some level⟩ else s.input.slow.get m)) ∧
      (s.accept l level).slowPinLevel l = level ∧
      (∀ m : SlowLine, m ≠ l → (s.accept l level).input.pins.slow m = s.input.pins.slow m) ∧
      (s.accept l level).input =
        { s.input with slow := (s.accept l level).input.slow, pins := (s.accept l level).input.pins } ∧
      s.sameExcept [.input] (s.accept l level) ∧
      ((s.input.slow.get l).accepted = none → exec (slowEvent l level) s = .next (s.accept l level)) ∧
      ((s.input.slow.get l).accepted = some level → exec (slowEvent l level) s = .next s) ∧
      s.lineLevel l = (match (s.input.slow.get l).accepted with
        | some b => b
        | none => decide (l = .door1 ∨ l = .door2 ∨ l = .supplyOk)) ∧
      s.overCurrent .blower = s.lineLevel .ocBlw ∧ s.overCurrent .heater = s.lineLevel .ocHtr ∧
      s.overCurrent .clutch = s.lineLevel .ocClu) ∧
   (∀ (x : FastInput) (level : Bool) (s : State),
      (∀ y : FastInput, (s.acceptFast x level).input.fast.get y =
        (if y = x then ⟨some level, some level⟩ else s.input.fast.get y)) ∧
      (∀ y : FastInput, (s.acceptFast x level).input.pins.fast y = (if y = x then level else s.input.pins.fast y)) ∧
      (s.acceptFast x level).input =
        { s.input with fast := (s.acceptFast x level).input.fast, pins := (s.acceptFast x level).input.pins } ∧
      s.sameExcept [.input] (s.acceptFast x level) ∧
      (∀ c, fastEvent s.input.captureTimer x level = some c →
        ((s.input.fast.get x).accepted = none → exec c s = .next (s.acceptFast x level)) ∧
        ((s.input.fast.get x).accepted = some level → x ∉ [.tach, .hallFrs, .hallBld] → exec c s = .next s)) ∧
      (∀ (c : Instr) (capture : BitVec 16), capture ≠ s.input.captureTimer → x ∉ [.tach, .hallFrs, .hallBld] →
        fastEvent capture x level = some c → exec c s = .next s))) ∧
  (∀ (x : TempInput) (s : State), (s.input.fast.get x.line).accepted = some false →
    ∃ t, exec (.temperatureEdge x true s.input.captureTimer) s = .next t ∧
    s.sameExcept [.input] t ∧
    t.input = ((s.acceptFast x.line true).mapSensor x.sensor fun _ => t.input.sensors.get x.sensor).input ∧
    (let e := s.input.sensors.get x.sensor
     let capture := s.input.captureTimer
     t.input.sensors.get x.sensor =
      (let b := { e with edgeTimeout := .running 0, sample := .begun capture }
       match if e.edgeTimeout.due 20000 then Sample.none else e.sample with
       | .fallen rise fall =>
         if tempValid (fall - rise).toNat (capture - rise).toNat = true ∧ s.input.windowTimer.isRunning = true ∧
             s.params.fitted x.sensor = true then
          { b with sum := e.sum + tempOf (fall - rise).toNat (capture - rise).toNat, count := e.count + 1 }
         else b
       | _ => b))) ∧
  (∀ (x : TempInput) (s : State), (s.input.fast.get x.line).accepted = some true →
    ∃ t, exec (.temperatureEdge x false s.input.captureTimer) s = .next t ∧
    s.sameExcept [.input] t ∧
    t.input = ((s.acceptFast x.line false).mapSensor x.sensor fun _ => t.input.sensors.get x.sensor).input ∧
    (let e := s.input.sensors.get x.sensor
     t.input.sensors.get x.sensor =
      { e with
        edgeTimeout := .running 0
        sample := match if e.edgeTimeout.due 20000 then Sample.none else e.sample with
          | .begun rise => .fallen rise s.input.captureTimer
          | other => other })) ∧
  (∀ (k : SmokeInput) (rising : Bool) (s : State), (s.input.fast.get k.line).accepted = some !rising →
    ∃ t, exec (.smokeEdge k rising s.input.captureTimer) s = .next t ∧
    s.sameExcept [.input] t ∧
    t.input = ((s.acceptFast k.line rising).mapSensor k.sensor fun _ => t.input.sensors.get k.sensor).input ∧
    (let e := s.input.sensors.get k.sensor
     let capture := s.input.captureTimer
     t.input.sensors.get k.sensor =
      (if rising then { e with edgeTimeout := .running 0, sample := .begun capture }
       else
        (let b := { e with edgeTimeout := .running 0, sample := .none }
         match if e.edgeTimeout.due 20000 then Sample.none else e.sample with
         | .begun rise =>
          let w := (capture - rise).toNat
          if 50 ≤ w ∧ w ≤ 950 ∧ s.input.windowTimer.isRunning = true ∧ s.params.fitted k.sensor = true then
            { b with
              sum := e.sum + (if w ≤ 99 then 0 else if w ≤ 900 then (((w - 100) * 1000 / 800 : Nat) : Int) else 1000)
              count := e.count + 1 }
          else b
         | _ => b)))) ∧
  (∀ (x : Sensor) (s : State), (s.input.sensors.get x).edgeTimeout.isRunning = true →
    ∃ t, exec (.edgeTimeoutExpiry x) s = .next t ∧ s.sameExcept [.input] t ∧
    t.input = (s.mapSensor x fun e => { e with sample := .none, edgeTimeout := .expired }).input)

/-- TACH_EDGE and WINDOW_CLOSE (R108 to R111, R125): a tach edge counts in the open window, up to 65 535; at a close each fitted
sensor takes the floor of its mean and loses its fault, or holds through three missed windows and then is Unavailable with its
fault active; a sensor not fitted is untouched; the tach value is the count × 120 / pulses per revolution, at most 60 000; and
the next windows open empty. The tach edges outside a window are not counted, and the fall between two of them is implied, which is
the model's reading (log entries 24 and 37). -/
def Obligations.WindowCloseSettles : Prop :=
  (∀ s : State, (s.input.fast.get .tach).accepted ≠ none → ∃ t, exec .tachEdge s = .next t ∧ s.sameExcept [.input] t ∧
    t.input =
      { (s.acceptFast .tach true).input with
        tachCount := if s.input.windowTimer.isRunning then min 65535 (s.input.tachCount + 1) else s.input.tachCount }) ∧
  (∀ s : State, s.input.windowTimer.isRunning = true → ∃ t, exec .windowClose s = .next t ∧
    t.input.windowTimer = .running 0 ∧ t.input.tachCount = 0 ∧
    t.input.tachValue =
      (if s.params.tachFitted then some (min 60000 (s.input.tachCount * 120 / s.params.pulsesPerRev)) else none) ∧
    (∀ x : Sensor, t.input.sensors.get x =
      (let e := s.input.sensors.get x
       let w := { e with sum := 0, count := 0 }
       if s.params.fitted x = false then w
       else if 0 < e.count then { w with value := some (e.sum / (e.count : Int)), missed := 0, fault := false }
       else if e.missed < 3 then { w with missed := e.missed + 1 }
       else if e.missed = 3 then { w with missed := 4, value := none, fault := true } else w)) ∧
    (∀ x : Sensor, s.params.fitted x = true →
      inSet t.cond.active x.fault = (t.input.sensors.get x).fault) ∧
    (∀ c : Condition, (∀ x : Sensor, s.params.fitted x = true → c ≠ x.fault) →
      inSet t.cond.active c = inSet s.cond.active c) ∧
    t.input =
      { s.input with
        windowTimer := t.input.windowTimer, tachCount := t.input.tachCount, tachValue := t.input.tachValue
        sensors := t.input.sensors } ∧
    t.drive =
      { s.drive with
        stall := match t.input.tachValue with
          | none => s.drive.stall
          | some rpm =>
            if s.drive.blower.state ≠ .running then s.drive.stall
            else if 300 ≤ rpm then .stopped
            else if s.drive.stall.isRunning then s.drive.stall else .running 0 } ∧
    s.line.sameOutsideSlots t.line ∧ s.sameExcept [.input, .cond, .drive, .line] t)

/-! ### Output channels (chapter 8) -/

/-- OVER_CURRENT_ASSERTED, BLOWER_STALL_EXPIRY and CHANNEL_LOCK (R122, R124 to R127): a driven channel whose line is accepted
asserted trips, and so does a Running blower at its stall timer's expiry: its output goes off, its timers stop, the trip count
rises by 1, the trip condition of the cause is active, and the channel goes to Tripped, to Cooldown when its line is not
asserted, or to Locked, with ChannelLocked, when the count reaches 3; a blower trip drops the heater stages. CHANNEL_LOCK is the
trip at a count of 2. In any other state the assertion is accepted and ignored. CHANNEL_LOCK as the trip at a count of 2, by
one of these two events, is the model's reading (log entries 11 and 51); a level already accepted is no event (log entry 24). -/
def Obligations.TripsCutOff : Prop :=
  (∀ (c : Channel) (s : State), s.Inv → s.accepts c.line true = true → ∃ t, exec (.overCurrentAsserted c) s = .next t ∧
    ((s.drive.channel c).driving = false → s.onlyAccepted c.line true t) ∧
    ((s.drive.channel c).driving = true →
      (t.drive.channel c).trips = min 3 ((s.drive.channel c).trips + 1) ∧
      (t.drive.channel c).state = (if 2 ≤ (s.drive.channel c).trips then .locked else .tripped) ∧
      (t.drive.channel c).cleanRun = .stopped ∧ inSet t.cond.active c.tripCondition = true ∧
      inSet t.cond.active .channelLocked = t.drive.anyLocked ∧
      (c = .blower → t.drive.duty = 0 ∧ t.drive.ramp = .stopped ∧ t.drive.stall = .stopped ∧ t.drive.stages = 0 ∧
        t.drive.pwm.figure = 0) ∧
      (c = .heater → t.drive.stages = 0) ∧ s.clutchReported t ∧ t.air = { s.air with minOn := t.air.minOn, minOff := t.air.minOff } ∧
      (∀ d : Channel, d ≠ c → (t.drive.channel d).trips = (s.drive.channel d).trips ∧
        ((t.drive.channel d).state = (s.drive.channel d).state ∨ (d = .heater ∧ c = .blower ∧ (t.drive.channel d).state = .off))) ∧
      t.drive.plan = s.drive.plan ∧ t.drive.fresh = s.drive.fresh ∧ t.drive.blend = s.drive.blend ∧
      t.input = (s.accept c.line true).input ∧ s.line.sameOutsideSlots t.line ∧
      s.sameExcept [.drive, .cond, .air, .input, .line] t) ∧
    ((s.drive.channel c).driving = true → (s.drive.channel c).trips = 2 →
      exec (.channelLock c .overCurrent) s = .next t)) ∧
  (∀ s : State, s.Inv → s.drive.stall.isRunning = true → s.drive.blower.state = .running →
    ∃ t, exec .blowerStallExpiry s = .next t ∧
      t.drive.blower.trips = min 3 (s.drive.blower.trips + 1) ∧
      t.drive.blower.state =
        (if 2 ≤ s.drive.blower.trips then .locked else if s.overCurrent .blower then .tripped else .cooldown) ∧
      (t.drive.blower.state = .cooldown → t.drive.blower.cooldown = .running 0) ∧
      inSet t.cond.active .blowerStall = true ∧ inSet t.cond.active .channelLocked = t.drive.anyLocked ∧
      t.drive.duty = 0 ∧ t.drive.stages = 0 ∧ t.drive.stall = .stopped ∧ t.drive.ramp = .stopped ∧
      t.drive.clutch = s.drive.clutch ∧ t.drive.plan = s.drive.plan ∧ s.line.sameOutsideSlots t.line ∧
      s.sameExcept [.drive, .cond, .line] t ∧
      (s.drive.blower.trips = 2 → exec (.channelLock .blower .stall) s = .next t))

/-- OVER_CURRENT_CLEARED, COOLDOWN_TIMER_EXPIRY and CHANNEL_UNLOCK (R119, R121 to R124, R126, R128): a Tripped channel whose line
clears goes to Cooldown with its timer started; at the cooldown timer's expiry, and for a Locked channel that an unlock names with
its trip count then at 0, the channel enters Off with its trip condition inactive and takes up the plan in force: it is driven when
the plan drives it and stays Off when it does not, and one that would be driven while its line is accepted asserted trips again.
The order within the reception, the order in which several named channels are unlocked, and the judging of each at its turn are the
model's reading (log entries 12, 42 and 44). -/
def Obligations.ChannelsRecover : Prop :=
  (∀ (c : Channel) (s : State), s.accepts c.line false = true → ∃ t, exec (.overCurrentCleared c) s = .next t ∧
    t.drive.channel c =
      (if (s.drive.channel c).state = .tripped then { s.drive.channel c with state := .cooldown, cooldown := .running 0 }
       else s.drive.channel c) ∧
    t.drive = s.drive.setChannel (t.drive.channel c) c ∧ t.input = (s.accept c.line false).input ∧
    s.line.sameOutsideSlots t.line ∧ s.sameExcept [.drive, .input, .line] t) ∧
  (∀ (c : Channel) (s : State), s.Inv → (s.drive.channel c).state = .cooldown → (s.drive.channel c).cooldown.isRunning = true →
    ∃ t, exec (.cooldownTimerExpiry c) s = .next t ∧ s.channelReturned c (s.drive.channel c).trips t ∧
    (∀ d : Channel, d ≠ c → d ≠ .heater ∨ s.drive.heater.state ≠ .off → t.drive.channel d = s.drive.channel d) ∧
    s.clutchReported t ∧ t.drive.plan = s.drive.plan ∧ t.drive.fresh = s.drive.fresh ∧ t.drive.blend = s.drive.blend ∧
    t.air = { s.air with minOn := t.air.minOn, minOff := t.air.minOff } ∧ s.line.sameOutsideSlots t.line ∧
    s.sameExcept [.drive, .cond, .air, .line] t) ∧
  (∀ (b1 : Byte) (s : State), s.Inv → s.node.state.receives = true → ∃ t, exec (.channelUnlock b1) s = .next t ∧
    (let h := s.heardGood
     let named := fun c : Channel => match c with
      | .blower => b1.getLsbD 0
      | .heater => b1.getLsbD 1
      | .clutch => b1.getLsbD 2
     (∀ c : Channel, (named c = true → (h.drive.channel c).state = .locked → h.channelReturned c 0 t) ∧
      (named c = false ∨ (h.drive.channel c).state ≠ .locked → c ≠ .heater ∨ h.drive.heater.state ≠ .off →
        t.drive.channel c = h.drive.channel c)) ∧
     inSet t.cond.active .channelLocked = t.drive.anyLocked ∧ h.clutchReported t ∧ t.drive.plan = h.drive.plan ∧
     t.drive.fresh = h.drive.fresh ∧ t.drive.blend = h.drive.blend ∧
     t.air = { h.air with minOn := t.air.minOn, minOff := t.air.minOff } ∧
     h.line.sameOutsideSlots t.line ∧ h.sameExcept [.drive, .cond, .air, .line] t))

/-- RAMP_TIMER_EXPIRY and CLEAN_RUN_EXPIRY (R121, R122, R127): the duty figure becomes the smaller of the plan duty and itself plus
10; below the plan duty the ramp timer restarts, and otherwise it stops and a Starting blower is Running with its clean-run timer
started; a Running heater group drives the stages of the plan, and any other stays as it is with none. After 60 s of Running the
trip count is 0. -/
def Obligations.RampAndCleanRun : Prop :=
  (∀ s : State, s.Inv → s.drive.ramp.isRunning = true → s.drive.blower.driving = true →
    ∃ t, exec .rampTimerExpiry s = .next t ∧
    t.drive.duty = min s.drive.plan.duty (s.drive.duty + 10) ∧
    t.drive.ramp = (if t.drive.duty < s.drive.plan.duty then .running 0 else .stopped) ∧
    t.drive.blower =
      (if t.drive.duty < s.drive.plan.duty ∨ s.drive.blower.state = .running then s.drive.blower
       else { s.drive.blower with state := .running, cleanRun := .running 0 }) ∧
    t.drive.stages = (if s.drive.heater.state = .running then s.drive.plan.stages else 0) ∧
    t.drive.heater = s.drive.heater ∧
    t.drive.clutch = s.drive.clutch ∧ t.drive.plan = s.drive.plan ∧ t.drive.fresh = s.drive.fresh ∧
    t.drive.blend = s.drive.blend ∧ s.line.sameOutsideSlots t.line ∧ s.sameExcept [.drive, .line] t) ∧
  (∀ (c : Channel) (s : State), (s.drive.channel c).cleanRun.isRunning = true →
    exec (.cleanRunExpiry c) s =
      .next { s with drive := s.drive.setChannel { s.drive.channel c with trips := 0, cleanRun := .expired } c })

/-! ### Damper actuators (chapter 9) -/

/-- HALL_EDGE (R131, R132, R135, R136): with the drive running p moves by one in the direction driven, within 0 to F, and the stall
timer restarts; with the drive stopped less than 100 ms ago, the coast timer running, p moves by one in the last direction; otherwise
the edge is ignored. A Moving actuator that the edge leaves at target stops and is Idle, with its stall condition inactive; an Idle one that a
coasting edge leaves off target makes the start test. The fall between two rising edges is implied, and the wait of Parking is tested
on the state the event leaves, which is the model's reading (log entries 24 and 46). -/
def Obligations.HallEdgeMoves : Prop :=
  ∀ (x : Damper) (s : State), s.mayHand → (s.input.fast.get x.line).accepted ≠ none → ∃ t, exec (.hallEdge x) s = .next t ∧
    t.input = (s.acceptFast x.line true).input ∧
    (let a := s.drive.actuator x
     let b := t.drive.actuator x
     let F := s.params.travel x
     let dir := a.drive.getD a.last
     let coasts := a.coast.isRunning && !a.coast.due 100000
     let moves := a.drive.isSome || coasts
     let p := if moves = false then a.position
       else match dir with
        | .towardZero => a.position - 1
        | .towardFull => if a.position < F then a.position + 1 else a.position
     let at_ := decide (a.target ≤ p + 2) && decide (p ≤ a.target + 2)
     b.position = p ∧ b.target = a.target ∧
     (moves = false → b = a ∧ s.sameExcept [.line, .input] t) ∧
     (a.drive.isSome = true → (a.state ≠ .moving ∨ at_ = false) →
       b = { a with position := p, stallTimer := .running 0 }) ∧
     (a.drive.isSome = true → a.state = .moving → at_ = true →
       b = { a with
         position := p, state := .idle, drive := none, coast := .running 0, stallTimer := .stopped, stalls := 0 } ∧
       inSet t.cond.active x.stallCondition = false) ∧
     (a.drive = none → coasts = true → a.state ≠ .idle ∨ at_ = true ∨ s.node.state = .sleep →
       b = { a with position := p }) ∧
     (a.drive = none → coasts = true → a.state = .idle → at_ = false → s.node.state ≠ .sleep →
       b = (if s.drive.plan.held then { a with position := p, state := .held, resume := some .idle }
            else
              let d : Direction := if p < a.target then .towardFull else .towardZero
              if d = a.last then
                { a with
                  position := p, state := .moving, drive := some d, coast := .stopped, stallTimer := .running 0 }
              else { a with position := p, state := .reversing, reversal := .running 0 })) ∧
     t.drive = s.drive.setActuator b x) ∧
    s.condsSameBut [x.stallCondition] t ∧ s.parkingTested t ∧ s.line.sameOutsideSlots t.line ∧
    s.sameExcept [.drive, .cond, .line, .node, .input] t

/-- DAMPER_STALL and HOMING_TIMER_EXPIRY (R132, R134, R137): a stall in Homing, and one near home in Moving toward 0, set p to 0 as a
completed move; another first stall stops the drive in Stalled with p kept, the count 1, the retry timer started and the stall
condition active; the second is Failed. The homing timer's expiry is Failed with p kept and the stall condition active. The wait of
Parking is tested on the state the event leaves (log entry 46). -/
def Obligations.StallsAndHoming : Prop :=
  (∀ (x : Damper) (s : State), s.mayHand → (s.drive.actuator x).drive.isSome = true →
    (s.drive.actuator x).stallTimer.isRunning = true →
    ((s.drive.actuator x).state = .homing ∨ (s.drive.actuator x).state = .moving) →
    ∃ t, exec (.damperStall x) s = .next t ∧
    (let a := s.drive.actuator x
     let b := t.drive.actuator x
     let home := decide (a.state = .homing) ||
      (decide (a.drive = some .towardZero) && decide (a.position ≤ s.params.travel x / 20))
     (home = true → b.position = 0 ∧ b.stalls = 0 ∧ b.homing = .stopped ∧ inSet t.cond.active x.stallCondition = false ∧
       (a.target ≤ 2 ∨ s.node.state = .sleep → b.state = .idle ∧ b.drive = none) ∧
       (2 < a.target → s.node.state ≠ .sleep → s.drive.plan.held = true → b.state = .held ∧ b.resume = some .idle) ∧
       (2 < a.target → s.node.state ≠ .sleep → s.drive.plan.held = false → a.last = .towardZero →
         b.state = .reversing ∧ b.reversal = .running 0)) ∧
     (home = false → a.stalls = 0 →
       b = { a with
         state := .stalled, drive := none, coast := .running 0, stallTimer := .stopped, stalls := 1
         retry := .running 0 } ∧
       inSet t.cond.active x.stallCondition = true) ∧
     (home = false → a.stalls ≠ 0 →
       b = { a with state := .failed, drive := none, coast := .running 0, stallTimer := .stopped } ∧
       t.cond = s.cond) ∧
     t.drive = s.drive.setActuator b x) ∧
    s.parkingTested t ∧ s.line.sameOutsideSlots t.line ∧ s.sameExcept [.drive, .cond, .line, .node] t) ∧
  (∀ (x : Damper) (s : State), s.mayHand → (s.drive.actuator x).state = .homing →
    (s.drive.actuator x).homing.isRunning = true → (s.drive.actuator x).drive.isSome = true →
    ∃ t, exec (.homingTimerExpiry x) s = .next t ∧
    t.drive = s.drive.setActuator
      { s.drive.actuator x with
        state := .failed, drive := none, coast := .running 0, stallTimer := .stopped, homing := .stopped } x ∧
    t.cond = (s.raise x.stallCondition).cond ∧ s.parkingTested t ∧ s.line.sameOutsideSlots t.line ∧
    s.sameExcept [.drive, .cond, .line, .node] t)

/-- COAST_TIMER_EXPIRY, REVERSAL_TIMER_EXPIRY and RETRY_TIMER_EXPIRY (R132, R133, R135 to R137): the coast window closes and nothing
else happens; a Reversing actuator, and a Stalled one under a plan that frees the dampers, becomes Idle as a completed move at
target and otherwise makes the start test: it moves toward its target, the stall count kept, or goes to Reversing while it still
coasts the other way. A Stalled actuator under a plan that holds the dampers goes to Held with resume state Idle. The wait of Parking
is tested on the state the event leaves (log entry 46). -/
def Obligations.ActuatorTimersEnd : Prop :=
  (∀ (x : Damper) (s : State), (s.drive.actuator x).coast.isRunning = true →
    exec (.coastTimerExpiry x) s =
      .next { s with drive := s.drive.setActuator { s.drive.actuator x with coast := .expired } x }) ∧
  (∀ (x : Damper) (c : Instr) (s : State), s.mayHand → s.node.state ≠ .sleep →
    (c = .reversalTimerExpiry x ∧ (s.drive.actuator x).state = .reversing ∧ (s.drive.actuator x).reversal.isRunning = true ∧
        s.drive.plan.held = false) ∨
      (c = .retryTimerExpiry x ∧ (s.drive.actuator x).state = .stalled ∧ (s.drive.actuator x).retry.isRunning = true) →
    ∃ t, exec c s = .next t ∧
    (let a : Actuator := s.drive.actuator x
     let b : Actuator := t.drive.actuator x
     let r : Actuator := { a with
      reversal := if a.state = ActuatorState.reversing then .stopped else a.reversal
      retry := if a.state = ActuatorState.stalled then .stopped else a.retry }
     (s.drive.plan.held = true → b = { r with state := .held, resume := some .idle } ∧ t.cond = s.cond) ∧
     (s.drive.plan.held = false → a.atTarget = true →
       b = { r with state := .idle, stalls := 0 } ∧ inSet t.cond.active x.stallCondition = false) ∧
     (s.drive.plan.held = false → a.atTarget = false →
       b = (if a.wanted ≠ a.last ∧ a.coast.isRunning = true then { r with state := .reversing, reversal := .running 0 }
            else
              { r with
                state := .moving, drive := some a.wanted, last := a.wanted, coast := .stopped
                stallTimer := .running 0 }) ∧
       t.cond = s.cond) ∧
     t.drive = s.drive.setActuator b x) ∧
    s.condsSameBut [x.stallCondition] t ∧ s.parkingTested t ∧ s.line.sameOutsideSlots t.line ∧
    s.sameExcept [.drive, .cond, .line, .node] t)

/-- REHOME_DAMPERS (R139): each actuator, from whatever state, stops its drive and goes to Unhomed with its timers stopped, its
stall count 0, p kept and its stall condition inactive; under a plan that frees the dampers it goes on to Homing in the same
event, with its drive toward 0 and the homing timer started. The order within the reception is the model's reading (log entry
12). -/
def Obligations.RehomeStartsHoming : Prop :=
  ∀ s : State, s.node.state.receives = true → ∃ t, exec .rehomeDampers s = .next t ∧
    (let h := s.heardGood
     (∀ x : Damper,
      (t.drive.actuator x).position = (h.drive.actuator x).position ∧
      (t.drive.actuator x).target = (h.drive.actuator x).target ∧ (t.drive.actuator x).stalls = 0 ∧
      (t.drive.actuator x).retry = .stopped ∧ (t.drive.actuator x).reversal = .stopped ∧
      (t.drive.actuator x).resume = none ∧ inSet t.cond.active x.stallCondition = false ∧
      (h.drive.plan.held = true →
        (t.drive.actuator x).state = .unhomed ∧ (t.drive.actuator x).drive = none ∧
        (t.drive.actuator x).homing = .stopped ∧ (t.drive.actuator x).stallTimer = .stopped ∧
        ((h.drive.actuator x).drive.isSome = true → (t.drive.actuator x).coast = .running 0)) ∧
      (h.drive.plan.held = false →
        (t.drive.actuator x).state = .homing ∧ (t.drive.actuator x).drive = some .towardZero ∧
        (t.drive.actuator x).homing = .running 0 ∧ (t.drive.actuator x).stallTimer = .running 0)) ∧
     t.drive = { h.drive with fresh := t.drive.fresh, blend := t.drive.blend } ∧
     h.condsSameBut [.freshDamperStall, .blendDamperStall] t ∧ h.line.sameOutsideSlots t.line ∧
     h.sameExcept [.drive, .cond, .line] t)

/-! ### Conditions and reports (chapter 11) -/

/-- An arising and its end (R147, R148): a condition outside the mask joins the active set alone; one in the mask is latched when
not frozen, made pending when frozen and not pending, and swallowed, up to 255, when frozen and pending; a condition already
active makes no arising; and one made inactive leaves the active set and no other. A change of the active count sets B change owed
in Running, SupplyLow and Parking and nothing elsewhere (R9), and that mark is all that either does to the Line Interface. -/
def Obligations.ConditionArises : Prop :=
  ∀ (c : Condition) (s : State),
    (inSet s.cond.active c = true → s.raise c = s) ∧
    (inSet s.cond.active c = false →
      (∀ d, inSet (s.raise c).cond.active d = (inSet s.cond.active d || decide (d = c))) ∧
      (s.raise c).cond.mask = s.cond.mask ∧ (s.raise c).cond.frozen = s.cond.frozen ∧
      (s.raise c).cond.autoRelease = s.cond.autoRelease ∧
      (∀ d, inSet (s.raise c).cond.latched d =
        (inSet s.cond.latched d || (decide (d = c) && inSet s.cond.mask c && !s.cond.frozen))) ∧
      (∀ d, inSet (s.raise c).cond.pending d =
        (inSet s.cond.pending d || (decide (d = c) && inSet s.cond.mask c && s.cond.frozen))) ∧
      (s.raise c).cond.swallowed =
        (if inSet s.cond.mask c && s.cond.frozen && inSet s.cond.pending c then min 255 (s.cond.swallowed + 1)
         else s.cond.swallowed)) ∧
    (s.lower c).cond = { s.cond with active := (s.lower c).cond.active } ∧
    (∀ d, inSet (s.lower c).cond.active d = (inSet s.cond.active d && decide (d ≠ c))) ∧
    (let works := decide (s.node.state = .running ∨ s.node.state = .supplyLow ∨ s.node.state = .parking)
     (s.raise c).line = { s.line with bChangeOwed := s.line.bChangeOwed || (works && !inSet s.cond.active c) } ∧
     (s.lower c).line = { s.line with bChangeOwed := s.line.bChangeOwed || (works && inSet s.cond.active c) }) ∧
    (s.raise c).sameExcept [.cond, .line] s ∧ (s.lower c).sameExcept [.cond, .line] s

/-- CONDITION_READ, CONDITION_CLEAR, CONDITION_RELEASE and AUTO_RELEASE_EXPIRY (R149 to R151): a read freezes, restarts the
auto-release timer and hands a report that shows frozen and the sets as they stand, which marks a report on the line as replaced; a
clear removes the listed conditions from
the latched set alone; a release, and the timer's expiry, latches the pending conditions and ends the freeze, and does nothing
while not frozen. The order within the reception is the model's reading (log entry 12). -/
def Obligations.ConditionRequests : Prop :=
  (∀ s : State, s.Inv → s.node.state.receives = true → ∃ t, exec .conditionRead s = .next t ∧
    t.cond = { s.heardGood.cond with frozen := true, autoRelease := .running 0 } ∧
    t.line.reportSlot =
      (if s.line.listenOnly then s.line.reportSlot
       else some ⟨t.cond.latched, t.cond.active, t.cond.swallowed, true, decide (t.cond.pending ≠ 0)⟩) ∧
    (∀ o c, s.line.onLine = some o → o.frame = .report c →
      t.line.onLine = some { o with replaced := o.replaced || !s.line.listenOnly }) ∧
    ({ s.heardGood.line with reportSlot := t.line.reportSlot } : LineInterface).sameOutsideSlots t.line ∧
    s.heardGood.sameExcept [.cond, .line] t) ∧
  (∀ (b1 b2 b3 : Byte) (s : State), s.Inv → s.node.state.receives = true →
    ∃ t, exec (.conditionClear b1 b2 b3) s = .next t ∧
    t.cond = { s.heardGood.cond with latched := s.heardGood.cond.latched &&& ~~~(b3 ++ b2 ++ b1) } ∧
    s.heardGood.line.sameOutsideSlots t.line ∧ s.heardGood.sameExcept [.cond, .line] t) ∧
  (∀ s : State, s.Inv → s.node.state.receives = true → ∃ t, exec .conditionRelease s = .next t ∧
    t.cond =
      (if s.heardGood.cond.frozen then
        { s.heardGood.cond with
          latched := s.heardGood.cond.latched ||| s.heardGood.cond.pending
          pending := 0, swallowed := 0, frozen := false, autoRelease := .stopped }
       else s.heardGood.cond) ∧
    s.heardGood.line.sameOutsideSlots t.line ∧ s.heardGood.sameExcept [.cond, .line] t) ∧
  (∀ s : State, s.cond.frozen = true → s.cond.autoRelease.isRunning = true →
    ∃ t, exec .autoReleaseExpiry s = .next t ∧
    t.cond =
      { s.cond with
        latched := s.cond.latched ||| s.cond.pending, pending := 0, swallowed := 0, frozen := false
        autoRelease := .stopped } ∧
    s.line.sameOutsideSlots t.line ∧ s.sameExcept [.cond, .line] t)

/-! ### Invariants that every step keeps -/

/-- After every step from a state that meets the invariant: A equals T in Steady and exceeds it otherwise, T exceeds neither the
grant nor, in Isolated operation, the isolated cap, and the register stands at 0 outside Running (R49, R51, R52, R65); in Announced a
Demand carrying A or more has completed, so that A is at most Lc (R52, R56). The first law of R51, T at most Lc outside Isolated
operation, is no invariant of the rules as written (log entry 27); what holds is that a step which does not leave the flag set keeps
it, and establishes it where the flag was set, but for one corner: the completion of a Demand that carries less than T. The
configuration and the Peer Table stay in their ranges (R18, R19, R155), and the leaving phase stays a part of Parking (R159). -/
def Obligations.TakeLawsKept : Prop :=
  ∀ s t : State, s.Inv → step s = .next t →
    t.takeLaws ∧ t.announcedLaw ∧ t.peersInRange ∧ t.params.inRange ∧ t.loadingAtRest ∧ t.nodeLaws ∧
    (t.line.isolated = false → (s.line.isolated = true ∨ s.share.applied ≤ s.share.lastCompleted) →
      t.share.applied ≤ t.share.lastCompleted ∨
      (∃ (o : OnLine) (c : Demand), s.line.onLine = some o ∧ o.frame = .demand c ∧ o.void = false ∧
        t.share = { s.share with lastCompleted := c.take, state := t.share.state } ∧ c.take < s.share.applied))

/-- The outputs driven stay within the plan in force, the estimated current of the plan within the applied take, and no heater
stage is on without the blower driven at MinDuty or above (R64, R99, R121, R122, R133), and the output pins show what is driven
(R118, R120, R122 to R124, R131), after every step from a state that meets the invariant. That a heater stage on and a driven
clutch stand high at their pins is the model's choice (log entry 49). -/
def Obligations.OutputsWithinTakeKept : Prop :=
  ∀ s t : State, s.Inv → step s = .next t → t.withinTake ∧ t.withinPlan ∧ t.heaterSafe ∧ t.outputLaws ∧ t.pinsDriven

/-- Each condition of Table 11-1 that State.ownersFollowed lists is active exactly while its owner says so, and the freeze keeps its
laws (R147 to R151), after every step from a state that meets the invariant. -/
def Obligations.ConditionsFollowOwnersKept : Prop :=
  ∀ s t : State, s.Inv → step s = .next t → t.ownersFollowed ∧ t.freezeLaws

/-- A Demand that waits in its slot carries the current values (R4, R8 case 4), no frame waits in Listen-only or outside the node
states that hand frames (R5, R14, R15), a frame on offer still stands in its slot unless the offer shows that a newer one replaced
it there (R5, R7), an occupied slot stays occupied until its frame completes, but for Listen-only, Sleep and cold start (R5, R7,
R14, R15), and the line's counts keep their ranges (R11, R12), after every step from a state that meets the invariant. -/
def Obligations.WaitingDemandCurrentKept : Prop :=
  ∀ s t : State, s.Inv → step s = .next t → t.waitingCurrent ∧ t.lineLaws ∧ t.offerLaw ∧ s.slotsKept t

/-- The source machine's timers, counts and sets belong to their states, boosts, purges and overrides do not outlast Running
(R72 to R79, R84, R146), every damper position and target count lies within its travel (R131), and the edge timeout keeps every
interval measured on a sensor input below 20 ms, having run since the last edge of every sample in progress (R104), after every step
from a state that meets the invariant. -/
def Obligations.AirTravelAndSampleLawsKept : Prop :=
  ∀ s t : State, s.Inv → step s = .next t → t.sourceLaws ∧ t.overrideLaws ∧ t.withinTravel ∧ t.sampleLaws
end

