-- ==== Sys2Proof/Laws/State.lean ====
section
/-! SUPPORT. One lemma per field per update of one block, true by rfl, so that no later proof unfolds a record update; and the
small lemmas of the timers and the selectors. -/

namespace Sys2Proof.Machine

/-! ### `State.mapNode` -/

@[simp] theorem State.mapNode_params (g : NodeControl → NodeControl) (s : State) : (s.mapNode g).params = s.params := rfl
@[simp] theorem State.mapNode_node (g : NodeControl → NodeControl) (s : State) : (s.mapNode g).node = g s.node := rfl
@[simp] theorem State.mapNode_line (g : NodeControl → NodeControl) (s : State) : (s.mapNode g).line = s.line := rfl
@[simp] theorem State.mapNode_peers (g : NodeControl → NodeControl) (s : State) : (s.mapNode g).peers = s.peers := rfl
@[simp] theorem State.mapNode_allowance (g : NodeControl → NodeControl) (s : State) : (s.mapNode g).allowance = s.allowance := rfl
@[simp] theorem State.mapNode_share (g : NodeControl → NodeControl) (s : State) : (s.mapNode g).share = s.share := rfl
@[simp] theorem State.mapNode_air (g : NodeControl → NodeControl) (s : State) : (s.mapNode g).air = s.air := rfl
@[simp] theorem State.mapNode_input (g : NodeControl → NodeControl) (s : State) : (s.mapNode g).input = s.input := rfl
@[simp] theorem State.mapNode_drive (g : NodeControl → NodeControl) (s : State) : (s.mapNode g).drive = s.drive := rfl
@[simp] theorem State.mapNode_cond (g : NodeControl → NodeControl) (s : State) : (s.mapNode g).cond = s.cond := rfl
@[simp] theorem State.mapNode_pending (g : NodeControl → NodeControl) (s : State) : (s.mapNode g).pending = s.pending := rfl
@[simp] theorem State.mapNode_choices (g : NodeControl → NodeControl) (s : State) : (s.mapNode g).choices = s.choices := rfl

/-! ### `State.mapLine` -/

@[simp] theorem State.mapLine_params (g : LineInterface → LineInterface) (s : State) : (s.mapLine g).params = s.params := rfl
@[simp] theorem State.mapLine_node (g : LineInterface → LineInterface) (s : State) : (s.mapLine g).node = s.node := rfl
@[simp] theorem State.mapLine_line (g : LineInterface → LineInterface) (s : State) : (s.mapLine g).line = g s.line := rfl
@[simp] theorem State.mapLine_peers (g : LineInterface → LineInterface) (s : State) : (s.mapLine g).peers = s.peers := rfl
@[simp] theorem State.mapLine_allowance (g : LineInterface → LineInterface) (s : State) : (s.mapLine g).allowance = s.allowance := rfl
@[simp] theorem State.mapLine_share (g : LineInterface → LineInterface) (s : State) : (s.mapLine g).share = s.share := rfl
@[simp] theorem State.mapLine_air (g : LineInterface → LineInterface) (s : State) : (s.mapLine g).air = s.air := rfl
@[simp] theorem State.mapLine_input (g : LineInterface → LineInterface) (s : State) : (s.mapLine g).input = s.input := rfl
@[simp] theorem State.mapLine_drive (g : LineInterface → LineInterface) (s : State) : (s.mapLine g).drive = s.drive := rfl
@[simp] theorem State.mapLine_cond (g : LineInterface → LineInterface) (s : State) : (s.mapLine g).cond = s.cond := rfl
@[simp] theorem State.mapLine_pending (g : LineInterface → LineInterface) (s : State) : (s.mapLine g).pending = s.pending := rfl
@[simp] theorem State.mapLine_choices (g : LineInterface → LineInterface) (s : State) : (s.mapLine g).choices = s.choices := rfl

/-! ### `State.mapPeers` -/

@[simp] theorem State.mapPeers_params (g : PeerTable → PeerTable) (s : State) : (s.mapPeers g).params = s.params := rfl
@[simp] theorem State.mapPeers_node (g : PeerTable → PeerTable) (s : State) : (s.mapPeers g).node = s.node := rfl
@[simp] theorem State.mapPeers_line (g : PeerTable → PeerTable) (s : State) : (s.mapPeers g).line = s.line := rfl
@[simp] theorem State.mapPeers_peers (g : PeerTable → PeerTable) (s : State) : (s.mapPeers g).peers = g s.peers := rfl
@[simp] theorem State.mapPeers_allowance (g : PeerTable → PeerTable) (s : State) : (s.mapPeers g).allowance = s.allowance := rfl
@[simp] theorem State.mapPeers_share (g : PeerTable → PeerTable) (s : State) : (s.mapPeers g).share = s.share := rfl
@[simp] theorem State.mapPeers_air (g : PeerTable → PeerTable) (s : State) : (s.mapPeers g).air = s.air := rfl
@[simp] theorem State.mapPeers_input (g : PeerTable → PeerTable) (s : State) : (s.mapPeers g).input = s.input := rfl
@[simp] theorem State.mapPeers_drive (g : PeerTable → PeerTable) (s : State) : (s.mapPeers g).drive = s.drive := rfl
@[simp] theorem State.mapPeers_cond (g : PeerTable → PeerTable) (s : State) : (s.mapPeers g).cond = s.cond := rfl
@[simp] theorem State.mapPeers_pending (g : PeerTable → PeerTable) (s : State) : (s.mapPeers g).pending = s.pending := rfl
@[simp] theorem State.mapPeers_choices (g : PeerTable → PeerTable) (s : State) : (s.mapPeers g).choices = s.choices := rfl

/-! ### `State.mapAllowance` -/

@[simp] theorem State.mapAllowance_params (g : AllowanceStore → AllowanceStore) (s : State) : (s.mapAllowance g).params = s.params := rfl
@[simp] theorem State.mapAllowance_node (g : AllowanceStore → AllowanceStore) (s : State) : (s.mapAllowance g).node = s.node := rfl
@[simp] theorem State.mapAllowance_line (g : AllowanceStore → AllowanceStore) (s : State) : (s.mapAllowance g).line = s.line := rfl
@[simp] theorem State.mapAllowance_peers (g : AllowanceStore → AllowanceStore) (s : State) : (s.mapAllowance g).peers = s.peers := rfl
@[simp] theorem State.mapAllowance_allowance (g : AllowanceStore → AllowanceStore) (s : State) : (s.mapAllowance g).allowance = g s.allowance := rfl
@[simp] theorem State.mapAllowance_share (g : AllowanceStore → AllowanceStore) (s : State) : (s.mapAllowance g).share = s.share := rfl
@[simp] theorem State.mapAllowance_air (g : AllowanceStore → AllowanceStore) (s : State) : (s.mapAllowance g).air = s.air := rfl
@[simp] theorem State.mapAllowance_input (g : AllowanceStore → AllowanceStore) (s : State) : (s.mapAllowance g).input = s.input := rfl
@[simp] theorem State.mapAllowance_drive (g : AllowanceStore → AllowanceStore) (s : State) : (s.mapAllowance g).drive = s.drive := rfl
@[simp] theorem State.mapAllowance_cond (g : AllowanceStore → AllowanceStore) (s : State) : (s.mapAllowance g).cond = s.cond := rfl
@[simp] theorem State.mapAllowance_pending (g : AllowanceStore → AllowanceStore) (s : State) : (s.mapAllowance g).pending = s.pending := rfl
@[simp] theorem State.mapAllowance_choices (g : AllowanceStore → AllowanceStore) (s : State) : (s.mapAllowance g).choices = s.choices := rfl

/-! ### `State.mapShare` -/

@[simp] theorem State.mapShare_params (g : ShareUnit → ShareUnit) (s : State) : (s.mapShare g).params = s.params := rfl
@[simp] theorem State.mapShare_node (g : ShareUnit → ShareUnit) (s : State) : (s.mapShare g).node = s.node := rfl
@[simp] theorem State.mapShare_line (g : ShareUnit → ShareUnit) (s : State) : (s.mapShare g).line = s.line := rfl
@[simp] theorem State.mapShare_peers (g : ShareUnit → ShareUnit) (s : State) : (s.mapShare g).peers = s.peers := rfl
@[simp] theorem State.mapShare_allowance (g : ShareUnit → ShareUnit) (s : State) : (s.mapShare g).allowance = s.allowance := rfl
@[simp] theorem State.mapShare_share (g : ShareUnit → ShareUnit) (s : State) : (s.mapShare g).share = g s.share := rfl
@[simp] theorem State.mapShare_air (g : ShareUnit → ShareUnit) (s : State) : (s.mapShare g).air = s.air := rfl
@[simp] theorem State.mapShare_input (g : ShareUnit → ShareUnit) (s : State) : (s.mapShare g).input = s.input := rfl
@[simp] theorem State.mapShare_drive (g : ShareUnit → ShareUnit) (s : State) : (s.mapShare g).drive = s.drive := rfl
@[simp] theorem State.mapShare_cond (g : ShareUnit → ShareUnit) (s : State) : (s.mapShare g).cond = s.cond := rfl
@[simp] theorem State.mapShare_pending (g : ShareUnit → ShareUnit) (s : State) : (s.mapShare g).pending = s.pending := rfl
@[simp] theorem State.mapShare_choices (g : ShareUnit → ShareUnit) (s : State) : (s.mapShare g).choices = s.choices := rfl

/-! ### `State.mapAir` -/

@[simp] theorem State.mapAir_params (g : AirUnit → AirUnit) (s : State) : (s.mapAir g).params = s.params := rfl
@[simp] theorem State.mapAir_node (g : AirUnit → AirUnit) (s : State) : (s.mapAir g).node = s.node := rfl
@[simp] theorem State.mapAir_line (g : AirUnit → AirUnit) (s : State) : (s.mapAir g).line = s.line := rfl
@[simp] theorem State.mapAir_peers (g : AirUnit → AirUnit) (s : State) : (s.mapAir g).peers = s.peers := rfl
@[simp] theorem State.mapAir_allowance (g : AirUnit → AirUnit) (s : State) : (s.mapAir g).allowance = s.allowance := rfl
@[simp] theorem State.mapAir_share (g : AirUnit → AirUnit) (s : State) : (s.mapAir g).share = s.share := rfl
@[simp] theorem State.mapAir_air (g : AirUnit → AirUnit) (s : State) : (s.mapAir g).air = g s.air := rfl
@[simp] theorem State.mapAir_input (g : AirUnit → AirUnit) (s : State) : (s.mapAir g).input = s.input := rfl
@[simp] theorem State.mapAir_drive (g : AirUnit → AirUnit) (s : State) : (s.mapAir g).drive = s.drive := rfl
@[simp] theorem State.mapAir_cond (g : AirUnit → AirUnit) (s : State) : (s.mapAir g).cond = s.cond := rfl
@[simp] theorem State.mapAir_pending (g : AirUnit → AirUnit) (s : State) : (s.mapAir g).pending = s.pending := rfl
@[simp] theorem State.mapAir_choices (g : AirUnit → AirUnit) (s : State) : (s.mapAir g).choices = s.choices := rfl

/-! ### `State.mapInput` -/

@[simp] theorem State.mapInput_params (g : InputUnit → InputUnit) (s : State) : (s.mapInput g).params = s.params := rfl
@[simp] theorem State.mapInput_node (g : InputUnit → InputUnit) (s : State) : (s.mapInput g).node = s.node := rfl
@[simp] theorem State.mapInput_line (g : InputUnit → InputUnit) (s : State) : (s.mapInput g).line = s.line := rfl
@[simp] theorem State.mapInput_peers (g : InputUnit → InputUnit) (s : State) : (s.mapInput g).peers = s.peers := rfl
@[simp] theorem State.mapInput_allowance (g : InputUnit → InputUnit) (s : State) : (s.mapInput g).allowance = s.allowance := rfl
@[simp] theorem State.mapInput_share (g : InputUnit → InputUnit) (s : State) : (s.mapInput g).share = s.share := rfl
@[simp] theorem State.mapInput_air (g : InputUnit → InputUnit) (s : State) : (s.mapInput g).air = s.air := rfl
@[simp] theorem State.mapInput_input (g : InputUnit → InputUnit) (s : State) : (s.mapInput g).input = g s.input := rfl
@[simp] theorem State.mapInput_drive (g : InputUnit → InputUnit) (s : State) : (s.mapInput g).drive = s.drive := rfl
@[simp] theorem State.mapInput_cond (g : InputUnit → InputUnit) (s : State) : (s.mapInput g).cond = s.cond := rfl
@[simp] theorem State.mapInput_pending (g : InputUnit → InputUnit) (s : State) : (s.mapInput g).pending = s.pending := rfl
@[simp] theorem State.mapInput_choices (g : InputUnit → InputUnit) (s : State) : (s.mapInput g).choices = s.choices := rfl

/-! ### `State.mapDrive` -/

@[simp] theorem State.mapDrive_params (g : DriveUnit → DriveUnit) (s : State) : (s.mapDrive g).params = s.params := rfl
@[simp] theorem State.mapDrive_node (g : DriveUnit → DriveUnit) (s : State) : (s.mapDrive g).node = s.node := rfl
@[simp] theorem State.mapDrive_line (g : DriveUnit → DriveUnit) (s : State) : (s.mapDrive g).line = s.line := rfl
@[simp] theorem State.mapDrive_peers (g : DriveUnit → DriveUnit) (s : State) : (s.mapDrive g).peers = s.peers := rfl
@[simp] theorem State.mapDrive_allowance (g : DriveUnit → DriveUnit) (s : State) : (s.mapDrive g).allowance = s.allowance := rfl
@[simp] theorem State.mapDrive_share (g : DriveUnit → DriveUnit) (s : State) : (s.mapDrive g).share = s.share := rfl
@[simp] theorem State.mapDrive_air (g : DriveUnit → DriveUnit) (s : State) : (s.mapDrive g).air = s.air := rfl
@[simp] theorem State.mapDrive_input (g : DriveUnit → DriveUnit) (s : State) : (s.mapDrive g).input = s.input := rfl
@[simp] theorem State.mapDrive_drive (g : DriveUnit → DriveUnit) (s : State) : (s.mapDrive g).drive = g s.drive := rfl
@[simp] theorem State.mapDrive_cond (g : DriveUnit → DriveUnit) (s : State) : (s.mapDrive g).cond = s.cond := rfl
@[simp] theorem State.mapDrive_pending (g : DriveUnit → DriveUnit) (s : State) : (s.mapDrive g).pending = s.pending := rfl
@[simp] theorem State.mapDrive_choices (g : DriveUnit → DriveUnit) (s : State) : (s.mapDrive g).choices = s.choices := rfl

/-! ### `State.mapCond` -/

@[simp] theorem State.mapCond_params (g : ConditionUnit → ConditionUnit) (s : State) : (s.mapCond g).params = s.params := rfl
@[simp] theorem State.mapCond_node (g : ConditionUnit → ConditionUnit) (s : State) : (s.mapCond g).node = s.node := rfl
@[simp] theorem State.mapCond_line (g : ConditionUnit → ConditionUnit) (s : State) : (s.mapCond g).line = s.line := rfl
@[simp] theorem State.mapCond_peers (g : ConditionUnit → ConditionUnit) (s : State) : (s.mapCond g).peers = s.peers := rfl
@[simp] theorem State.mapCond_allowance (g : ConditionUnit → ConditionUnit) (s : State) : (s.mapCond g).allowance = s.allowance := rfl
@[simp] theorem State.mapCond_share (g : ConditionUnit → ConditionUnit) (s : State) : (s.mapCond g).share = s.share := rfl
@[simp] theorem State.mapCond_air (g : ConditionUnit → ConditionUnit) (s : State) : (s.mapCond g).air = s.air := rfl
@[simp] theorem State.mapCond_input (g : ConditionUnit → ConditionUnit) (s : State) : (s.mapCond g).input = s.input := rfl
@[simp] theorem State.mapCond_drive (g : ConditionUnit → ConditionUnit) (s : State) : (s.mapCond g).drive = s.drive := rfl
@[simp] theorem State.mapCond_cond (g : ConditionUnit → ConditionUnit) (s : State) : (s.mapCond g).cond = g s.cond := rfl
@[simp] theorem State.mapCond_pending (g : ConditionUnit → ConditionUnit) (s : State) : (s.mapCond g).pending = s.pending := rfl
@[simp] theorem State.mapCond_choices (g : ConditionUnit → ConditionUnit) (s : State) : (s.mapCond g).choices = s.choices := rfl

/-! ### `State.when` -/

@[simp] theorem State.when_true (f : State → State) (s : State) : s.when true f = f s := rfl
@[simp] theorem State.when_false (f : State → State) (s : State) : s.when false f = s := rfl

/-! ### `State.accept` -/

@[simp] theorem State.accept_params (l : SlowLine) (b : Bool) (s : State) : (s.accept l b).params = s.params := rfl
@[simp] theorem State.accept_node (l : SlowLine) (b : Bool) (s : State) : (s.accept l b).node = s.node := rfl
@[simp] theorem State.accept_line (l : SlowLine) (b : Bool) (s : State) : (s.accept l b).line = s.line := rfl
@[simp] theorem State.accept_peers (l : SlowLine) (b : Bool) (s : State) : (s.accept l b).peers = s.peers := rfl
@[simp] theorem State.accept_allowance (l : SlowLine) (b : Bool) (s : State) : (s.accept l b).allowance = s.allowance := rfl
@[simp] theorem State.accept_share (l : SlowLine) (b : Bool) (s : State) : (s.accept l b).share = s.share := rfl
@[simp] theorem State.accept_air (l : SlowLine) (b : Bool) (s : State) : (s.accept l b).air = s.air := rfl
@[simp] theorem State.accept_drive (l : SlowLine) (b : Bool) (s : State) : (s.accept l b).drive = s.drive := rfl
@[simp] theorem State.accept_cond (l : SlowLine) (b : Bool) (s : State) : (s.accept l b).cond = s.cond := rfl
@[simp] theorem State.accept_pending (l : SlowLine) (b : Bool) (s : State) : (s.accept l b).pending = s.pending := rfl
@[simp] theorem State.accept_choices (l : SlowLine) (b : Bool) (s : State) : (s.accept l b).choices = s.choices := rfl

/-! ### `State.acceptFast` -/

@[simp] theorem State.acceptFast_params (x : FastInput) (b : Bool) (s : State) :
    (s.acceptFast x b).params = s.params := rfl
@[simp] theorem State.acceptFast_node (x : FastInput) (b : Bool) (s : State) :
    (s.acceptFast x b).node = s.node := rfl
@[simp] theorem State.acceptFast_line (x : FastInput) (b : Bool) (s : State) :
    (s.acceptFast x b).line = s.line := rfl
@[simp] theorem State.acceptFast_peers (x : FastInput) (b : Bool) (s : State) :
    (s.acceptFast x b).peers = s.peers := rfl
@[simp] theorem State.acceptFast_allowance (x : FastInput) (b : Bool) (s : State) :
    (s.acceptFast x b).allowance = s.allowance := rfl
@[simp] theorem State.acceptFast_share (x : FastInput) (b : Bool) (s : State) :
    (s.acceptFast x b).share = s.share := rfl
@[simp] theorem State.acceptFast_air (x : FastInput) (b : Bool) (s : State) :
    (s.acceptFast x b).air = s.air := rfl
@[simp] theorem State.acceptFast_drive (x : FastInput) (b : Bool) (s : State) :
    (s.acceptFast x b).drive = s.drive := rfl
@[simp] theorem State.acceptFast_cond (x : FastInput) (b : Bool) (s : State) :
    (s.acceptFast x b).cond = s.cond := rfl
@[simp] theorem State.acceptFast_pending (x : FastInput) (b : Bool) (s : State) :
    (s.acceptFast x b).pending = s.pending := rfl
@[simp] theorem State.acceptFast_choices (x : FastInput) (b : Bool) (s : State) :
    (s.acceptFast x b).choices = s.choices := rfl

/-! ### Timers -/

@[simp] theorem Timer.isRunning_start : Timer.start.isRunning = true := rfl
@[simp] theorem Timer.isRunning_stopped : Timer.stopped.isRunning = false := rfl
@[simp] theorem Timer.isRunning_expired : Timer.expired.isRunning = false := rfl
@[simp] theorem Timer.due_running (limit n : Nat) : (Timer.running n).due limit = decide (limit ≤ n) := rfl
@[simp] theorem Timer.due_stopped (limit : Nat) : Timer.stopped.due limit = false := rfl
@[simp] theorem Timer.due_expired (limit : Nat) : Timer.expired.due limit = false := rfl
@[simp] theorem Timer.runsBelow_stopped (limit : Nat) : Timer.stopped.runsBelow limit = false := rfl
@[simp] theorem Timer.runsBelow_expired (limit : Nat) : Timer.expired.runsBelow limit = false := rfl
@[simp] theorem Timer.runsBelow_running (limit n : Nat) : (Timer.running n).runsBelow limit = decide (n < limit) := by
  rw [Timer.runsBelow, Timer.due_running, ← decide_not]
  simp [Timer.isRunning]
@[simp] theorem Timer.isRunning_running (n : Nat) : (Timer.running n).isRunning = true := rfl

/-! ### Selectors -/

@[simp] theorem DriveUnit.channel_setChannel (d : DriveUnit) (x : OutputChannel) (c : Channel) :
    (d.setChannel x c).channel c = x := by cases c <;> rfl

theorem DriveUnit.channel_setChannel_of_ne (d : DriveUnit) (x : OutputChannel) {c e : Channel} (h : e ≠ c) :
    (d.setChannel x c).channel e = d.channel e := by
  cases c <;> cases e <;> first | rfl | exact absurd rfl h

@[simp] theorem DriveUnit.actuator_setActuator (d : DriveUnit) (x : Actuator) (c : Damper) :
    (d.setActuator x c).actuator c = x := by cases c <;> rfl

theorem DriveUnit.actuator_setActuator_of_ne (d : DriveUnit) (x : Actuator) {c e : Damper} (h : e ≠ c) :
    (d.setActuator x c).actuator e = d.actuator e := by
  cases c <;> cases e <;> first | rfl | exact absurd rfl h

@[simp] theorem SensorTable.get_set (t : SensorTable) (e : SensorEntry) (x : Sensor) : (t.set e x).get x = e := by
  cases x <;> rfl

theorem SensorTable.get_set_of_ne (t : SensorTable) (e : SensorEntry) {x y : Sensor} (h : y ≠ x) :
    (t.set e x).get y = t.get y := by
  cases x <;> cases y <;> first | rfl | exact absurd rfl h

@[simp] theorem SlowSamplers.get_set (t : SlowSamplers) (e : Sampler) (x : SlowLine) : (t.set e x).get x = e := by
  cases x <;> rfl

theorem SlowSamplers.get_set_of_ne (t : SlowSamplers) (e : Sampler) {x y : SlowLine} (h : y ≠ x) :
    (t.set e x).get y = t.get y := by
  cases x <;> cases y <;> first | rfl | exact absurd rfl h

@[simp] theorem FastSamplers.get_set (t : FastSamplers) (e : Sampler) (x : FastInput) : (t.set e x).get x = e := by
  cases x <;> rfl

theorem FastSamplers.get_set_of_ne (t : FastSamplers) (e : Sampler) {x y : FastInput} (h : y ≠ x) :
    (t.set e x).get y = t.get y := by
  cases x <;> cases y <;> first | rfl | exact absurd rfl h

@[simp] theorem Pins.fast_setFast (p : Pins) (b : Bool) (x : FastInput) : (p.setFast b x).fast x = b := by cases x <;> rfl

theorem Pins.fast_setFast_of_ne (p : Pins) (b : Bool) {x y : FastInput} (h : y ≠ x) : (p.setFast b x).fast y = p.fast y := by
  cases x <;> cases y <;> first | rfl | exact absurd rfl h

@[simp] theorem Pins.slow_setSlow (p : Pins) (e : SlowPin) (l : SlowLine) : (p.setSlow e l).slow l = e := by cases l <;> rfl

theorem Pins.slow_setSlow_of_ne (p : Pins) (e : SlowPin) {l m : SlowLine} (h : m ≠ l) : (p.setSlow e l).slow m = p.slow m := by
  cases l <;> cases m <;> first | rfl | exact absurd rfl h

/-! ### What an accepted level leaves -/

/-- A pin made to show a level stands at it. -/
@[simp] theorem SlowPin.level_showing (u b : Bool) (p : SlowPin) : (p.showing u b).level u = b := by
  unfold SlowPin.showing; split
  · assumption
  · rfl

/-- An accepted level is the one the other blocks read, and the next samples of the pin agree with it. -/
theorem State.accept_spec (l : SlowLine) (b : Bool) (s : State) :
    (s.accept l b).lineLevel l = b ∧ (s.accept l b).input.slow.get l = ⟨some b, some b⟩ ∧
    (s.accept l b).slowPinLevel l = b := by
  simp [State.lineLevel, State.accept, State.slowPinLevel]

/-- An accepted level leaves every other line as it reads. -/
theorem State.accept_lineLevel_of_ne (b : Bool) (s : State) {l m : SlowLine} (h : m ≠ l) :
    (s.accept l b).lineLevel m = s.lineLevel m := by
  simp [State.lineLevel, State.accept, SlowSamplers.get_set_of_ne _ _ h]

/-- What a commanded edge can do: nothing, the silent first acceptance, or the edge's effect on the state with the level
accepted. -/
theorem State.onEdge_cases (x : FastInput) (rising : Bool) (f : State → State) (s : State) :
    (s.acceptsEdge x rising = true ∧ s.onEdge x rising f = f (s.acceptFast x rising)) ∨
    ((s.input.fast.get x).accepted = none ∧ s.onEdge x rising f = s.acceptFast x rising) ∨
    (s.acceptsEdge x rising = false ∧ (s.input.fast.get x).accepted ≠ none ∧ s.onEdge x rising f = s) := by
  unfold State.onEdge
  split
  · exact .inl ⟨‹_›, rfl⟩
  · split
    · exact .inr (.inl ⟨‹_›, rfl⟩)
    · exact .inr (.inr ⟨by simpa using ‹¬ s.acceptsEdge x rising = true›, ‹_›, rfl⟩)

end Sys2Proof.Machine
end

