-- ==== Sys2Proof/Laws/Conditions.lean ====
section
/-! SUPPORT. The sets over the 24 conditions, and what making a condition active or inactive leaves alone. -/

namespace Sys2Proof.Machine

/-! ### Sets of conditions -/

theorem Condition.bit_lt (c : Condition) : c.bit < 24 := by cases c <;> decide

theorem Condition.bit_inj {c d : Condition} (h : c.bit = d.bit) : c = d := by
  cases c <;> cases d <;> first | rfl | exact absurd h (by decide)

@[simp] theorem inSet_zero (c : Condition) : inSet 0 c = false := by simp [inSet]

theorem inSet_single (c d : Condition) : inSet c.single d = decide (d = c) := by
  cases c <;> cases d <;> rfl

/-- A condition joins a set, and no other does. -/
theorem inSet_or_single (x : BitVec 24) (c d : Condition) : inSet (x ||| c.single) d = (inSet x d || decide (d = c)) := by
  rw [← inSet_single c d]; simp [inSet]

/-- A condition leaves a set, and no other does. -/
theorem inSet_and_not_single (x : BitVec 24) (c d : Condition) :
    inSet (x &&& ~~~c.single) d = (inSet x d && !decide (d = c)) := by
  rw [← inSet_single c d]; simp [inSet, d.bit_lt]

/-! ### Active and inactive -/

/-- The mark of a changed active count touches the Line Interface alone. -/
@[simp] theorem State.countChanged_frame (s : State) :
    s.countChanged.params = s.params ∧ s.countChanged.node = s.node ∧ s.countChanged.peers = s.peers ∧
    s.countChanged.allowance = s.allowance ∧ s.countChanged.share = s.share ∧ s.countChanged.air = s.air ∧
    s.countChanged.input = s.input ∧ s.countChanged.drive = s.drive ∧ s.countChanged.cond = s.cond ∧
    s.countChanged.pending = s.pending ∧ s.countChanged.choices = s.choices := by
  unfold State.countChanged; split <;> simp

/-- The mark is all that a changed active count does to the Line Interface. -/
theorem State.countChanged_line (s : State) :
    s.countChanged.line = { s.line with bChangeOwed := s.countChanged.line.bChangeOwed } := by
  unfold State.countChanged; split <;> simp

/-- An owner making a condition active touches the Condition Unit and the Line Interface's mark alone. -/
@[simp] theorem State.raise_frame (c : Condition) (s : State) :
    (s.raise c).params = s.params ∧ (s.raise c).node = s.node ∧ (s.raise c).peers = s.peers ∧
    (s.raise c).allowance = s.allowance ∧ (s.raise c).share = s.share ∧ (s.raise c).air = s.air ∧
    (s.raise c).input = s.input ∧ (s.raise c).drive = s.drive ∧ (s.raise c).pending = s.pending ∧
    (s.raise c).choices = s.choices := by
  unfold State.raise; split <;> simp

theorem State.raise_line (c : Condition) (s : State) :
    (s.raise c).line = { s.line with bChangeOwed := (s.raise c).line.bChangeOwed } := by
  unfold State.raise; split
  · rfl
  · exact State.countChanged_line (s.mapCond _)

theorem State.raise_cond (c : Condition) (s : State) :
    (s.raise c).cond = if inSet s.cond.active c then s.cond else s.cond.arise c := by
  unfold State.raise; split <;> simp

/-- An owner making a condition inactive touches the Condition Unit and the Line Interface's mark alone. -/
@[simp] theorem State.lower_frame (c : Condition) (s : State) :
    (s.lower c).params = s.params ∧ (s.lower c).node = s.node ∧ (s.lower c).peers = s.peers ∧
    (s.lower c).allowance = s.allowance ∧ (s.lower c).share = s.share ∧ (s.lower c).air = s.air ∧
    (s.lower c).input = s.input ∧ (s.lower c).drive = s.drive ∧ (s.lower c).pending = s.pending ∧
    (s.lower c).choices = s.choices := by
  unfold State.lower; split <;> simp

theorem State.lower_line (c : Condition) (s : State) :
    (s.lower c).line = { s.line with bChangeOwed := (s.lower c).line.bChangeOwed } := by
  unfold State.lower; split
  · exact State.countChanged_line (s.mapCond _)
  · rfl

theorem State.lower_cond (c : Condition) (s : State) :
    (s.lower c).cond =
      if inSet s.cond.active c then { s.cond with active := s.cond.active &&& ~~~c.single } else s.cond := by
  unfold State.lower; split <;> simp

@[simp] theorem State.setCond_frame (b : Bool) (c : Condition) (s : State) :
    (s.setCond b c).params = s.params ∧ (s.setCond b c).node = s.node ∧ (s.setCond b c).peers = s.peers ∧
    (s.setCond b c).allowance = s.allowance ∧ (s.setCond b c).share = s.share ∧ (s.setCond b c).air = s.air ∧
    (s.setCond b c).input = s.input ∧ (s.setCond b c).drive = s.drive ∧ (s.setCond b c).pending = s.pending ∧
    (s.setCond b c).choices = s.choices := by
  unfold State.setCond; split <;> simp

theorem State.setCond_line (b : Bool) (c : Condition) (s : State) :
    (s.setCond b c).line = { s.line with bChangeOwed := (s.setCond b c).line.bChangeOwed } := by
  unfold State.setCond; split
  · exact State.raise_line c s
  · exact State.lower_line c s

end Sys2Proof.Machine
end

