-- ==== Sys2Proof/Laws/Frames.lean ====
section
/-! SUPPORT. For each shared operation, which blocks it leaves alone, said once; so that a later proof cites the frame and does
not unfold the operation. -/

namespace Sys2Proof.Machine

/-! ### The slots -/

/-- Handing a Demand touches the Line Interface alone. -/
@[simp] theorem State.handDemand_frame (s : State) :
    s.handDemand.params = s.params ∧ s.handDemand.node = s.node ∧ s.handDemand.peers = s.peers ∧
    s.handDemand.allowance = s.allowance ∧ s.handDemand.share = s.share ∧ s.handDemand.air = s.air ∧
    s.handDemand.input = s.input ∧ s.handDemand.drive = s.drive ∧ s.handDemand.cond = s.cond ∧
    s.handDemand.pending = s.pending ∧ s.handDemand.choices = s.choices := by
  simp [State.handDemand]

/-- Handing a Status A touches the Line Interface alone. -/
@[simp] theorem State.handStatusA_frame (s : State) :
    s.handStatusA.params = s.params ∧ s.handStatusA.node = s.node ∧ s.handStatusA.peers = s.peers ∧
    s.handStatusA.allowance = s.allowance ∧ s.handStatusA.share = s.share ∧ s.handStatusA.air = s.air ∧
    s.handStatusA.input = s.input ∧ s.handStatusA.drive = s.drive ∧ s.handStatusA.cond = s.cond ∧
    s.handStatusA.pending = s.pending ∧ s.handStatusA.choices = s.choices := by
  simp [State.handStatusA]

/-- Handing a Status B touches the Line Interface alone. -/
@[simp] theorem State.handStatusB_frame (s : State) :
    s.handStatusB.params = s.params ∧ s.handStatusB.node = s.node ∧ s.handStatusB.peers = s.peers ∧
    s.handStatusB.allowance = s.allowance ∧ s.handStatusB.share = s.share ∧ s.handStatusB.air = s.air ∧
    s.handStatusB.input = s.input ∧ s.handStatusB.drive = s.drive ∧ s.handStatusB.cond = s.cond ∧
    s.handStatusB.pending = s.pending ∧ s.handStatusB.choices = s.choices := by
  simp [State.handStatusB]

/-- The Demand timing touches the Line Interface alone. -/
@[simp] theorem State.settleDemand_frame (c : Demand) (s : State) :
    (s.settleDemand c).params = s.params ∧ (s.settleDemand c).node = s.node ∧ (s.settleDemand c).peers = s.peers ∧
    (s.settleDemand c).allowance = s.allowance ∧ (s.settleDemand c).share = s.share ∧ (s.settleDemand c).air = s.air ∧
    (s.settleDemand c).input = s.input ∧ (s.settleDemand c).drive = s.drive ∧ (s.settleDemand c).cond = s.cond ∧
    (s.settleDemand c).pending = s.pending ∧ (s.settleDemand c).choices = s.choices := by
  unfold State.settleDemand; (repeat' split) <;> simp

/-- One serving of the Status slot touches the Line Interface alone. -/
@[simp] theorem State.serveStatus_frame (s : State) :
    s.serveStatus.params = s.params ∧ s.serveStatus.node = s.node ∧ s.serveStatus.peers = s.peers ∧
    s.serveStatus.allowance = s.allowance ∧ s.serveStatus.share = s.share ∧ s.serveStatus.air = s.air ∧
    s.serveStatus.input = s.input ∧ s.serveStatus.drive = s.drive ∧ s.serveStatus.cond = s.cond ∧
    s.serveStatus.pending = s.pending ∧ s.serveStatus.choices = s.choices := by
  unfold State.serveStatus; (repeat' split) <;> simp

/-- The Status scheduler touches the Line Interface alone. -/
@[simp] theorem State.settleStatus_frame (s : State) :
    s.settleStatus.params = s.params ∧ s.settleStatus.node = s.node ∧ s.settleStatus.peers = s.peers ∧
    s.settleStatus.allowance = s.allowance ∧ s.settleStatus.share = s.share ∧ s.settleStatus.air = s.air ∧
    s.settleStatus.input = s.input ∧ s.settleStatus.drive = s.drive ∧ s.settleStatus.cond = s.cond ∧
    s.settleStatus.pending = s.pending ∧ s.settleStatus.choices = s.choices := by
  simp [State.settleStatus]

/-- The refreshing of a waiting Status frame touches the Line Interface alone. -/
@[simp] theorem State.refreshStatus_frame (s : State) :
    s.refreshStatus.params = s.params ∧ s.refreshStatus.node = s.node ∧ s.refreshStatus.peers = s.peers ∧
    s.refreshStatus.allowance = s.allowance ∧ s.refreshStatus.share = s.share ∧ s.refreshStatus.air = s.air ∧
    s.refreshStatus.input = s.input ∧ s.refreshStatus.drive = s.drive ∧ s.refreshStatus.cond = s.cond ∧
    s.refreshStatus.pending = s.pending ∧ s.refreshStatus.choices = s.choices := by
  unfold State.refreshStatus; split <;> simp

/-! ### The error window -/

/-- A counted reception touches the Line Interface and the Condition Unit. -/
@[simp] theorem State.countReception_frame (bad : Bool) (s : State) :
    (s.countReception bad).params = s.params ∧ (s.countReception bad).node = s.node ∧
    (s.countReception bad).peers = s.peers ∧ (s.countReception bad).allowance = s.allowance ∧
    (s.countReception bad).share = s.share ∧ (s.countReception bad).air = s.air ∧ (s.countReception bad).input = s.input ∧
    (s.countReception bad).drive = s.drive ∧ (s.countReception bad).pending = s.pending ∧
    (s.countReception bad).choices = s.choices := by
  simp [State.countReception]

/-! ### Channels -/

/-- A trip touches the Drive Unit, its conditions and the short-cycle timers. -/
@[simp] theorem State.tripChannel_frame (c : Channel) (k : TripCause) (s : State) :
    (s.tripChannel c k).params = s.params ∧ (s.tripChannel c k).node = s.node ∧ (s.tripChannel c k).peers = s.peers ∧
    (s.tripChannel c k).allowance = s.allowance ∧ (s.tripChannel c k).share = s.share ∧
    (s.tripChannel c k).input = s.input ∧ (s.tripChannel c k).pending = s.pending ∧
    (s.tripChannel c k).choices = s.choices := by
  unfold State.tripChannel State.when; dsimp only; (repeat' split) <;> simp

/-- The blower taking up a plan touches the Drive Unit and what a trip touches. -/
@[simp] theorem State.blowerTakesPlan_frame (s : State) :
    s.blowerTakesPlan.params = s.params ∧ s.blowerTakesPlan.node = s.node ∧ s.blowerTakesPlan.peers = s.peers ∧
    s.blowerTakesPlan.allowance = s.allowance ∧ s.blowerTakesPlan.share = s.share ∧
    s.blowerTakesPlan.input = s.input ∧ s.blowerTakesPlan.pending = s.pending ∧
    s.blowerTakesPlan.choices = s.choices := by
  unfold State.blowerTakesPlan; (repeat' split) <;> simp

/-- The settling of the stages touches the Drive Unit and what a trip touches. -/
@[simp] theorem State.settleHeater_frame (s : State) :
    s.settleHeater.params = s.params ∧ s.settleHeater.node = s.node ∧ s.settleHeater.peers = s.peers ∧
    s.settleHeater.allowance = s.allowance ∧ s.settleHeater.share = s.share ∧ s.settleHeater.input = s.input ∧
    s.settleHeater.pending = s.pending ∧ s.settleHeater.choices = s.choices := by
  unfold State.settleHeater; dsimp only; (repeat' split) <;> simp

/-- The clutch taking up a plan touches the Drive Unit, the short-cycle timers and what a trip touches. -/
@[simp] theorem State.clutchTakesPlan_frame (s : State) :
    s.clutchTakesPlan.params = s.params ∧ s.clutchTakesPlan.node = s.node ∧ s.clutchTakesPlan.peers = s.peers ∧
    s.clutchTakesPlan.allowance = s.allowance ∧ s.clutchTakesPlan.share = s.share ∧
    s.clutchTakesPlan.input = s.input ∧ s.clutchTakesPlan.pending = s.pending ∧
    s.clutchTakesPlan.choices = s.choices := by
  unfold State.clutchTakesPlan; (repeat' split) <;> simp

/-- The channels taking up a plan touch the Drive Unit, the short-cycle timers and what a trip touches. -/
@[simp] theorem State.channelsTakePlan_frame (s : State) :
    s.channelsTakePlan.params = s.params ∧ s.channelsTakePlan.node = s.node ∧ s.channelsTakePlan.peers = s.peers ∧
    s.channelsTakePlan.allowance = s.allowance ∧ s.channelsTakePlan.share = s.share ∧
    s.channelsTakePlan.input = s.input ∧ s.channelsTakePlan.pending = s.pending ∧
    s.channelsTakePlan.choices = s.choices := by
  simp [State.channelsTakePlan]

/-- One channel taking up a plan, likewise. -/
@[simp] theorem State.channelTakesPlan_frame (c : Channel) (s : State) :
    (State.channelTakesPlan c s).params = s.params ∧ (State.channelTakesPlan c s).node = s.node ∧
    (State.channelTakesPlan c s).peers = s.peers ∧ (State.channelTakesPlan c s).allowance = s.allowance ∧
    (State.channelTakesPlan c s).share = s.share ∧ (State.channelTakesPlan c s).input = s.input ∧
    (State.channelTakesPlan c s).pending = s.pending ∧ (State.channelTakesPlan c s).choices = s.choices := by
  cases c <;> simp [State.channelTakesPlan]

/-- A trip with the interlock after it, likewise. -/
@[simp] theorem State.trip_frame (c : Channel) (k : TripCause) (s : State) :
    (s.trip c k).params = s.params ∧ (s.trip c k).node = s.node ∧ (s.trip c k).peers = s.peers ∧
    (s.trip c k).allowance = s.allowance ∧ (s.trip c k).share = s.share ∧ (s.trip c k).input = s.input ∧
    (s.trip c k).pending = s.pending ∧ (s.trip c k).choices = s.choices := by
  simp [State.trip]

/-- The end of a trip touches its conditions alone. -/
@[simp] theorem State.endTrip_frame (c : Channel) (s : State) :
    (State.endTrip c s).params = s.params ∧ (State.endTrip c s).node = s.node ∧ (State.endTrip c s).peers = s.peers ∧
    (State.endTrip c s).allowance = s.allowance ∧ (State.endTrip c s).share = s.share ∧ (State.endTrip c s).air = s.air ∧
    (State.endTrip c s).input = s.input ∧ (State.endTrip c s).drive = s.drive ∧ (State.endTrip c s).pending = s.pending ∧
    (State.endTrip c s).choices = s.choices := by
  cases c <;> simp [State.endTrip]

/-- A channel back in Off touches what the taking up of a plan touches. -/
@[simp] theorem State.channelEntersOff_frame (c : Channel) (s : State) :
    (s.channelEntersOff c).params = s.params ∧ (s.channelEntersOff c).node = s.node ∧
    (s.channelEntersOff c).peers = s.peers ∧ (s.channelEntersOff c).allowance = s.allowance ∧
    (s.channelEntersOff c).share = s.share ∧ (s.channelEntersOff c).input = s.input ∧
    (s.channelEntersOff c).pending = s.pending ∧ (s.channelEntersOff c).choices = s.choices := by
  unfold State.channelEntersOff State.when; dsimp only; split <;> simp

/-- An unlocking, likewise. -/
@[simp] theorem State.unlockChannel_frame (c : Channel) (s : State) :
    (s.unlockChannel c).params = s.params ∧ (s.unlockChannel c).node = s.node ∧ (s.unlockChannel c).peers = s.peers ∧
    (s.unlockChannel c).allowance = s.allowance ∧ (s.unlockChannel c).share = s.share ∧
    (s.unlockChannel c).input = s.input ∧ (s.unlockChannel c).pending = s.pending ∧
    (s.unlockChannel c).choices = s.choices := by
  unfold State.unlockChannel; split <;> simp

/-- A trip of the blower or of the heater leaves the Air Unit alone. -/
theorem State.tripChannel_air (c : Channel) (k : TripCause) (s : State) (h : c ≠ .clutch) : (s.tripChannel c k).air = s.air := by
  unfold State.tripChannel State.when; dsimp only
  simp only [h, decide_false, Bool.false_and, Bool.false_eq_true, if_false]
  split <;> simp

@[simp] theorem State.blowerTakesPlan_air (s : State) : s.blowerTakesPlan.air = s.air := by
  unfold State.blowerTakesPlan; (repeat' split) <;> simp [State.tripChannel_air]

@[simp] theorem State.settleHeater_air (s : State) : s.settleHeater.air = s.air := by
  unfold State.settleHeater; dsimp only; (repeat' split) <;> simp [State.tripChannel_air]

/-! ### Actuators, plans and the take -/

/-- An act of an actuator touches the Drive Unit and its stall condition. -/
@[simp] theorem State.applyActuator_frame (x : Damper) (r : ActuatorStep) (s : State) :
    (s.applyActuator x r).params = s.params ∧ (s.applyActuator x r).node = s.node ∧ (s.applyActuator x r).peers = s.peers ∧
    (s.applyActuator x r).allowance = s.allowance ∧ (s.applyActuator x r).share = s.share ∧
    (s.applyActuator x r).air = s.air ∧ (s.applyActuator x r).input = s.input ∧ (s.applyActuator x r).pending = s.pending ∧
    (s.applyActuator x r).choices = s.choices := by
  unfold State.applyActuator; dsimp only; split <;> simp

/-- An act of an actuator changes that actuator alone in the Drive Unit. -/
@[simp] theorem State.applyActuator_drive (x : Damper) (r : ActuatorStep) (s : State) :
    (s.applyActuator x r).drive = s.drive.setActuator r.act x := by
  unfold State.applyActuator; dsimp only; split <;> simp

/-- A handed target touches what an act of an actuator touches. -/
@[simp] theorem State.handTarget_frame (x : Damper) (v : Nat) (s : State) :
    (s.handTarget x v).params = s.params ∧ (s.handTarget x v).node = s.node ∧ (s.handTarget x v).peers = s.peers ∧
    (s.handTarget x v).allowance = s.allowance ∧ (s.handTarget x v).share = s.share ∧ (s.handTarget x v).air = s.air ∧
    (s.handTarget x v).input = s.input ∧ (s.handTarget x v).pending = s.pending ∧
    (s.handTarget x v).choices = s.choices := by
  simp [State.handTarget]

/-- The dampers-held part of a plan, likewise. -/
@[simp] theorem State.actuatorTakesPlan_frame (x : Damper) (s : State) :
    (s.actuatorTakesPlan x).params = s.params ∧ (s.actuatorTakesPlan x).node = s.node ∧
    (s.actuatorTakesPlan x).peers = s.peers ∧ (s.actuatorTakesPlan x).allowance = s.allowance ∧
    (s.actuatorTakesPlan x).share = s.share ∧ (s.actuatorTakesPlan x).air = s.air ∧
    (s.actuatorTakesPlan x).input = s.input ∧ (s.actuatorTakesPlan x).pending = s.pending ∧
    (s.actuatorTakesPlan x).choices = s.choices := by
  simp [State.actuatorTakesPlan]

/-- A handed plan touches the Drive Unit, its conditions and the short-cycle timers. -/
@[simp] theorem State.handPlan_frame (q : Plan) (s : State) :
    (s.handPlan q).params = s.params ∧ (s.handPlan q).node = s.node ∧ (s.handPlan q).peers = s.peers ∧
    (s.handPlan q).allowance = s.allowance ∧ (s.handPlan q).share = s.share ∧ (s.handPlan q).input = s.input ∧
    (s.handPlan q).pending = s.pending ∧ (s.handPlan q).choices = s.choices := by
  simp [State.handPlan]

/-- A plan made and handed, likewise. -/
@[simp] theorem State.makePlan_frame (s : State) :
    s.makePlan.params = s.params ∧ s.makePlan.node = s.node ∧ s.makePlan.peers = s.peers ∧
    s.makePlan.allowance = s.allowance ∧ s.makePlan.share = s.share ∧ s.makePlan.input = s.input ∧
    s.makePlan.pending = s.pending ∧ s.makePlan.choices = s.choices := by
  simp [State.makePlan]

/-- A change of the take touches the Share Unit and, at a fall, what a plan touches. -/
@[simp] theorem State.changeTake_frame (f : ShareUnit → ShareUnit) (s : State) :
    (s.changeTake f).params = s.params ∧ (s.changeTake f).node = s.node ∧ (s.changeTake f).peers = s.peers ∧
    (s.changeTake f).allowance = s.allowance ∧ (s.changeTake f).input = s.input ∧ (s.changeTake f).pending = s.pending ∧
    (s.changeTake f).choices = s.choices := by
  unfold State.changeTake; dsimp only; split <;> simp

/-- The take register after a change of the take, whether or not the Air Unit replanned. -/
@[simp] theorem State.changeTake_share (f : ShareUnit → ShareUnit) (s : State) : (s.changeTake f).share = f s.share := by
  unfold State.changeTake; dsimp only; split <;> simp

/-! ### Isolated, Listen-only and well-formed frames -/

/-- The setting of Isolated touches the line, its condition and what a change of the take touches. -/
@[simp] theorem State.setIsolated_frame (s : State) :
    s.setIsolated.params = s.params ∧ s.setIsolated.node = s.node ∧ s.setIsolated.peers = s.peers ∧
    s.setIsolated.allowance = s.allowance ∧ s.setIsolated.input = s.input ∧ s.setIsolated.pending = s.pending ∧
    s.setIsolated.choices = s.choices := by
  simp [State.setIsolated]

/-- The clearing of Isolated, likewise. -/
@[simp] theorem State.clearIsolated_frame (s : State) :
    s.clearIsolated.params = s.params ∧ s.clearIsolated.node = s.node ∧ s.clearIsolated.peers = s.peers ∧
    s.clearIsolated.allowance = s.allowance ∧ s.clearIsolated.input = s.input ∧ s.clearIsolated.pending = s.pending ∧
    s.clearIsolated.choices = s.choices := by
  simp [State.clearIsolated]

/-- A well-formed frame, likewise. -/
@[simp] theorem State.heardWellFormed_frame (s : State) :
    s.heardWellFormed.params = s.params ∧ s.heardWellFormed.node = s.node ∧ s.heardWellFormed.peers = s.peers ∧
    s.heardWellFormed.allowance = s.allowance ∧ s.heardWellFormed.input = s.input ∧
    s.heardWellFormed.pending = s.pending ∧ s.heardWellFormed.choices = s.choices := by
  unfold State.heardWellFormed; dsimp only; split <;> simp

/-- A good frame, likewise. -/
@[simp] theorem State.heardGood_frame (s : State) :
    s.heardGood.params = s.params ∧ s.heardGood.node = s.node ∧ s.heardGood.peers = s.peers ∧
    s.heardGood.allowance = s.allowance ∧ s.heardGood.input = s.input ∧ s.heardGood.pending = s.pending ∧
    s.heardGood.choices = s.choices := by
  simp [State.heardGood]

/-- The entry into Listen-only, likewise. -/
@[simp] theorem State.enterListenOnly_frame (s : State) :
    s.enterListenOnly.params = s.params ∧ s.enterListenOnly.node = s.node ∧ s.enterListenOnly.peers = s.peers ∧
    s.enterListenOnly.allowance = s.allowance ∧ s.enterListenOnly.input = s.input ∧
    s.enterListenOnly.pending = s.pending ∧ s.enterListenOnly.choices = s.choices := by
  simp [State.enterListenOnly]

/-- A frame bearing the own node number, likewise. -/
@[simp] theorem State.heardConflict_frame (s : State) :
    s.heardConflict.params = s.params ∧ s.heardConflict.node = s.node ∧ s.heardConflict.peers = s.peers ∧
    s.heardConflict.allowance = s.allowance ∧ s.heardConflict.input = s.input ∧ s.heardConflict.pending = s.pending ∧
    s.heardConflict.choices = s.choices := by
  unfold State.heardConflict; dsimp only; split <;> simp

/-! ### The Air Unit -/

/-- SmokeHigh touches the Air Unit and its condition. -/
@[simp] theorem State.settleSmoke_frame (s : State) :
    s.settleSmoke.params = s.params ∧ s.settleSmoke.node = s.node ∧ s.settleSmoke.peers = s.peers ∧
    s.settleSmoke.allowance = s.allowance ∧ s.settleSmoke.share = s.share ∧ s.settleSmoke.input = s.input ∧
    s.settleSmoke.drive = s.drive ∧ s.settleSmoke.pending = s.pending ∧ s.settleSmoke.choices = s.choices := by
  simp [State.settleSmoke]

/-- The fresh damper target touches the Air Unit and the fresh actuator. -/
@[simp] theorem State.settleFresh_frame (s : State) :
    s.settleFresh.params = s.params ∧ s.settleFresh.node = s.node ∧ s.settleFresh.peers = s.peers ∧
    s.settleFresh.allowance = s.allowance ∧ s.settleFresh.share = s.share ∧ s.settleFresh.input = s.input ∧
    s.settleFresh.pending = s.pending ∧ s.settleFresh.choices = s.choices := by
  simp [State.settleFresh]

/-- The first stages of an air expiry touch the Air Unit, the fresh actuator and their conditions. -/
@[simp] theorem State.airStages_frame (s : State) :
    s.airStages.params = s.params ∧ s.airStages.node = s.node ∧ s.airStages.peers = s.peers ∧
    s.airStages.allowance = s.allowance ∧ s.airStages.share = s.share ∧ s.airStages.input = s.input ∧
    s.airStages.pending = s.pending ∧ s.airStages.choices = s.choices := by
  simp [State.airStages, State.settleCause, State.runSource, State.settleDefrost, State.composeClass]

/-- The wants of an air expiry touch the Air Unit, the blend actuator and their conditions. -/
@[simp] theorem State.airWants_frame (found : Bool) (s : State) :
    (s.airWants found).params = s.params ∧ (s.airWants found).node = s.node ∧ (s.airWants found).peers = s.peers ∧
    (s.airWants found).allowance = s.allowance ∧ (s.airWants found).share = s.share ∧ (s.airWants found).input = s.input ∧
    (s.airWants found).pending = s.pending ∧ (s.airWants found).choices = s.choices := by
  simp [State.airWants, State.settleDischarge, State.settleBlend, State.settleHeaterWant, State.settleBlower, State.settleCooling,
    State.settleHolder, State.settleClutch, State.settleCoolingUnavailable, State.composeRequest]

/-- The whole work of an air expiry touches the Air Unit, the Drive Unit and their conditions. -/
@[simp] theorem State.airWork_frame (s : State) :
    s.airWork.params = s.params ∧ s.airWork.node = s.node ∧ s.airWork.peers = s.peers ∧
    s.airWork.allowance = s.allowance ∧ s.airWork.share = s.share ∧ s.airWork.input = s.input ∧
    s.airWork.pending = s.pending ∧ s.airWork.choices = s.choices := by
  simp [State.airWork]

/-! ### Node states and the end of an event -/

/-- A leaving of Running touches no peer, no input, no allowance and no configuration. -/
@[simp] theorem State.leaveRunning_frame (d : NodeState) (s : State) :
    (s.leaveRunning d).params = s.params ∧ (s.leaveRunning d).peers = s.peers ∧
    (s.leaveRunning d).allowance = s.allowance ∧ (s.leaveRunning d).input = s.input ∧
    (s.leaveRunning d).pending = s.pending ∧ (s.leaveRunning d).choices = s.choices := by
  simp [State.leaveRunning, State.composeClass]

/-- The end of the sensor faults touches their conditions alone. -/
@[simp] theorem State.lowerSensorFaults_frame (s : State) :
    s.lowerSensorFaults.params = s.params ∧ s.lowerSensorFaults.node = s.node ∧ s.lowerSensorFaults.peers = s.peers ∧
    s.lowerSensorFaults.allowance = s.allowance ∧ s.lowerSensorFaults.share = s.share ∧
    s.lowerSensorFaults.air = s.air ∧ s.lowerSensorFaults.input = s.input ∧ s.lowerSensorFaults.drive = s.drive ∧
    s.lowerSensorFaults.pending = s.pending ∧ s.lowerSensorFaults.choices = s.choices := by
  simp [State.lowerSensorFaults, allSensors]

/-- The conditions that end at Sleep touch the Condition Unit and the Status mark alone. -/
@[simp] theorem State.lowerAtSleep_frame (s : State) :
    s.lowerAtSleep.params = s.params ∧ s.lowerAtSleep.node = s.node ∧ s.lowerAtSleep.peers = s.peers ∧
    s.lowerAtSleep.allowance = s.allowance ∧ s.lowerAtSleep.share = s.share ∧ s.lowerAtSleep.air = s.air ∧
    s.lowerAtSleep.input = s.input ∧ s.lowerAtSleep.drive = s.drive ∧ s.lowerAtSleep.pending = s.pending ∧
    s.lowerAtSleep.choices = s.choices := by
  unfold State.lowerAtSleep State.when; dsimp only; split <;> simp

/-- An entry into Sleep keeps the configuration and the take register. -/
@[simp] theorem State.enterSleep_frame (s : State) :
    s.enterSleep.params = s.params ∧ s.enterSleep.share = s.share ∧ s.enterSleep.pending = s.pending ∧
    s.enterSleep.choices = s.choices := by
  simp [State.enterSleep]

/-- The end of the wait of Parking, likewise. -/
@[simp] theorem State.beginLeaving_frame (s : State) :
    s.beginLeaving.params = s.params ∧ s.beginLeaving.share = s.share ∧ s.beginLeaving.pending = s.pending ∧
    s.beginLeaving.choices = s.choices := by
  unfold State.beginLeaving; dsimp only; split <;> simp

/-- The test of Parking, likewise. -/
@[simp] theorem State.settleParking_frame (b : State) (s : State) :
    (s.settleParking b).params = s.params ∧ (s.settleParking b).share = s.share ∧ (s.settleParking b).pending = s.pending ∧
    (s.settleParking b).choices = s.choices := by
  unfold State.settleParking; split <;> simp

/-- The end of every event keeps the configuration and the take register. -/
@[simp] theorem State.finish_frame (b : State) (s : State) :
    (s.finish b).params = s.params ∧ (s.finish b).share = s.share ∧ (s.finish b).pending = s.pending ∧
    (s.finish b).choices = s.choices := by
  simp [State.finish]

/-- Outside Parking, and in its leaving phase, the test of Parking does nothing. -/
theorem State.settleParking_of_not_waiting (s b : State) (h : s.node.state ≠ .parking ∨ s.node.leaving = true) :
    s.settleParking b = s := by
  rcases h with h | h <;> simp [State.settleParking, h]

/-- What a level commanded on a slow line can do: its event, the silent first acceptance, or nothing. -/
theorem State.onSlowEvent_cases (l : SlowLine) (b : Bool) (f : State → State) (s : State) :
    (s.accepts l b = true ∧ s.onSlowEvent l b f = (f (s.accept l b)).finish s) ∨
    ((s.input.slow.get l).accepted = none ∧ s.onSlowEvent l b f = s.accept l b) ∨
    ((s.input.slow.get l).accepted = some b ∧ s.onSlowEvent l b f = s) := by
  unfold State.onSlowEvent State.acceptSilently State.accepts
  cases h : (s.input.slow.get l).accepted with
  | none => simp
  | some a => cases a <;> cases b <;> simp

end Sys2Proof.Machine
end

