-- ==== Sys2Proof/Laws/Inputs.lean ====
section
/-! SUPPORT. What the edges, the timeout and the passing of time make of a sample in progress (R103 to R105, R107): each keeps it
paced, so that no interval of 20 ms or more is ever measured. -/

namespace Sys2Proof.Machine

/-! ### The entry an edge finds -/

theorem SensorEntry.inTime_of_due {e : SensorEntry} (h : e.edgeTimeout.due edgeTimeoutLimit = true) : e.inTime = e.timedOut := by
  simp [SensorEntry.inTime, h]

theorem SensorEntry.inTime_of_not_due {e : SensorEntry} (h : e.edgeTimeout.due edgeTimeoutLimit = false) : e.inTime = e := by
  simp [SensorEntry.inTime, h]

/-- An edge finds the entry as it stands or with its timeout expired, and either way the window and the value are those of the
entry. -/
theorem SensorEntry.inTime_spec (e : SensorEntry) :
    e.inTime = { e with
      sample := if e.edgeTimeout.due edgeTimeoutLimit then .none else e.sample, edgeTimeout := e.inTime.edgeTimeout } := by
  unfold SensorEntry.inTime; split <;> rfl

@[simp] theorem SensorEntry.inTime_sum (e : SensorEntry) : e.inTime.sum = e.sum := by rw [e.inTime_spec]
@[simp] theorem SensorEntry.inTime_count (e : SensorEntry) : e.inTime.count = e.count := by rw [e.inTime_spec]
@[simp] theorem SensorEntry.inTime_value (e : SensorEntry) : e.inTime.value = e.value := by rw [e.inTime_spec]
@[simp] theorem SensorEntry.inTime_missed (e : SensorEntry) : e.inTime.missed = e.missed := by rw [e.inTime_spec]
@[simp] theorem SensorEntry.inTime_fault (e : SensorEntry) : e.inTime.fault = e.fault := by rw [e.inTime_spec]

/-! ### Joining a window leaves the sample alone -/

@[simp] theorem SensorEntry.take_sample (open_ : Bool) (v : Int) (e : SensorEntry) : (e.take open_ v).sample = e.sample := by
  unfold SensorEntry.take; split <;> rfl

@[simp] theorem SensorEntry.take_edgeTimeout (open_ : Bool) (v : Int) (e : SensorEntry) :
    (e.take open_ v).edgeTimeout = e.edgeTimeout := by
  unfold SensorEntry.take; split <;> rfl

/-! ### Samples stay paced -/

/-- Whether a sample is paced rests on the sample and the edge timeout alone. -/
theorem SensorEntry.paced_congr {e f : SensorEntry} (hs : f.sample = e.sample) (ht : f.edgeTimeout = e.edgeTimeout)
    (now : BitVec 16) (level : Option Bool) : f.paced now level = e.paced now level := by
  simp [SensorEntry.paced, SensorEntry.timedSince, hs, ht]

/-- An entry without a sample in progress is paced. -/
theorem SensorEntry.paced_of_none {e : SensorEntry} (h : e.sample = .none) (now : BitVec 16) (level : Option Bool) :
    e.paced now level = true := by
  simp [SensorEntry.paced, h]

/-- What it is for the timeout to have run since an edge. -/
theorem SensorEntry.timedSince_iff {e : SensorEntry} {now edge : BitVec 16} :
    e.timedSince now edge = true ↔
      ∃ us, e.edgeTimeout = .running us ∧ us ≤ edgeTimeoutLimit ∧ captureDiff now edge = us := by
  unfold SensorEntry.timedSince
  split
  next us hr =>
    rw [Bool.and_eq_true, decide_eq_true_eq, decide_eq_true_eq, hr]
    exact ⟨fun h => ⟨us, rfl, h⟩, fun ⟨_, hv, h⟩ => by cases hv; exact h⟩
  next hr => simp [hr]
  next hr => simp [hr]

/-- An edge has just started the timeout. -/
theorem SensorEntry.timedSince_start {e : SensorEntry} (h : e.edgeTimeout = Timer.start) (now : BitVec 16) :
    e.timedSince now now = true :=
  timedSince_iff.2 ⟨0, h, Nat.zero_le _, by simp [captureDiff]⟩

/-- While the timeout is not due, the interval since the edge that started it is below the limit. -/
theorem SensorEntry.timedSince_below {e : SensorEntry} {now edge : BitVec 16} (h : e.timedSince now edge = true)
    (d : e.edgeTimeout.due edgeTimeoutLimit = false) : captureDiff now edge < edgeTimeoutLimit := by
  obtain ⟨us, hr, -, hd⟩ := timedSince_iff.1 h
  rw [hr, Timer.due_running, decide_eq_false_iff_not, Nat.not_le] at d
  exact hd ▸ d

/-- The difference of two capture values grows with the capture timer, short of a turn. -/
theorem captureDiff_succ {now edge : BitVec 16} (h : captureDiff now edge < edgeTimeoutLimit) :
    captureDiff (now + 1) edge = captureDiff now edge + 1 := by
  unfold captureDiff edgeTimeoutLimit at *
  bv_omega

/-- A microsecond takes the capture timer and the timeout on together. -/
theorem SensorEntry.timedSince_tick {e : SensorEntry} {now edge : BitVec 16} (h : e.timedSince now edge = true)
    (d : e.edgeTimeout.due edgeTimeoutLimit = false) : e.tick.timedSince (now + 1) edge = true := by
  have below := timedSince_below h d
  obtain ⟨us, hr, -, rfl⟩ := timedSince_iff.1 h
  exact timedSince_iff.2 ⟨_, by simp [SensorEntry.tick, hr, Timer.tick], below, captureDiff_succ below⟩

/-- Time keeps a sample paced while its timeout is not due (R103, R104). -/
theorem SensorEntry.tick_paced {e : SensorEntry} {now : BitVec 16} {level : Option Bool} (h : e.paced now level = true)
    (d : e.edgeTimeout.due edgeTimeoutLimit = false) : e.tick.paced (now + 1) level = true := by
  have k := fun edge (hk : e.timedSince now edge = true) => SensorEntry.timedSince_tick hk d
  have hs : e.tick.sample = e.sample := rfl
  unfold SensorEntry.paced at h ⊢
  rw [hs]
  split <;> simp_all

/-- An edge on a temperature input keeps its sample paced (R104, R105). -/
theorem SensorEntry.temperatureEdge_paced (open_ rising : Bool) {now : BitVec 16} {e : SensorEntry}
    (h : e.paced now (some !rising) = true) : (e.temperatureEdge open_ rising now).paced now (some rising) = true := by
  have start : ∀ f : SensorEntry, f.edgeTimeout = Timer.start → f.timedSince now now = true := fun f hf =>
    SensorEntry.timedSince_start hf now
  cases rising with
  | true =>
    have hs : (e.temperatureEdge open_ true now).sample = .begun now := by
      unfold SensorEntry.temperatureEdge; dsimp only; (repeat' split) <;> simp_all
    have ht : (e.temperatureEdge open_ true now).edgeTimeout = Timer.start := by
      unfold SensorEntry.temperatureEdge; dsimp only; (repeat' split) <;> simp_all
    simp [SensorEntry.paced, hs, start _ ht]
  | false =>
    cases d : e.edgeTimeout.due edgeTimeoutLimit with
    | true =>
      refine SensorEntry.paced_of_none ?_ _ _
      simp [SensorEntry.temperatureEdge, SensorEntry.inTime_of_due d, SensorEntry.timedOut]
    | false =>
      simp only [SensorEntry.temperatureEdge, SensorEntry.inTime_of_not_due d]
      cases hs : e.sample with
      | none => simp [SensorEntry.paced]
      | fallen rise fall => simp [SensorEntry.paced, hs] at h
      | begun rise =>
        have hk : e.timedSince now rise = true := by simpa [SensorEntry.paced, hs] using h
        simp [SensorEntry.paced, SensorEntry.timedSince_below hk d, start]

/-- An edge on a smoke input keeps its sample paced (R104, R107). -/
theorem SensorEntry.smokeEdge_paced (open_ rising : Bool) (now : BitVec 16) (e : SensorEntry) :
    (e.smokeEdge open_ rising now).paced now (some rising) = true := by
  cases rising with
  | true => simp [SensorEntry.smokeEdge, SensorEntry.paced, SensorEntry.timedSince, Timer.start, captureDiff]
  | false =>
    refine SensorEntry.paced_of_none ?_ _ _
    unfold SensorEntry.smokeEdge; dsimp only; (repeat' split) <;> simp_all

/-! ### Intervals measured -/

/-- A sample that an edge takes into a window was measured by two intervals below 20 ms (R104, R105). -/
theorem SensorEntry.temperatureEdge_measures (open_ rising : Bool) {now : BitVec 16} {level : Option Bool} {e : SensorEntry}
    (h : e.paced now level = true) (c : (e.temperatureEdge open_ rising now).count ≠ e.count) :
    ∃ rise fall, e.sample = .fallen rise fall ∧ captureDiff fall rise < edgeTimeoutLimit ∧
      captureDiff now fall < edgeTimeoutLimit := by
  cases d : e.edgeTimeout.due edgeTimeoutLimit with
  | true =>
    refine absurd ?_ c
    cases rising <;> simp [SensorEntry.temperatureEdge, SensorEntry.inTime_of_due d, SensorEntry.timedOut]
  | false =>
    simp only [SensorEntry.temperatureEdge, SensorEntry.inTime_of_not_due d] at c
    cases hs : e.sample with
    | none => cases rising <;> simp [hs] at c
    | begun rise => cases rising <;> simp [hs] at c
    | fallen rise fall =>
      simp only [SensorEntry.paced, hs, Bool.and_eq_true, decide_eq_true_eq] at h
      exact ⟨rise, fall, rfl, h.1.2, SensorEntry.timedSince_below h.2 d⟩

end Sys2Proof.Machine
end

