-- ==== Sys2Proof/Laws/Slots.lean ====
section
/-! SUPPORT. What the Demand and Status timing can do to the Line Interface at the end of an event, as the relation the statements
use. -/

namespace Sys2Proof.Machine

/-! ### The relation -/

theorem LineInterface.sameOutsideSlots_refl (l : LineInterface) : l.sameOutsideSlots l := ⟨rfl, rfl⟩

theorem LineInterface.sameOutsideSlots_trans {l m n : LineInterface} (h : l.sameOutsideSlots m) (k : m.sameOutsideSlots n) :
    l.sameOutsideSlots n := by
  obtain ⟨h1, h2⟩ := h
  obtain ⟨k1, k2⟩ := k
  refine ⟨?_, k2.trans h2⟩
  rw [k1, h1]

theorem OnLine.demandReplaced_bare (o : OnLine) : o.demandReplaced.bare = o.bare := by
  unfold OnLine.demandReplaced; split <;> rfl

theorem OnLine.statusReplaced_bare (o : OnLine) : o.statusReplaced.bare = o.bare := by
  unfold OnLine.statusReplaced; split <;> rfl

/-! ### The handings -/

/-- Handing a Demand changes no more than the slots. -/
theorem LineInterface.handDemand_same (c : Demand) (l : LineInterface) : l.sameOutsideSlots (l.handDemand c) := by
  unfold LineInterface.handDemand
  split
  · exact l.sameOutsideSlots_refl
  · refine ⟨rfl, ?_⟩
    cases h : l.onLine <;> simp [OnLine.demandReplaced_bare]

/-- Handing a Status frame changes no more than the slots. -/
theorem LineInterface.handStatus_same (f : StatusFrame) (l : LineInterface) : l.sameOutsideSlots (l.handStatus f) := by
  unfold LineInterface.handStatus
  split
  · exact l.sameOutsideSlots_refl
  · refine ⟨rfl, ?_⟩
    cases h : l.onLine <;> simp [OnLine.statusReplaced_bare]

theorem State.handDemand_same (s : State) : s.line.sameOutsideSlots s.handDemand.line :=
  LineInterface.handDemand_same _ _

theorem State.handStatusA_same (s : State) : s.line.sameOutsideSlots s.handStatusA.line :=
  LineInterface.sameOutsideSlots_trans (LineInterface.handStatus_same (.a (statusAContent s)) s.line) ⟨rfl, rfl⟩

theorem State.handStatusB_same (s : State) : s.line.sameOutsideSlots s.handStatusB.line :=
  LineInterface.sameOutsideSlots_trans (LineInterface.handStatus_same (.b (statusBContent s)) s.line) ⟨rfl, rfl⟩

/-! ### The end of an event -/

theorem State.settleDemand_same (c : Demand) (s : State) : s.line.sameOutsideSlots (s.settleDemand c).line := by
  unfold State.settleDemand
  repeat' split
  all_goals first | exact State.handDemand_same s | exact s.line.sameOutsideSlots_refl

theorem State.serveStatus_same (s : State) : s.line.sameOutsideSlots s.serveStatus.line := by
  unfold State.serveStatus
  repeat' split
  all_goals first
    | exact State.handStatusA_same s
    | exact State.handStatusB_same s
    | exact s.line.sameOutsideSlots_refl

theorem State.settleStatus_same (s : State) : s.line.sameOutsideSlots s.settleStatus.line :=
  LineInterface.sameOutsideSlots_trans s.serveStatus_same s.serveStatus.serveStatus_same

theorem State.raise_same (c : Condition) (s : State) : s.line.sameOutsideSlots (s.raise c).line := by
  rw [State.raise_line]; exact ⟨rfl, rfl⟩

theorem State.lower_same (c : Condition) (s : State) : s.line.sameOutsideSlots (s.lower c).line := by
  rw [State.lower_line]; exact ⟨rfl, rfl⟩

theorem State.setCond_same (b : Bool) (c : Condition) (s : State) : s.line.sameOutsideSlots (s.setCond b c).line := by
  rw [State.setCond_line]; exact ⟨rfl, rfl⟩

/-- What every event ends with, when the test of Parking has nothing to do: no block but the Line Interface changes, and that in
its slots alone. -/
theorem State.finish_of_not_waiting (s b : State) (h : s.node.state ≠ .parking ∨ s.node.leaving = true) :
    s.sameExcept [.line] (s.finish b) ∧ s.line.sameOutsideSlots (s.finish b).line := by
  have e : s.finish b = (s.settleDemand (demandContent b)).settleStatus := by
    rw [State.finish, State.settleParking_of_not_waiting s b h]
  rw [e]
  refine ⟨by simp [State.sameExcept], ?_⟩
  exact LineInterface.sameOutsideSlots_trans (State.settleDemand_same _ s) (State.settleStatus_same _)

end Sys2Proof.Machine
end

