-- ==== Sys2Proof/WellFormed.lean ====
section
/-! DEFINITION. What makes a command's operands ones the line can carry: an identifier fits its length and a
frame has at most eight data bytes (spec/00_scope.md, sections 0.3 and 0.9: an 11-bit or a 29-bit CAN identifier, a
data length code of 0 to 8). Every other operand is in range by its type. -/

namespace Sys2Proof.Machine

/-- The frame is one a CAN line can carry. -/
def Frame.wellFormed (f : Frame) : Bool :=
  decide (f.ident < if f.extended then 2 ^ 29 else 2 ^ 11) && decide (f.data.length ≤ 8) &&
    (!f.remote || f.data.isEmpty)

/-- The reception is of a frame a CAN line can carry, or an error. -/
def Reception.wellFormed : Reception → Bool
  | .error => true
  | .frame f => f.wellFormed

/-- A stall is a trip cause of the blower alone (R125). -/
def TripCause.fits : TripCause → Channel → Bool
  | .overCurrent, _ => true
  | .stall, c => decide (c = .blower)

end Sys2Proof.Machine

namespace Sys2Proof

open Sys2Proof.Machine

/-- The command's operands are ones the part can meet. -/
def Instr.wellFormed : Instr → Bool
  | .ignoredFrame f => f.wellFormed
  | .outsideExchangeFrame f _ => f.wellFormed
  | .addressConflict f => f.wellFormed
  | .frameDiscardedForLength f => f.wellFormed
  | .errorWindowClose r => r.wellFormed
  | .channelLock c cause => cause.fits c
  | .coldStart _ | .loadingComplete _ | .listeningTimerExpiry | .supplyOkAsserted | .supplyOkDeasserted
  | .ignAcceptedLow | .ignAcceptedHigh | .sleepDelayExpiry | .parkingTimerExpiry | .leavingTimerExpiry
  | .allowanceArrival _ _ _ _ | .demandArrival _ _ | .panelArrival _ | .conditionRead | .conditionClear _ _ _
  | .conditionRelease | .channelUnlock _ | .rehomeDampers | .receiveError | .offerFrame | .lostArbitration
  | .transmitFailure | .lineOff | .demandCompletion | .frameCompletion | .lineOffTimerExpiry
  | .inhibitTimerExpiry | .refreshTimerExpiry | .statusTimerExpiry | .statusBGuardExpiry | .silenceTimerExpiry
  | .peerAging _ | .peerStale _ | .peerHoldLimit _ | .allowanceTimeout | .shareExpiry | .airExpiry
  | .clearingHoldComplete | .doorCloseEvent _ | .doorOpenEvent _ | .boostTimerExpiry | .purgeTimerExpiry
  | .lockoutTimerExpiry | .minimumOnExpiry | .minimumOffExpiry | .overrideLifetimeExpiry
  | .temperatureEdge _ _ _ | .smokeEdge _ _ _ | .tachEdge | .edgeTimeoutExpiry _ | .windowClose | .hallEdge _
  | .overCurrentAsserted _ | .overCurrentCleared _ | .rampTimerExpiry | .blowerStallExpiry
  | .cooldownTimerExpiry _ | .cleanRunExpiry _ | .damperStall _ | .coastTimerExpiry _ | .reversalTimerExpiry _
  | .homingTimerExpiry _ | .retryTimerExpiry _ | .autoReleaseExpiry => true

end Sys2Proof
end

