-- ==== Sys2Proof/Tests/Slice0.lean ====
section
/-! SUPPORT. The model's own tests: the smoke test of WellFormed, worked figures of the manual, one step of the machine here and
there, and for every statement with hypotheses a concrete state that meets them. -/

open Sys2Proof Sys2Proof.Machine

namespace Sys2Proof.Tests

/-! ### Helpers -/

/-- The part in a node state, every block as at reset but for the accepted levels of the slow lines, each its inactive one, the
timers that the state runs and the condition that follows it. -/
def live (n : NodeState) : State :=
  { State.reset with
    input := { State.reset.input with slow := ⟨⟨some true, some true⟩, ⟨some true, some true⟩, ⟨some false, some false⟩,
      ⟨some true, some true⟩, ⟨some false, some false⟩, ⟨some false, some false⟩, ⟨some false, some false⟩⟩ }
    node := { State.reset.node with state := n }
    share := { State.reset.share with timer := if n = .running then .running 0 else .stopped }
    air := { State.reset.air with timer := if n = .running then .running 0 else .stopped }
    cond := { State.reset.cond with active := if n = .supplyLow then 1 else 0 } }

/-- Running with the blower driven at 30 % and one heater stage within a take of 200, and so many trips behind the blower. -/
def blowing (trips : Nat) : State :=
  let s := live .running
  { s with
    share := { s.share with grant := 200, applied := 200, announced := 200 }
    drive :=
      { s.drive with
        plan := ⟨true, false, 40, 1⟩, duty := 30, stages := 1
        blower := { s.drive.blower with state := .running, trips := trips, cleanRun := .running 0 }
        heater := { s.drive.heater with state := .running, cleanRun := .running 0 } } }

/-- A state with these conditions active. -/
def active (x : BitVec 24) (s : State) : State := { s with cond := { s.cond with active := x } }

/-- A state whose slow line has this accepted level. -/
def accepted (l : SlowLine) (b : Bool) (s : State) : State := s.accept l b

/-- A state whose fast input has this accepted level. -/
def seen (x : FastInput) (b : Bool) (s : State) : State := s.acceptFast x b

/-- A peer entry asking for 100 at class comfort, with a freshness and a held take. -/
def entry (f : Freshness) (held : Option Nat) : PeerEntry :=
  ⟨f, .comfort, 100, 90, false, false, false, .fresh, false, 1, 10, 0, held⟩

/-- A state with the entry of node 2 set. -/
def withPeer (e : PeerEntry) (s : State) : State := { s with peers := s.peers.set 1 (.entry e) }

/-- A state with the fresh actuator changed. -/
def withFresh (f : Actuator → Actuator) (s : State) : State := { s with drive := { s.drive with fresh := f s.drive.fresh } }

/-- A state with the Line Interface changed. -/
def withLine (f : LineInterface → LineInterface) (s : State) : State := s.mapLine f

/-- A data frame with an 11-bit identifier of a kind and a node field. -/
def frame (k nf : Nat) (data : List Byte) : Frame := ⟨false, false, 16 * k + nf, data⟩

/-- A Demand asking for 600 at take 600, refresh and air space as given. -/
def demand (refresh airSpace : Nat) : Demand :=
  ⟨.clearing, .purge, true, airSpace, false, true, true, true, true, true, 600, 600, refresh⟩

/-- A configuration image with the marker that spells the defaults of Table 12-1. -/
def defaultImage : Vector Byte 83 :=
  ⟨#[165, 72, 0, 250, 0, 10, 0, 100, 0, 2, 0, 20, 0, 0, 0, 150, 1, 144, 0, 3, 0,
    50, 0, 15, 0, 180, 0, 30, 0, 20, 0, 2, 0, 125, 0, 3, 0, 40, 1, 144, 1, 144,
    0, 80, 0, 40, 0, 30, 0, 10, 0, 180, 0, 20, 0, 7, 0, 60, 0, 30, 0, 10, 0,
    5, 0, 16, 0, 1, 0, 2, 0, 63, 0, 2, 0, 3, 255, 255, 255, 0, 60, 0, 210], rfl⟩

/-- An image with the marker and zeros. -/
def zeroImage : Vector Byte 83 := ((Vector.replicate 83 0).set 0 0xA5).set 1 0x48

theorem forall_sensor {P : Sensor → Prop}
    (h : P .cabTemp ∧ P .dischargeTemp ∧ P .intakeTemp ∧ P .intakeSmoke ∧ P .cabSmoke) (x : Sensor) : P x := by
  cases x <;> simp [h]

theorem forall_temp {P : TempInput → Prop} (h : P .cab ∧ P .discharge ∧ P .intake) (x : TempInput) : P x := by
  cases x <;> simp [h]

theorem forall_smoke {P : SmokeInput → Prop} (h : P .intake ∧ P .cab) (k : SmokeInput) : P k := by cases k <;> simp [h]

theorem forall_damper {P : Damper → Prop} (h : P .fresh ∧ P .blend) (x : Damper) : P x := by cases x <;> simp [h]

/-- The invariant of a concrete state as one closed question. -/
def invCheck (s : State) : Bool :=
  decide s.params.timingInRange && decide s.params.loadsInRange && decide s.params.airInRange &&
  (decide s.loadingAtRest && decide s.peersInRange && decide s.takeLaws && decide s.sourceLaws && decide s.overrideLaws &&
    decide s.freezeLaws && decide s.heaterSafe && decide s.withinTake && decide s.waitingCurrent && decide s.lineLaws &&
    decide s.announcedLaw && decide s.offerLaw && decide s.outputLaws && decide s.nodeLaws &&
    ([TempInput.cab, .discharge, .intake].all fun x => s.samplePaced x.sensor x.line) &&
    ([SmokeInput.intake, .cab].all fun k => s.samplePaced k.sensor k.line)) &&
  (decide (s.follows .supplyLow (decide (s.node.state = .supplyLow))) && decide (s.follows .addressConflict s.line.listenOnly) &&
    decide (s.follows .lineOff (!s.line.lineOn)) && decide (s.follows .lineDegraded s.line.degraded) &&
    decide (s.follows .isolated s.line.isolated) && decide (s.follows .allowanceLost (decide (s.allowance.state = .lost))) &&
    decide (s.follows .smokeHigh s.air.smokeHigh) && decide (s.follows .purgeTimeout s.air.lockout.isRunning) &&
    decide (s.follows .channelLocked s.drive.anyLocked) && decide (s.follows .heaterTrip s.drive.heater.state.afterTrip) &&
    decide (s.follows .clutchTrip s.drive.clutch.state.afterTrip) &&
    decide ((inSet s.cond.active .blowerTrip || inSet s.cond.active .blowerStall) = s.drive.blower.state.afterTrip)) &&
  ([Sensor.cabTemp, .dischargeTemp, .intakeTemp, .intakeSmoke, .cabSmoke].all fun x =>
    decide (s.follows x.fault (s.input.sensors.get x).fault)) &&
  (decide (s.drive.duty ≤ s.drive.plan.duty) && decide (s.drive.stages ≤ s.drive.plan.stages) &&
    decide (s.drive.clutch.state = .running → s.drive.plan.clutch = true) &&
    decide (s.drive.plan.held = true → s.drive.fresh.drive = none ∧ s.drive.blend.drive = none) &&
    decide (0 < s.drive.duty → s.params.minDuty ≤ s.drive.duty) &&
    decide (s.drive.blower.driving = false → s.drive.duty = 0) &&
    decide (s.drive.blower.driving = true → s.params.minDuty ≤ s.drive.duty) &&
    decide (0 < s.drive.plan.duty → s.params.minDuty ≤ s.drive.plan.duty) &&
    decide (0 < s.air.wantedDuty → s.params.minDuty ≤ s.air.wantedDuty) &&
    decide (s.node.state ≠ .running → s.air.wantedDuty = 0)) &&
  ([Damper.fresh, .blend].all fun x =>
    decide ((s.drive.actuator x).drive.isSome = true →
      (s.drive.actuator x).state = .homing ∨ (s.drive.actuator x).state = .moving) &&
    decide ((s.drive.actuator x).position ≤ s.params.travel x) && decide ((s.drive.actuator x).target ≤ s.params.travel x)) &&
  (decide (s.air.blend ≤ 1000) && decide (s.air.freshTarget ≤ 1000) && decide (s.air.overrides.blend.getD 0 ≤ 100))

/-- The check says the invariant. -/
theorem inv_of_check (s : State) (h : invCheck s = true) : s.Inv := by
  simp only [invCheck, Bool.and_eq_true, decide_eq_true_eq, List.all_cons, List.all_nil, and_true] at h
  obtain ⟨⟨⟨⟨⟨⟨⟨⟨p1, p2⟩, p3⟩, ⟨⟨⟨⟨⟨⟨⟨⟨⟨⟨⟨⟨⟨⟨⟨q1, q2⟩, q3⟩, q4⟩, q5⟩, q6⟩, q7⟩, q8⟩, q9⟩, q10⟩, q11⟩, q12⟩, q13⟩, q14⟩,
    ht⟩, hk⟩⟩,
    ⟨⟨⟨⟨⟨⟨⟨⟨⟨⟨⟨c1, c2⟩, c3⟩, c4⟩, c5⟩, c6⟩, c7⟩, c8⟩, c9⟩, c10⟩, c11⟩, c12⟩⟩, hs⟩,
    ⟨⟨⟨⟨⟨⟨⟨⟨⟨d1, d2⟩, d3⟩, d4⟩, d5⟩, d6⟩, d7⟩, d8⟩, d9⟩, d10⟩⟩, ⟨⟨⟨e1, e2⟩, e3⟩, ⟨f1, f2⟩, f3⟩⟩, ⟨⟨g1, g2⟩, g3⟩⟩ := h
  exact
    { params := ⟨p1, p2, p3⟩, loading := q1, peers := q2, take := q3, announced := q11, source := q4, override := q5, freeze := q6
      owners := ⟨c1, c2, c3, c4, c5, c6, c7, c8, forall_sensor hs, c9, c10, c11, c12⟩
      heater := q7
      plan := ⟨d1, d2, d3, d4, d5, d6, d7, d8, d9, d10, forall_damper ⟨e1, f1⟩⟩
      current := q8
      travel := ⟨forall_damper ⟨⟨e2, e3⟩, ⟨f2, f3⟩⟩, g1, g2, g3⟩
      waiting := q9, line := q10, offer := q12, outputs := q13, node := q14
      samples := ⟨forall_temp ht, forall_smoke hk⟩ }

/-! ### WellFormed: an ill-formed operand for each check -/

theorem test_wf_standard_identifier : (Instr.ignoredFrame ⟨false, false, 2048, []⟩).wellFormed = false := by decide
theorem test_wf_extended_identifier : (Instr.addressConflict ⟨true, false, 2 ^ 29, []⟩).wellFormed = false := by decide
theorem test_wf_data_length :
    (Instr.frameDiscardedForLength ⟨false, false, 0, List.replicate 9 0⟩).wellFormed = false := by decide
theorem test_wf_remote_data : (Instr.outsideExchangeFrame ⟨false, true, 1, [0]⟩ true).wellFormed = false := by decide
theorem test_wf_reception : (Instr.errorWindowClose (.frame ⟨false, false, 2048, []⟩)).wellFormed = false := by decide
theorem test_wf_trip_cause : (Instr.channelLock .heater .stall).wellFormed = false := by decide
theorem test_wf_accepts : (Instr.ignoredFrame (frame 5 1 [])).wellFormed = true ∧
    (Instr.channelLock .blower .stall).wellFormed = true := by decide

/-! ### Worked figures of the manual -/

/-- R87: S = 210 and C = 150 give 390; S = 210, C = 227 and a cab gain of 25 give 168. -/
theorem test_discharge_target : dischargeTargetOf defaultParams 210 (some 150) = 390 ∧
    dischargeTargetOf { defaultParams with cabGain := 25 } 210 (some 227) = 168 := by decide

/-- R91: with S = 210, C = 150 gives Auto level 6 and C = 227 gives 3. -/
theorem test_auto_level : autoLevel 210 (some 150) = 6 ∧ autoLevel 210 (some 227) = 3 := by decide

/-- R97: level 7, two stages, no clutch call and the base counted ask for 427; with the clutch called, 467. -/
theorem test_request : requestOf defaultParams true { AirUnit.cold defaultParams with wantedDuty := 90, heaterWant := 2 } = 427 ∧
    requestOf defaultParams true { AirUnit.cold defaultParams with wantedDuty := 90, heaterWant := 2, clutchCall := true } =
      467 := by decide

/-- R90: the want falls where the flag was clear before the expiry too, and not at the expiry that clears it. -/
theorem test_fall_after_defrost :
    fallCondition false { AirUnit.cold defaultParams with heaterWant := 1, blend := 800 } none = true ∧
    fallCondition true { AirUnit.cold defaultParams with heaterWant := 1, blend := 800 } none = false := by decide

/-- R55: with T at 217 and the default step, a grant of 310 announces 267 and one of 230 announces 230. -/
theorem test_raise :
    (({ ShareUnit.cold.steadyAt 217 with grant := 310 } : ShareUnit).beginRaise 50 true).announced = 267 ∧
    (({ ShareUnit.cold.steadyAt 217 with grant := 230 } : ShareUnit).beginRaise 50 true).announced = 230 := by decide

/-- R46: with the default cap a request of 427 gives 150 and one of 120 gives 120. -/
theorem test_isolated_grant :
    isolatedGrant { State.reset with air := { State.reset.air with request := 427 } } = 150 ∧
    isolatedGrant { State.reset with air := { State.reset.air with request := 120 } } = 120 := by decide

/-- R137: near home is 20 counts with F at 400 and 2 with F at 50; beyond it a first stall is Stalled. -/
theorem test_near_home :
    ((({ Actuator.cold with state := .moving, drive := some .towardZero, position := 20 } : Actuator).stall 400 true false).act.state
      = .idle) ∧
    ((({ Actuator.cold with state := .moving, drive := some .towardZero, position := 3 } : Actuator).stall 50 true false).act.state
      = .stalled) := by decide

/-- R106: the range of a valid sample's temperature at its ends, and R107 (Table 7-2) at the edges of its rows. -/
theorem test_samples : tempOf 400 8000 = -318 ∧ tempOf 7600 8000 = 1167 ∧ tempValid 25 500 = true ∧ tempValid 24 500 = false ∧
    densityOf 49 = none ∧ densityOf 99 = some 0 ∧ densityOf 500 = some 500 ∧ densityOf 950 = some 1000 ∧
    densityOf 951 = none := by decide

/-- R98 with a take of 217 and the wants of R97's zone: base, blower minimum and one stage leave 23 over, and the blower gets
floor(100 × 77 / 180) = 42. -/
theorem test_split : split defaultParams 217 ⟨true, false, 90, 2⟩ = ⟨false, false, 42, 1⟩ := by decide

/-- Table 12-1: an image with the marker that spells the defaults is taken as it stands; one of zeros is taken into range; one
without the marker is rejected (R154, R155). -/
theorem test_image : takeImage true defaultImage = (defaultParams, .image) ∧
    (takeImage true zeroImage).2 = .clampedImage ∧ (takeImage true zeroImage).1.controlPeriod = 100 ∧
    takeImage true (Vector.replicate 83 0) = (defaultParams, .defaults) := by decide

/-- Table 1-2 at station 1, row by row. -/
theorem test_sorting : sortFrame 0 (frame 1 9 [1, 2, 3]) = .allowance 1 2 3 ∧ sortFrame 0 (frame 2 1 []) = .conflict ∧
    sortFrame 0 (frame 2 9 []) = .ignored ∧ sortFrame 0 (frame 2 8 []) = .badLength ∧
    sortFrame 0 (frame 3 2 []) = .ignored ∧ sortFrame 0 (frame 4 1 [6]) = .ignored ∧
    sortFrame 0 (frame 4 1 [5]) = .rehome ∧ sortFrame 0 (frame 7 1 []) = .conflict ∧ sortFrame 0 (frame 8 1 []) = .outside ∧
    sortFrame 0 ⟨true, false, 33, []⟩ = .outside := by decide

/-- Table 1-6: class Clearing, source Purge, cooling and air space 4 make byte 0 = 0 + 16 + 32 + 192; every flag but leaving
makes byte 1 = 62; 600 is 0x02, 0x58. -/
theorem test_demand_bytes : (demand 20 4).bytes = [0xF0, 0x3E, 0x02, 0x58, 0x02, 0x58, 20] := by decide

/-! ### Steps -/

/-- From reset the end of Loading is due at once, since no configuration memory is fitted (R154). -/
theorem test_reset_due : (dueEvents State.reset).length = 1 := by decide

theorem test_loading_defaults : ∃ t, exec (.loadingComplete zeroImage) State.reset = .next t ∧ t.node.state = .listening ∧
    inSet t.cond.active .configDefault = true ∧ t.params = defaultParams := ⟨_, rfl, by decide⟩

/-- A command whose event the state rules out does nothing (log entry 3). -/
theorem test_no_event : exec .leavingTimerExpiry (live .running) = .next (live .running) := by rfl

/-- R124, R127: the third trip locks the blower and drops its output. -/
theorem test_third_trip : ∃ t, exec (.overCurrentAsserted .blower) (blowing 2) = .next t ∧ t.drive.blower.state = .locked ∧
    t.drive.duty = 0 ∧ t.blwPwm = false ∧ inSet t.cond.active .channelLocked = true := ⟨_, rfl, by decide⟩

/-- R38, Table 3-2: stage 2 strikes Comfort and Standby and counts Recovery. -/
theorem test_shed : counted 2 ⟨0, .recovery, 7⟩ = 7 ∧ counted 2 ⟨0, .comfort, 7⟩ = 0 ∧ counted 1 ⟨0, .comfort, 7⟩ = 7 ∧
    counted 3 ⟨0, .clearing, 7⟩ = 7 := by decide

/-- Section 3.5.1: with a pool of 350 the Recovery claims of 427 and 260 are allotted 217 and 132, the rest unallotted. -/
theorem test_divide :
    (serveClass 0 350 [⟨1, .recovery, 427⟩, ⟨2, .recovery, 260⟩]).1.map Allotment.amount = [217, 132] := by decide

/-- Section 7.2: the third worked row runs across the wrap of the capture timer. -/
theorem test_wrapped_sample : captureDiff 64#16 65000#16 = 600 ∧ captureDiff 1464#16 65000#16 = 2000 ∧ tempOf 600 2000 = 95 := by
  decide

/-- R118, R120, R131: right after reset every output stands at its inactive level, with the clutch pin at high impedance. -/
theorem test_outputs_at_reset : State.reset.blwPwm = false ∧ State.reset.htr 1 = false ∧ State.reset.cluOut = none ∧
    State.reset.damperRun .fresh = false ∧ State.reset.damperDir .blend = none := by decide

/-- R120, R122: a figure of 30 holds the output high for 300 thousandths of the cycle; with one stage driven, HTR1 alone is on. -/
theorem test_outputs_driven :
    (State.blwPwm { State.reset with drive := { State.reset.drive with pwm := ⟨299, 30⟩ } } = true) ∧
    (State.blwPwm { State.reset with drive := { State.reset.drive with pwm := ⟨300, 30⟩ } } = false) ∧
    (State.htr { State.reset with drive := { State.reset.drive with stages := 1 } } 1 = true) ∧
    (State.htr { State.reset with drive := { State.reset.drive with stages := 1 } } 2 = false) := by decide

/-- R115: with the door's pull-up disabled an undriven door line goes to the level of its wiring, and two samples 10 ms apart
accept it and queue the close. -/
def unpulled : State :=
  let s := live .running
  { s with input := { s.input with
    pullUps := 0b0000010#7, pins := { s.input.pins with door1 := ⟨none, false⟩ } } }

theorem test_pull_up_moves_line : unpulled.slowPinLevel .door1 = false ∧ unpulled.sampleSlowLines.pending = [] ∧
    unpulled.sampleSlowLines.sampleSlowLines.pending = [.doorCloseEvent .door1] := by decide

/-- R113: the first acceptance of a line is no event, and a later one is. -/
theorem test_first_acceptance :
    (∃ t, exec (.doorCloseEvent .door1) State.reset = .next t ∧ t.lineLevel .door1 = false ∧ t.air = State.reset.air) ∧
    State.reset.accepts .door1 false = false ∧ (live .running).accepts .door1 false = true := ⟨⟨_, rfl, by decide⟩, by decide⟩

/-- R103, R113: after a commanded level or edge the samples that follow agree with it. -/
theorem test_command_moves_pin :
    (live .running |> accepted .door1 false).sampleSlowLines.sampleSlowLines.pending = [] ∧
    (live .running |> seen .tempCab true).sampleFastInputs.sampleFastInputs.pending = [] := by decide

/-- R103: two rising edges running are one edge. -/
theorem test_edges_alternate :
    exec (.temperatureEdge .cab true 0) (State.reset |> seen .tempCab true) = .next (State.reset |> seen .tempCab true) := by rfl

/-- The cab temperature input high, its sample begun so many microseconds ago. -/
def begun (us : Nat) : State :=
  (live .running |> seen .tempCab true).mapInput fun i =>
    { i with
      captureTimer := BitVec.ofNat 16 us
      sensors := { i.sensors with cabTemp := { i.sensors.cabTemp with sample := .begun 0, edgeTimeout := .running us } } }

/-- R104: a fall 19 999 µs after its rise is taken, and one 20 000 µs after it finds the sample discarded. -/
theorem test_interval_below_20_ms :
    (∃ t, exec (.temperatureEdge .cab false 19999) (begun 19999) = .next t ∧
      t.input.sensors.cabTemp.sample = .fallen 0 19999) ∧
    (∃ t, exec (.temperatureEdge .cab false 20000) (begun 20000) = .next t ∧ t.input.sensors.cabTemp.sample = .none) :=
  ⟨⟨_, rfl, by decide⟩, _, rfl, by decide⟩

/-- R132: an edge less than 100 ms after the drive's stop moves p, and one 100 ms after it does not. -/
theorem test_coast_window :
    ((({ Actuator.cold with last := .towardFull, coast := .running 99999 } : Actuator).edge 400 true false).act.position = 1) ∧
    ((({ Actuator.cold with last := .towardFull, coast := .running 100000 } : Actuator).edge 400 true false).act.position = 0) := by
  decide

/-- Running with the sleep delay running, the source Off, the base load as given and not counted, and the fresh damper at rest
open. -/
def restingOpen (base : Nat) : State :=
  let s := live .running |> withFresh fun a => { a with state := .idle, position := 400, target := 400 }
  { s with
    params := { s.params with baseLoad := base }, node := { s.node with sleepDelay := .running 0 }
    air := { s.air with baseCounted := false, freshTarget := 1000 } }

/-- R140: leaving Running for Parking with a base load of 0 the open fresh damper closes, and with one above 0 it is Held. -/
theorem test_parking_closes_with_base_0 :
    (∃ t, exec .sleepDelayExpiry (restingOpen 0) = .next t ∧ t.drive.fresh.state = .moving ∧
      t.drive.fresh.drive = some .towardZero) ∧
    (∃ t, exec .sleepDelayExpiry (restingOpen 15) = .next t ∧ t.drive.fresh.state = .held) :=
  ⟨⟨_, rfl, by decide⟩, _, rfl, by decide⟩

/-! ### Witnesses: concrete states that meet the hypotheses of each statement -/

theorem inv_running : (live .running).Inv := inv_of_check _ (by decide)
theorem inv_blowing (n : Fin 4) : (blowing n).Inv := by
  refine inv_of_check _ ?_
  revert n
  decide

theorem witness_FrontCommandRuns : ({ live .running with pending := [.tachEdge] } : State).pending = .tachEdge :: [] := rfl

theorem witness_EmptyQueueTakesDueOrTicks : (State.reset.pending = [] ∧ dueEvents State.reset ≠ []) ∧
    (live .running).pending = [] ∧ dueEvents (live .running) = [] := by decide

theorem witness_LoadingTakesImage : State.reset.node.state = .loading := by decide

theorem witness_ConfigurationInRange :
    (markerMatches defaultImage = true ∧ (rawParams defaultImage).timingInRange ∧ (rawParams defaultImage).loadsInRange) ∧
    (rawParams defaultImage).airInRange ∧ (markerMatches zeroImage = true ∧ ¬ (rawParams zeroImage).timingInRange) ∧
    markerMatches (Vector.replicate 83 0) = false := by and_intros <;> decide

/-- A state waiting in Listening, its timer as given. -/
def listening (x : Timer) : State := { live .listening with node := { (live .listening).node with listening := x } }

theorem witness_ListeningEndsInRunning :
    ((listening (.running 0)).node.state = .listening ∧ (listening (.running 0)).node.listening.isRunning = true ∧
      (listening (.running 0)).lineLevel .supplyOk = true) ∧
    (listening (.running 0) |> accepted .supplyOk false).lineLevel .supplyOk = false ∧
    (listening .expired |> accepted .supplyOk false).node.listening = .expired ∧ (listening .expired |> accepted .supplyOk false).accepts .supplyOk true = true := by decide

theorem witness_SupplyLossAndReturn :
    ((live .running).Inv ∧ (live .running).accepts .supplyOk false = true ∧ (live .running).node.state = .running) ∧
    ((live .listening).Inv ∧ (live .listening).accepts .supplyOk false = true ∧ (live .listening).node.state ≠ .running) ∧
    ((live .supplyLow |> accepted .supplyOk false).accepts .supplyOk true = true ∧
      (live .supplyLow |> accepted .supplyOk false).node.state = .supplyLow) ∧
    (live .sleep |> accepted .supplyOk false).accepts .supplyOk true = true ∧
    (live .sleep |> accepted .supplyOk false).node.state ≠ .supplyLow :=
  ⟨⟨inv_running, by decide⟩, ⟨inv_of_check _ (by decide), by decide⟩, by decide⟩

theorem witness_IgnitionOffAndOn : (live .running |> accepted .ign true).accepts .ign false = true ∧
    ((live .sleep).accepts .ign true = true ∧ (live .sleep).node.state = .sleep) ∧
    ((live .parking).accepts .ign true = true ∧ (live .parking).node.state = .parking ∧
      (live .parking).lineLevel .supplyOk = true) ∧
    ((live .parking |> accepted .supplyOk false).accepts .ign true = true ∧
      (live .parking |> accepted .supplyOk false).lineLevel .supplyOk = false) ∧
    (live .running).node.state ≠ .sleep ∧ (live .running).node.state ≠ .parking := by decide

/-- A state whose sleep-delay timer runs. -/
def delaying (n : NodeState) : State := { live n with node := { (live n).node with sleepDelay := .running 0 } }

theorem witness_SleepDelayParks : ((restingOpen 0).Inv ∧ (restingOpen 0).node.sleepDelay.isRunning = true ∧
      (restingOpen 0).line.listenOnly = false ∧ (restingOpen 0).node.state = .running) ∧ ((delaying .running).Inv ∧ (delaying .running).node.sleepDelay.isRunning = true ∧
      (delaying .running).line.listenOnly = false ∧ (delaying .running).node.state = .running) ∧
    (delaying .supplyLow).Inv ∧ (delaying .supplyLow).node.sleepDelay.isRunning = true ∧
      (delaying .supplyLow).line.listenOnly = false ∧ (delaying .supplyLow).node.state = .supplyLow :=
  ⟨⟨inv_of_check _ (by decide), by decide⟩, ⟨inv_of_check _ (by decide), by decide⟩, inv_of_check _ (by decide), by decide⟩

/-- A state in Parking, its wait over or not, in Listen-only or not. -/
def parked (leaving listenOnly : Bool) : State :=
  let s := live .parking
  { s with
    node := { s.node with parking := .running 0, leavingTimer := if leaving then .running 0 else .stopped, leaving := leaving }
    line := { s.line with listenOnly := listenOnly, isolated := listenOnly } }

theorem witness_ParkingWaitEnds : (∀ l o : Bool, (parked l o).node.state = .parking ∧ (parked l o).node.parking.isRunning = true ∧
      (parked l o).node.leaving = l ∧ (parked l o).line.listenOnly = o) ∧
    ((delaying .running |> withLine fun l => { l with listenOnly := true }).node.leaving = false ∧
      (delaying .running |> withLine fun l => { l with listenOnly := true }).line.listenOnly = true ∧
      (delaying .running |> withLine fun l => { l with listenOnly := true }).node.sleepDelay.isRunning = true) := by decide

theorem witness_LeavingTimerSleeps : (parked true false).Inv ∧ (parked true false).node.state = .parking ∧
    (parked true false).node.leavingTimer.isRunning = true := ⟨inv_of_check _ (by decide), by decide⟩

theorem witness_ErrorWindowCounts : (live .running).node.state.receives = true ∧
    sortFrame (live .running).node.own (frame 2 8 []) = .badLength ∧
    (let s := live .running |> withLine fun l => { l with receivedCount := 255, erroneousCount := 255 }
     s.Inv ∧ s.node.state.receives = true ∧ s.line.receivedCount = 255 ∧ Reception.error.counts s.node.own = true ∧
     (Reception.frame (frame 7 8 [])).counts s.node.own = true) ∧
    (live .running).Inv ∧ (live .running).line.receivedCount < 255 ∧ Reception.error.counts (live .running).node.own = true ∧
    Instr.receiveError = Reception.error.row (live .running).node.own :=
  ⟨by decide, by decide, ⟨inv_of_check _ (by decide), by decide⟩, inv_running, by decide⟩

/-- Table 1-2: the row of the table that a reception is at station 1. -/
theorem test_reception_rows : Reception.error.row 0 = .receiveError ∧
    (Reception.frame (frame 1 9 [1, 2, 3])).row 0 = .allowanceArrival 9 1 2 3 ∧
    (Reception.frame (frame 2 8 [])).row 0 = .frameDiscardedForLength (frame 2 8 []) ∧
    (Reception.frame (frame 4 1 [5])).row 0 = .rehomeDampers := by decide

theorem witness_WellFormedFrameHeard : (live .running).Inv ∧ (live .running).node.state = .running ∧
    sortFrame (live .running).node.own (frame 5 15 []) = .ignored ∧
    sortFrame (live .running).node.own (frame 0 15 []) = .outside := ⟨inv_running, by decide⟩

/-- A running node in Listen-only. -/
def silenced : State :=
  (live .running |> withLine fun l => { l with listenOnly := true, isolated := true }).raise .addressConflict |>.raise .isolated

theorem witness_ConflictEntersListenOnly : ((live .running).Inv ∧ (live .running).node.state.receives = true ∧
      sortFrame (live .running).node.own (frame 6 1 []) = .conflict) ∧
    silenced.Inv ∧ silenced.node.state.receives = true ∧ silenced.line.listenOnly = true ∧
      sortFrame silenced.node.own (frame 6 1 []) = .conflict :=
  ⟨⟨inv_running, by decide⟩, inv_of_check _ (by decide), by decide⟩

/-- A state with an offer of a Demand in progress. -/
def offering (void : Bool) (leaving : Bool) (s : State) : State :=
  { s with line := { s.line with onLine := some ⟨.demand { demand 5 1 with leaving := leaving }, false, void⟩ } }

theorem witness_OfferLowestIdentifier :
    ((live .running).node.state.speaks = true ∧ (live .running).line.lineOn = true ∧
      (live .running).line.listenOnly = false ∧ (live .running).line.onLine = none) ∧
    (offering false false (live .running)).line.onLine ≠ none := by decide

theorem witness_FailuresTakeLineOff :
    ((offering false false (live .running)).line.onLine = some ⟨.demand (demand 5 1), false, false⟩ ∧
      (offering false false (live .running)).line.lineOn = true ∧
      (offering false false (live .running)).line.faultCounter < 32) ∧
    (let s := offering false false (live .running) |> withLine fun l => { l with statusSlot := some (.a ⟨none, none, none, none, none⟩) }
     s.line.onLine = some ⟨.demand (demand 5 1), false, false⟩ ∧ s.line.lineOn = true ∧ s.line.statusSlot ≠ none) ∧
    (offering false false (live .running) |> withLine fun l => { l with faultCounter := 31 }).line.faultCounter = 31 ∧
    (live .running |> withLine fun l => { l with lineOffTimer := .running 0 }).line.lineOffTimer.isRunning = true := by decide

theorem witness_DemandCompletes :
    (offering true false (live .running)).line.onLine = some ⟨.demand (demand 5 1), false, true⟩ ∧
    (offering false false (live .running)).line.onLine = some ⟨.demand (demand 5 1), false, false⟩ ∧
    (offering false true (parked true false)).line.onLine =
      some ⟨.demand { demand 5 1 with leaving := true }, false, false⟩ := by decide

/-- A state with an offer of a Status or a report in progress. -/
def sending (f : TxFrame) (void : Bool) : State := live .running |> withLine fun l => { l with onLine := some ⟨f, false, void⟩ }

theorem witness_StatusAndReportComplete :
    ((sending (.report ⟨0, 0, 0, false, false⟩) false).line.onLine = some ⟨.report ⟨0, 0, 0, false, false⟩, false, false⟩ ∧
      (sending (.report ⟨0, 0, 0, false, false⟩) false).line.listenOnly = false) ∧
    ((sending (.status (.a ⟨none, none, none, none, none⟩)) false).line.onLine =
      some ⟨.status (.a ⟨none, none, none, none, none⟩), false, false⟩) ∧
    (sending (.report ⟨0, 0, 0, false, false⟩) true).line.onLine = some ⟨.report ⟨0, 0, 0, false, false⟩, false, true⟩ := by
  decide

/-- Running, expecting a peer, with the silence timer running and the inhibit timer expired. -/
def silent : State :=
  { live .running with params := { defaultParams with expectedPeers := 1 } } |> withLine fun l =>
    { l with silence := .running 0, inhibit := .expired }

theorem witness_DemandTimersHand :
    (let s := live .running |> withLine fun l => { l with inhibit := .running 0, refresh := .running 0 }
     s.node.state.speaks = true ∧ s.line.inhibit.isRunning = true ∧ s.line.refresh.isRunning = true) ∧
    (let s := offering false false (live .running) |> withLine fun l => { l with refresh := .running 0 }
     s.node.state.speaks = true ∧ s.line.refresh.isRunning = true ∧ s.line.onLine ≠ none) ∧
    ∃ t, exec .silenceTimerExpiry silent = .next t ∧ t.node.state.speaks = true ∧ t.line.listenOnly = false ∧
      demandContent t ≠ demandContent silent ∧ t.line.inhibit = .expired ∧
      (demandContent t).differs t.line.lastDemand = true := ⟨by decide, by decide, _, rfl, by decide⟩

/-- R5, R7: the refresh hands a Demand while one is on the line; the one on the line runs on and shows that it was replaced. -/
theorem test_refresh_replaces :
    ∃ t, exec .refreshTimerExpiry (offering false false (live .running) |> withLine fun l => { l with refresh := .running 0 }) =
      .next t ∧ t.line.onLine = some ⟨.demand (demand 5 1), true, false⟩ ∧ t.line.demandSlot = some (demandContent t) :=
  ⟨_, rfl, by decide⟩

theorem witness_StatusTimersHand :
    (let s := live .running |> withLine fun l => { l with statusTimer := .running 0 }
     s.node.state.speaks = true ∧ s.line.statusTimer.isRunning = true ∧ s.line.listenOnly = false ∧ s.line.statusSlot = none) ∧
    (let s := live .running |> withLine fun l =>
      { l with statusTimer := .running 0, statusSlot := some (.b (statusBContent State.reset)) }
     s.line.listenOnly = false ∧ s.line.statusSlot = some (.b (statusBContent State.reset))) ∧
    (let s := live .running |> withLine fun l => { l with statusBGuard := .running 0, bChangeOwed := true }
     s.line.statusBGuard.isRunning = true ∧ s.line.listenOnly = false ∧ s.line.statusSlot = none ∧ s.line.aOwed = false ∧
     (s.line.bOwed || s.line.bChangeOwed) = true) ∧
    (let s := live .running |> withLine fun l =>
      { l with statusBGuard := .running 0, statusSlot := some (.b (statusBContent State.reset)) }
     s.line.statusBGuard.isRunning = true ∧ s.line.statusSlot.isSome = true) ∧
    (let s := live .running |> withLine fun l => { l with statusBGuard := .running 0 }
     s.line.statusBGuard.isRunning = true ∧ (s.line.aOwed || s.line.bOwed || s.line.bChangeOwed) = false) ∧
    (live .running |> withLine fun l => { l with statusTimer := .running 0, listenOnly := true }).line.listenOnly = true := by
  decide

theorem witness_SilenceIsolates : silent.node.state = .running ∧ silent.params.expectedPeers ≠ 0 ∧
    silent.line.silence.isRunning = true := by decide

theorem witness_DemandRecordReadBack : (0 : Node) ≠ 7 ∧ (demand 5 1).request ≤ 600 ∧ (demand 5 1).take ≤ 600 ∧
    5 ≤ (demand 5 1).refresh ∧ (demand 20 4).refresh ≤ 20 ∧ 1 ≤ (demand 5 1).airSpace ∧ (demand 20 4).airSpace ≤ 4 := by decide

theorem witness_SortingByTable12 : (⟨true, false, 33, []⟩ : Frame).extended = true ∧ (⟨false, true, 33, []⟩ : Frame).remote = true ∧
    0 < 16 ∧ 15 < 16 ∧ nodeNumber 0 = 1 ∧ nodeNumber 7 = 8 := by decide

theorem witness_StatusAndReportBytes : (-400 : Int) ≤ -400 ∧ (1250 : Int) ≤ 1250 ∧ (0 : Int) ≤ 0 ∧ (1000 : Int) ≤ 1000 ∧
    (let c : StatusB := ⟨600, 100, 4, .purge, 100, 100, 24, false, false, false, false, false, false⟩
     c.take ≤ 600 ∧ c.stages ≤ 4 ∧ c.duty ≤ 100 ∧ c.freshPercent ≤ 100 ∧ c.blendPercent ≤ 100 ∧ c.activeCount ≤ 24) := by decide

theorem witness_DemandArrivalStored : (live .running).Inv ∧ (live .running).node.state.receives = true ∧
    (7 : Node) ≠ (live .running).node.own := ⟨inv_running, by decide⟩

theorem witness_PeerThresholdsPassed : (live .running).node.state.receives = true ∧
    ((live .running |> withPeer (entry .fresh none)).peers[(1 : Node)] = .entry (entry .fresh none)) ∧
    ((live .running |> withPeer (entry .aging none)).peers[(1 : Node)] = .entry (entry .aging none)) ∧
    ((live .running |> withPeer (entry .stale (some 90))).peers[(1 : Node)] = .entry (entry .stale (some 90))) := by decide

theorem witness_AllowanceStoreActs : (live .running).Inv ∧ (live .running).node.state.receives = true ∧
    ({ live .running with allowance := ⟨0, 0, .awaiting, .running 0⟩ } : State).allowance.age.isRunning = true :=
  ⟨inv_running, by decide⟩

theorem witness_ClaimsAndReserveByRule : (live .running |> withPeer (entry .stale (some 90))).peersInRange ∧
    (live .running |> withPeer (entry .stale (some 90))).peers[(1 : Node)] = .entry (entry .stale (some 90)) ∧
    (live .running).peers[(7 : Node)] = .empty := by decide

theorem witness_ClassDivided : 100 < classTotal 0 [⟨0, .comfort, 600⟩] ∧ 0 < classTotal 0 [⟨0, .comfort, 1⟩] := by decide

theorem witness_GrantWithinAllowance : (live .running).peersInRange ∧ (live .running).node.state = .running ∧
    (live .running).share.timer.isRunning = true ∧ (live .running).line.isolated = false ∧
    reserve (live .running) ≤ allowanceInUse (live .running) := by decide

/-- Running with a take register as given. -/
def taking (applied announced : Nat) (k : TakeState) (request : Nat) : State :=
  let s := live .running
  { s with
    share := { s.share with applied := applied, announced := announced, state := k }
    air := { s.air with request := request } }

theorem witness_SharedExpiryTakes :
    (sharedGrant (taking 10 10 .steady 0) < (taking 10 10 .steady 0).share.applied) ∧
    ((taking 10 10 .steady 300).share.applied ≤ sharedGrant (taking 10 10 .steady 300)) ∧
    ((taking 10 60 .announcing 10).share.applied ≤ sharedGrant (taking 10 60 .announcing 10)) ∧
    ((taking 10 60 .announced 300).share.applied ≤ sharedGrant (taking 10 60 .announced 300)) ∧
    (taking 10 60 .announced 300).share.timer.isRunning = true := by decide

theorem witness_IsolatedExpiryTakes :
    let s := live .running |> withLine fun l => { l with isolated := true }
    s.node.state = .running ∧ s.share.timer.isRunning = true ∧ s.line.isolated = true := by decide

/-- Running in Recirculate with no cause for it and a clearing hold of 7. -/
def clearing : State :=
  let s := live .running
  { s with
    params := { s.params with sensorsFitted := 0 }
    air := { s.air with source := .recirculate, clearingHold := 7 } }

theorem witness_SourceAtAirExpiry : ((live .running).Inv ∧ (live .running).node.state = .running) ∧
    clearing.node.state = .running ∧ clearing.air.timer.isRunning = true ∧ clearing.air.mode ≠ .off ∧
    clearing.air.source = .recirculate ∧ clearing.air.clearingHold = 7 ∧
    (clearing.reading .intakeSmoke = none ∧ clearing.reading .cabSmoke = none ∧ clearing.params.fitted .intakeSmoke = false ∧
      purgingPeers clearing = [] ∧ smokingPeers clearing = [] ∧ clearing.air.mode ≠ .recirculate) ∧
    clearing.purgeEntry = false ∧ clearing.settleSmoke.recircCauseNow = false :=
  ⟨⟨inv_running, by decide⟩, by decide⟩

theorem witness_WantsAtAirExpiry : (live .running).node.state = .running ∧ (live .running).air.timer.isRunning = true := by decide

theorem witness_HeaterWantAndPlanAtAirExpiry : (live .running).node.state = .running ∧
    (live .running).air.timer.isRunning = true := by decide

theorem witness_SplitWithinTake : defaultParams.timingInRange ∧ defaultParams.loadsInRange ∧ defaultParams.airInRange ∧
    defaultParams.minDuty ≤ 30 ∧ 30 ≤ 100 ∧ 100 ≤ 100 := by and_intros <;> decide

theorem witness_SplitByRule : defaultParams.timingInRange ∧ defaultParams.loadsInRange ∧ defaultParams.airInRange ∧
    (defaultParams.minDuty ≤ 100 ∧ 100 ≤ 100) ∧ 0 < (split defaultParams 217 ⟨true, false, 90, 2⟩).duty := by and_intros <;> decide

/-- Running with the source machine in a state. -/
def sourced (x : Source) : State :=
  let s := live .running
  { s with
    air := { s.air with
      source := x
      boost := if x = .pressurize then .running 0 else .stopped
      purge := if x = .purge then .running 0 else .stopped } }

theorem witness_DoorsBoost :
    (let s := sourced .fresh |> accepted .door2 false
     s.accepts Door.door1.line false = true ∧ s.node.state = .running ∧ s.air.source = .fresh ∧ 1 ≤ s.params.doorsFitted ∧
     s.input.slow.door2.accepted = some false) ∧
    (let s := sourced .pressurize |> accepted .door2 false
     s.accepts Door.door2.line true = true ∧ s.params.doorsFitted = 2 ∧ s.node.state = .running ∧ s.air.source = .pressurize) ∧
    (live .sleep).accepts Door.door1.line false = true := by decide

theorem witness_AirTimersEnd : ((sourced .pressurize).sourceLaws ∧ (sourced .pressurize).air.boost.isRunning = true) ∧
    ((sourced .purge).sourceLaws ∧ (sourced .purge).air.purge.isRunning = true) ∧
    (let s := (live .running).mapAir fun a => { a with lockout := .running 0, minOn := .running 0, minOff := .running 0 }
     s.air.lockout.isRunning = true ∧ s.air.minOn.isRunning = true ∧ s.air.minOff.isRunning = true) ∧
    (let s := (live .running).mapAir fun a =>
      { a with overrides := { Overrides.none with level := some 8 }, overrideTimer := .running 0 }
     s.overrideLaws ∧ s.air.overrideTimer.isRunning = true) := by
  refine ⟨⟨by decide, by decide⟩, ⟨by decide, by decide⟩, by decide, by decide⟩

theorem witness_PanelArrivalTaken : ((live .running).Inv ∧ (live .running).node.state.receives = true ∧
      (live .running).node.state = .running) ∧
    (live .listening).Inv ∧ (live .listening).node.state.receives = true ∧ (live .listening).node.state ≠ .running :=
  ⟨⟨inv_running, by decide⟩, inv_of_check _ (by decide), by decide⟩

theorem witness_TemperatureOfSample : 0 < 1 ∧ tempValid 400 8000 = true ∧ tempValid 7600 8000 = true := by decide

theorem witness_SensorEdgesSampled :
    ((State.reset.input.slow.get .ocClu).accepted = none ∧ ((live .running).input.slow.get .door1).accepted = some true ∧
      (State.reset.input.fast.get .smkCab).accepted = none ∧ fastEvent 0 .smkCab true = some (.smokeEdge .cab true 0) ∧
      State.reset.input.captureTimer = 0 ∧ (1 : BitVec 16) ≠ State.reset.input.captureTimer ∧
      FastInput.smkCab ∉ [FastInput.tach, .hallFrs, .hallBld]) ∧
    (∀ b : Bool, ((live .running |> seen .tempCab b).input.fast.get TempInput.cab.line).accepted = some b ∧
      ((live .running |> seen .smkCab !b).input.fast.get SmokeInput.cab.line).accepted = some !b) ∧
    (∀ us ∈ [19999, 20000], ((begun us).input.fast.get TempInput.cab.line).accepted = some true ∧
      (begun us).input.sensors.cabTemp.edgeTimeout.due 20000 = decide (us = 20000)) ∧
    ((((live .running).mapSensor .cabTemp fun e => { e with edgeTimeout := .running 0 }).input.sensors.get
      .cabTemp).edgeTimeout).isRunning = true := by decide

theorem witness_WindowCloseSettles : ((live .running |> seen .tach true).input.fast.get .tach).accepted ≠ none ∧
    ((live .running).mapInput fun i => { i with windowTimer := .running 0 }).input.windowTimer.isRunning = true ∧
    (live .running).params.fitted .cabSmoke = true := by decide

theorem witness_TripsCutOff : ((live .running).Inv ∧ (live .running).accepts Channel.blower.line true = true ∧
      ((live .running).drive.channel .blower).driving = false) ∧
    ((blowing 2).Inv ∧ (blowing 2).accepts Channel.blower.line true = true ∧ ((blowing 2).drive.channel .blower).driving = true ∧
      ((blowing 2).drive.channel .blower).trips = 2) ∧
    (let s := { blowing 2 with drive := { (blowing 2).drive with stall := .running 0 } }
     s.Inv ∧ s.drive.stall.isRunning = true ∧ s.drive.blower.state = .running ∧ s.drive.blower.trips = 2) :=
  ⟨⟨inv_running, by decide⟩, ⟨inv_blowing 2, by decide⟩, inv_of_check _ (by decide), by decide⟩

/-- The blower stopped by a trip: in Cooldown, or Locked. -/
def tripped (locked : Bool) : State :=
  let s := blowing 0
  active (if locked then 0x088000#24 else 0x008000#24)
    { s with drive := { s.drive with
      duty := 0, stages := 0, heater := (live .running).drive.heater
      blower := ⟨if locked then .locked else .cooldown, if locked then 3 else 1, .stopped,
        if locked then .stopped else .running 0⟩ } }

theorem witness_ChannelsRecover : (live .running |> accepted .ocHtr true).accepts Channel.heater.line false = true ∧
    ((tripped false).Inv ∧ ((tripped false).drive.channel .blower).state = .cooldown ∧
      ((tripped false).drive.channel .blower).cooldown.isRunning = true) ∧
    ((tripped false |> accepted .ocBlw true).Inv ∧ (tripped false |> accepted .ocBlw true).overCurrent .blower = true) ∧
    (tripped true).Inv ∧ (tripped true).node.state.receives = true ∧ ((tripped true).drive.channel .blower).state = .locked :=
  ⟨by decide, ⟨inv_of_check _ (by decide), by decide⟩, ⟨inv_of_check _ (by decide), by decide⟩, inv_of_check _ (by decide),
    by decide⟩

/-- The blower ramping. -/
def ramping : State := { blowing 0 with drive := { (blowing 0).drive with ramp := .running 0 } }

theorem witness_RampAndCleanRun : (ramping.Inv ∧ ramping.drive.ramp.isRunning = true ∧ ramping.drive.blower.driving = true ∧
      ramping.drive.heater.state = .running) ∧
    (ramping.drive.channel .blower).cleanRun.isRunning = true :=
  ⟨⟨inv_of_check _ (by decide), by decide⟩, by decide⟩

theorem witness_HallEdgeMoves : (live .running |> seen .hallFrs false).mayHand ∧
    ((live .running |> seen .hallFrs false).input.fast.get Damper.fresh.line).accepted ≠ none ∧
    ((live .running |> withFresh fun a => { a with state := .moving, drive := some .towardFull, target := 3 }).drive.actuator
      .fresh).drive.isSome = true ∧
    (∀ us ∈ [0, 99999, 100000],
      let a := (live .running |> withFresh fun a =>
        { a with state := .idle, coast := .running us, target := 400 }).drive.actuator .fresh
      (a.coast.isRunning && !a.coast.due 100000) = decide (us ≠ 100000)) := by decide

/-- The fresh actuator moving toward 0 from a position. -/
def moving (k : ActuatorState) (position stalls : Nat) : State :=
  live .running |> withFresh fun a =>
    { a with
      state := k, drive := some .towardZero, position := position, stalls := stalls, stallTimer := .running 0
      homing := .running 0 }

theorem witness_StallsAndHoming : ∀ k ∈ [ActuatorState.homing, .moving], ∀ p ∈ [20, 21], ∀ n ∈ [0, 1],
    (moving k p n).mayHand ∧ ((moving k p n).drive.actuator .fresh).drive.isSome = true ∧
    ((moving k p n).drive.actuator .fresh).stallTimer.isRunning = true ∧
    ((moving k p n).drive.actuator .fresh).homing.isRunning = true ∧ ((moving k p n).drive.actuator .fresh).state = k := by
  decide

/-- The fresh actuator waiting in Reversing or Stalled. -/
def waiting (k : ActuatorState) : State :=
  { live .running with drive := { (live .running).drive with
    plan := ⟨false, false, 0, 0⟩
    fresh := { (live .running).drive.fresh with state := k, reversal := .running 0, retry := .running 0, coast := .running 0 } } }

theorem witness_ActuatorTimersEnd : (waiting .reversing).mayHand ∧ (waiting .reversing).node.state ≠ .sleep ∧
    ((waiting .reversing).drive.actuator .fresh).coast.isRunning = true ∧
    (((waiting .reversing).drive.actuator .fresh).state = .reversing ∧
      ((waiting .reversing).drive.actuator .fresh).reversal.isRunning = true ∧ (waiting .reversing).drive.plan.held = false) ∧
    ((waiting .stalled).drive.actuator .fresh).state = .stalled ∧
    ((waiting .stalled).drive.actuator .fresh).retry.isRunning = true := by decide

theorem witness_RehomeStartsHoming : (waiting .failed).node.state.receives = true ∧ (waiting .failed).drive.plan.held = false ∧
    (live .running).drive.plan.held = true := by decide

theorem witness_ConditionArises : inSet (live .supplyLow).cond.active .supplyLow = true ∧
    inSet (live .running).cond.active .purgeTimeout = false := by decide

/-- Running, with a report in its slot and on the line. -/
def reporting : State := sending (.report ⟨0, 0, 0, false, false⟩) false |> withLine fun l =>
  { l with reportSlot := some ⟨0, 0, 0, false, false⟩ }

theorem witness_ConditionRequests : (live .running).Inv ∧ (live .running).node.state.receives = true ∧
    (let s := (live .running).mapCond fun u => { u with frozen := true, autoRelease := .running 0 }
     s.cond.frozen = true ∧ s.cond.autoRelease.isRunning = true) ∧
    reporting.Inv ∧ reporting.line.onLine = some ⟨.report ⟨0, 0, 0, false, false⟩, false, false⟩ :=
  ⟨inv_running, by decide, by decide, inv_of_check _ (by decide), by decide⟩

/-- A step from a state that meets the invariant to a next state, for the statements about every step. -/
theorem witness_step : ∃ s t : State, s.Inv ∧ step s = .next t :=
  ⟨{ live .running with pending := [.minimumOnExpiry] }, _, inv_of_check _ (by decide), rfl⟩

theorem witness_TakeLawsKept : ∃ s t : State, s.Inv ∧ step s = .next t ∧ t.line.isolated = false ∧
    s.share.applied ≤ s.share.lastCompleted :=
  ⟨{ live .running with pending := [.minimumOnExpiry] }, _, inv_of_check _ (by decide), rfl, by decide⟩
theorem witness_OutputsWithinTakeKept : ∃ t : State, (blowing 0).Inv ∧ step { blowing 0 with pending := [.shareExpiry] } = .next t :=
  ⟨_, inv_blowing 0, rfl⟩
theorem witness_ConditionsFollowOwnersKept : ∃ s t : State, s.Inv ∧ step s = .next t := witness_step
theorem witness_WaitingDemandCurrentKept : ∃ t : State, reporting.Inv ∧ reporting.line.onLine.isSome = true ∧
    step { reporting with pending := [.conditionRead] } = .next t := ⟨_, inv_of_check _ (by decide), by decide, rfl⟩
theorem witness_AirTravelAndSampleLawsKept :
    ∃ t : State, (begun 20000).Inv ∧ step { begun 20000 with pending := [.temperatureEdge .cab false 20000] } = .next t :=
  ⟨_, inv_of_check _ (by decide), rfl⟩

end Sys2Proof.Tests
end

section
/-! What the owners of conditions, the Drive Unit's acts and the Air Unit's work leave of the Line Interface and of the active set:
of the Line Interface they write the B change owed mark alone, and of the conditions each act's own. -/

namespace Sys2Proof.Machine

/-! ### The active set -/

@[simp] theorem State.raise_active (c d : Condition) (s : State) :
    inSet (s.raise c).cond.active d = (inSet s.cond.active d || decide (d = c)) := by
  have arisen : (s.cond.arise c).active = s.cond.active ||| c.single := by
    unfold ConditionUnit.arise; dsimp only; (repeat' split) <;> rfl
  rw [State.raise_cond]
  split
  next h =>
    by_cases e : d = c
    · subst e; simp [h]
    · simp [e]
  next => rw [arisen, inSet_or_single]

@[simp] theorem State.lower_active (c d : Condition) (s : State) :
    inSet (s.lower c).cond.active d = (inSet s.cond.active d && !decide (d = c)) := by
  rw [State.lower_cond]
  split
  next => exact inSet_and_not_single _ _ _
  next h =>
    by_cases e : d = c
    · subst e; simp [h]
    · simp [e]

@[simp] theorem State.setCond_active (b : Bool) (c d : Condition) (s : State) :
    inSet (s.setCond b c).cond.active d = if d = c then b else inSet s.cond.active d := by
  unfold State.setCond
  by_cases e : d = c <;> cases b <;> simp [e]

/-- What an owner makes of the Condition Unit rests on the Condition Unit alone. -/
theorem State.setCond_cond_congr {s t : State} (h : t.cond = s.cond) (b : Bool) (c : Condition) :
    (t.setCond b c).cond = (s.setCond b c).cond := by
  unfold State.setCond
  cases b <;> simp [State.raise_cond, State.lower_cond, h]

/-- The conditions the Drive Unit's acts write: the trips, the blower's stall and the lock of its channels, and the stalls of its
dampers (Table 11-1). -/
def Condition.ofDrive : Condition → Bool
  | .blowerTrip => true
  | .blowerStall => true
  | .heaterTrip => true
  | .clutchTrip => true
  | .channelLocked => true
  | .freshDamperStall => true
  | .blendDamperStall => true
  | _ => false

theorem Condition.ne_of_ofDrive {c d : Condition} (hd : d.ofDrive = false) (hc : c.ofDrive = true) : d ≠ c := by
  rintro rfl
  exact Bool.false_ne_true (hd.symm.trans hc)

theorem TripCause.condition_ofDrive (k : TripCause) (c : Channel) : (k.condition c).ofDrive = true := by
  cases k <;> cases c <;> rfl

theorem Damper.stallCondition_ofDrive (x : Damper) : x.stallCondition.ofDrive = true := by cases x <;> rfl

/-! ### The Line Interface beside its mark -/

/-- The Line Interface without its B change owed mark, which is all that a change of the active count writes there (R9). -/
def LineInterface.unmarked (l : LineInterface) : LineInterface := { l with bChangeOwed := false }

/-- Two Line Interfaces alike beside the mark differ in the mark alone. -/
theorem LineInterface.eq_of_unmarked {l m : LineInterface} (h : m.unmarked = l.unmarked) :
    m = { l with bChangeOwed := m.bChangeOwed } := by
  cases l; cases m
  simp only [LineInterface.unmarked, LineInterface.mk.injEq] at h ⊢
  simp [h]

theorem LineInterface.sameOutsideSlots_of_unmarked {l m : LineInterface} (h : m.unmarked = l.unmarked) :
    l.sameOutsideSlots m := by
  rw [LineInterface.eq_of_unmarked h]; exact ⟨rfl, rfl⟩

@[simp] theorem State.countChanged_unmarked (s : State) : s.countChanged.line.unmarked = s.line.unmarked := by
  rw [State.countChanged_line]; rfl

@[simp] theorem State.raise_unmarked (c : Condition) (s : State) : (s.raise c).line.unmarked = s.line.unmarked := by
  rw [State.raise_line]; rfl

@[simp] theorem State.lower_unmarked (c : Condition) (s : State) : (s.lower c).line.unmarked = s.line.unmarked := by
  rw [State.lower_line]; rfl

@[simp] theorem State.setCond_unmarked (b : Bool) (c : Condition) (s : State) :
    (s.setCond b c).line.unmarked = s.line.unmarked := by
  rw [State.setCond_line]; rfl

/-! ### The channels -/

@[simp] theorem State.tripChannel_unmarked (c : Channel) (k : TripCause) (s : State) :
    (s.tripChannel c k).line.unmarked = s.line.unmarked := by
  unfold State.tripChannel State.when; dsimp only; (repeat' split) <;> simp

@[simp] theorem State.tripChannel_active_of_other (c : Channel) (k : TripCause) (s : State) {d : Condition}
    (hd : d.ofDrive = false) : inSet (s.tripChannel c k).cond.active d = inSet s.cond.active d := by
  have cause := Condition.ne_of_ofDrive hd (k.condition_ofDrive c)
  have lock : d ≠ .channelLocked := Condition.ne_of_ofDrive hd rfl
  unfold State.tripChannel State.when; dsimp only; (repeat' split) <;> simp [cause, lock]

@[simp] theorem State.blowerTakesPlan_unmarked (s : State) : s.blowerTakesPlan.line.unmarked = s.line.unmarked := by
  unfold State.blowerTakesPlan; (repeat' split) <;> simp

@[simp] theorem State.blowerTakesPlan_active_of_other (s : State) {d : Condition} (hd : d.ofDrive = false) :
    inSet s.blowerTakesPlan.cond.active d = inSet s.cond.active d := by
  unfold State.blowerTakesPlan; (repeat' split) <;> simp [hd]

@[simp] theorem State.settleHeater_unmarked (s : State) : s.settleHeater.line.unmarked = s.line.unmarked := by
  unfold State.settleHeater; dsimp only; (repeat' split) <;> simp

@[simp] theorem State.settleHeater_active_of_other (s : State) {d : Condition} (hd : d.ofDrive = false) :
    inSet s.settleHeater.cond.active d = inSet s.cond.active d := by
  unfold State.settleHeater; dsimp only; (repeat' split) <;> simp [hd]

@[simp] theorem State.clutchTakesPlan_unmarked (s : State) : s.clutchTakesPlan.line.unmarked = s.line.unmarked := by
  unfold State.clutchTakesPlan; (repeat' split) <;> simp

@[simp] theorem State.clutchTakesPlan_active_of_other (s : State) {d : Condition} (hd : d.ofDrive = false) :
    inSet s.clutchTakesPlan.cond.active d = inSet s.cond.active d := by
  unfold State.clutchTakesPlan; (repeat' split) <;> simp [hd]

@[simp] theorem State.channelsTakePlan_unmarked (s : State) : s.channelsTakePlan.line.unmarked = s.line.unmarked := by
  simp [State.channelsTakePlan]

@[simp] theorem State.channelsTakePlan_active_of_other (s : State) {d : Condition} (hd : d.ofDrive = false) :
    inSet s.channelsTakePlan.cond.active d = inSet s.cond.active d := by
  simp [State.channelsTakePlan, hd]

@[simp] theorem State.channelTakesPlan_unmarked (c : Channel) (s : State) :
    (State.channelTakesPlan c s).line.unmarked = s.line.unmarked := by
  cases c <;> simp [State.channelTakesPlan]

@[simp] theorem State.channelTakesPlan_active_of_other (c : Channel) (s : State) {d : Condition} (hd : d.ofDrive = false) :
    inSet (State.channelTakesPlan c s).cond.active d = inSet s.cond.active d := by
  cases c <;> simp [State.channelTakesPlan, hd]

@[simp] theorem State.trip_unmarked (c : Channel) (k : TripCause) (s : State) :
    (s.trip c k).line.unmarked = s.line.unmarked := by
  simp [State.trip]

@[simp] theorem State.endTrip_unmarked (c : Channel) (s : State) : (State.endTrip c s).line.unmarked = s.line.unmarked := by
  cases c <;> simp [State.endTrip]

@[simp] theorem State.endTrip_active_of_other (c : Channel) (s : State) {d : Condition} (hd : d.ofDrive = false) :
    inSet (State.endTrip c s).cond.active d = inSet s.cond.active d := by
  have ne := fun {c : Condition} => Condition.ne_of_ofDrive (c := c) hd
  cases c <;> simp [State.endTrip, ne (c := .blowerTrip) rfl, ne (c := .blowerStall) rfl, ne (c := .heaterTrip) rfl,
    ne (c := .clutchTrip) rfl]

@[simp] theorem State.channelEntersOff_unmarked (c : Channel) (s : State) :
    (s.channelEntersOff c).line.unmarked = s.line.unmarked := by
  unfold State.channelEntersOff State.when; dsimp only; split <;> simp

@[simp] theorem State.channelEntersOff_active_of_other (c : Channel) (s : State) {d : Condition} (hd : d.ofDrive = false) :
    inSet (s.channelEntersOff c).cond.active d = inSet s.cond.active d := by
  have lock : d ≠ .channelLocked := Condition.ne_of_ofDrive hd rfl
  unfold State.channelEntersOff State.when; dsimp only; split <;> simp [hd, lock]

@[simp] theorem State.unlockChannel_unmarked (c : Channel) (s : State) :
    (s.unlockChannel c).line.unmarked = s.line.unmarked := by
  unfold State.unlockChannel; split <;> simp

@[simp] theorem State.unlockChannel_active_of_other (c : Channel) (s : State) {d : Condition} (hd : d.ofDrive = false) :
    inSet (s.unlockChannel c).cond.active d = inSet s.cond.active d := by
  unfold State.unlockChannel; split <;> simp [hd]

/-! ### The actuators, the plans and the take -/

@[simp] theorem State.applyActuator_unmarked (x : Damper) (r : ActuatorStep) (s : State) :
    (s.applyActuator x r).line.unmarked = s.line.unmarked := by
  unfold State.applyActuator; dsimp only; split <;> simp

@[simp] theorem State.applyActuator_active_of_other (x : Damper) (r : ActuatorStep) (s : State) {d : Condition}
    (hd : d.ofDrive = false) : inSet (s.applyActuator x r).cond.active d = inSet s.cond.active d := by
  have stall := Condition.ne_of_ofDrive hd x.stallCondition_ofDrive
  unfold State.applyActuator; dsimp only; split <;> simp [stall]

@[simp] theorem State.handTarget_unmarked (x : Damper) (v : Nat) (s : State) :
    (s.handTarget x v).line.unmarked = s.line.unmarked := by
  simp [State.handTarget]

@[simp] theorem State.handTarget_active_of_other (x : Damper) (v : Nat) (s : State) {d : Condition} (hd : d.ofDrive = false) :
    inSet (s.handTarget x v).cond.active d = inSet s.cond.active d := by
  simp [State.handTarget, hd]

@[simp] theorem State.actuatorTakesPlan_unmarked (x : Damper) (s : State) :
    (s.actuatorTakesPlan x).line.unmarked = s.line.unmarked := by
  simp [State.actuatorTakesPlan]

@[simp] theorem State.actuatorTakesPlan_active_of_other (x : Damper) (s : State) {d : Condition} (hd : d.ofDrive = false) :
    inSet (s.actuatorTakesPlan x).cond.active d = inSet s.cond.active d := by
  simp [State.actuatorTakesPlan, hd]

@[simp] theorem State.handPlan_unmarked (q : Plan) (s : State) : (s.handPlan q).line.unmarked = s.line.unmarked := by
  simp [State.handPlan]

@[simp] theorem State.handPlan_active_of_other (q : Plan) (s : State) {d : Condition} (hd : d.ofDrive = false) :
    inSet (s.handPlan q).cond.active d = inSet s.cond.active d := by
  simp [State.handPlan, hd]

@[simp] theorem State.makePlan_unmarked (s : State) : s.makePlan.line.unmarked = s.line.unmarked := by
  simp [State.makePlan]

@[simp] theorem State.makePlan_active_of_other (s : State) {d : Condition} (hd : d.ofDrive = false) :
    inSet s.makePlan.cond.active d = inSet s.cond.active d := by
  simp [State.makePlan, hd]

@[simp] theorem State.changeTake_unmarked (f : ShareUnit → ShareUnit) (s : State) :
    (s.changeTake f).line.unmarked = s.line.unmarked := by
  unfold State.changeTake; dsimp only; split <;> simp

@[simp] theorem State.changeTake_active_of_other (f : ShareUnit → ShareUnit) (s : State) {d : Condition}
    (hd : d.ofDrive = false) : inSet (s.changeTake f).cond.active d = inSet s.cond.active d := by
  unfold State.changeTake; dsimp only; split <;> simp [hd]

/-! ### The Air Unit, the inputs and the node -/

@[simp] theorem State.settleSmoke_unmarked (s : State) : s.settleSmoke.line.unmarked = s.line.unmarked := by
  simp [State.settleSmoke]

@[simp] theorem State.settleFresh_unmarked (s : State) : s.settleFresh.line.unmarked = s.line.unmarked := by
  simp [State.settleFresh]

@[simp] theorem State.settleFresh_active_of_other (s : State) {d : Condition} (hd : d.ofDrive = false) :
    inSet s.settleFresh.cond.active d = inSet s.cond.active d := by
  simp [State.settleFresh, hd]

@[simp] theorem State.sourceChanged_unmarked (s : State) : s.sourceChanged.line.unmarked = s.line.unmarked := by
  simp [State.sourceChanged, State.composeClass]

@[simp] theorem State.sourceChanged_node (s : State) : s.sourceChanged.node = s.node := by
  simp [State.sourceChanged, State.composeClass]

@[simp] theorem State.airStages_unmarked (s : State) : s.airStages.line.unmarked = s.line.unmarked := by
  simp [State.airStages, State.settleCause, State.runSource, State.settleDefrost, State.composeClass]

@[simp] theorem State.airWants_unmarked (found : Bool) (s : State) : (s.airWants found).line.unmarked = s.line.unmarked := by
  simp [State.airWants, State.settleDischarge, State.settleBlend, State.settleHeaterWant, State.settleBlower, State.settleCooling,
    State.settleHolder, State.settleClutch, State.settleCoolingUnavailable, State.composeRequest]

@[simp] theorem State.airWork_unmarked (s : State) : s.airWork.line.unmarked = s.line.unmarked := by
  simp [State.airWork]

@[simp] theorem State.leaveRunning_unmarked (n : NodeState) (s : State) :
    (s.leaveRunning n).line.unmarked = s.line.unmarked := by
  simp [State.leaveRunning, State.composeClass]

@[simp] theorem State.leaveRunning_node (n : NodeState) (s : State) : (s.leaveRunning n).node = { s.node with state := n } := by
  simp [State.leaveRunning, State.composeClass]

@[simp] theorem State.mapSensor_line (x : Sensor) (f : SensorEntry → SensorEntry) (s : State) :
    (s.mapSensor x f).line = s.line := rfl

@[simp] theorem State.mapSensor_node (x : Sensor) (f : SensorEntry → SensorEntry) (s : State) :
    (s.mapSensor x f).node = s.node := rfl

@[simp] theorem State.closeSensor_unmarked (x : Sensor) (s : State) : (s.closeSensor x).line.unmarked = s.line.unmarked := by
  unfold State.closeSensor; dsimp only; split <;> simp

@[simp] theorem State.closeSensor_node (x : Sensor) (s : State) : (s.closeSensor x).node = s.node := by
  unfold State.closeSensor; dsimp only; split <;> simp

@[simp] theorem State.closeSensors_unmarked (s : State) : s.closeSensors.line.unmarked = s.line.unmarked := by
  simp [State.closeSensors, allSensors]

@[simp] theorem State.closeSensors_node (s : State) : s.closeSensors.node = s.node := by
  simp [State.closeSensors, allSensors]

@[simp] theorem State.handTach_line (s : State) : s.handTach.line = s.line := by
  unfold State.handTach; split <;> rfl

@[simp] theorem State.handTach_node (s : State) : s.handTach.node = s.node := by
  unfold State.handTach; split <;> rfl

@[simp] theorem State.lowerSensorFaults_unmarked (s : State) : s.lowerSensorFaults.line.unmarked = s.line.unmarked := by
  simp [State.lowerSensorFaults, allSensors]

@[simp] theorem State.lowerAtSleep_unmarked (s : State) : s.lowerAtSleep.line.unmarked = s.line.unmarked := by
  unfold State.lowerAtSleep State.when; dsimp only; split <;> simp

end Sys2Proof.Machine
end

section
/-! The end of an event: when the test of Parking has nothing to do, what the Demand timing and the Status scheduler hand, and what
a handing marks on the line (R5, R7 to R9). -/

namespace Sys2Proof.Machine

/-! ### The offer after a handing -/

theorem OnLine.afterHanding_none (o : OnLine) : o.afterHanding false false false = o := by
  rcases o with ⟨f, r, v⟩
  cases f <;> simp [OnLine.afterHanding]

theorem OnLine.demandReplaced_eq (o : OnLine) : o.demandReplaced = o.afterHanding true false false := by
  rcases o with ⟨f, r, v⟩
  cases f <;> simp [OnLine.afterHanding, OnLine.demandReplaced]

theorem OnLine.statusReplaced_eq (o : OnLine) : o.statusReplaced = o.afterHanding false true false := by
  rcases o with ⟨f, r, v⟩
  cases f <;> simp [OnLine.afterHanding, OnLine.statusReplaced]

theorem OnLine.reportReplaced_eq (o : OnLine) : o.reportReplaced = o.afterHanding false false true := by
  rcases o with ⟨f, r, v⟩
  cases f <;> simp [OnLine.afterHanding, OnLine.reportReplaced]

theorem OnLine.afterHanding_afterHanding (d s r d' s' r' : Bool) (o : OnLine) :
    (o.afterHanding d s r).afterHanding d' s' r' = o.afterHanding (d || d') (s || s') (r || r') := by
  rcases o with ⟨f, b, v⟩
  cases f <;> simp [OnLine.afterHanding, Bool.or_assoc]

theorem OnLine.map_afterHanding_none (o : Option OnLine) : o.map (OnLine.afterHanding false false false) = o := by
  cases o <;> simp [OnLine.afterHanding_none]

/-! ### One handing -/

theorem LineInterface.handDemand_of_listenOnly {l : LineInterface} (h : l.listenOnly = true) (c : Demand) :
    l.handDemand c = l := by
  simp [LineInterface.handDemand, h]

theorem LineInterface.handStatus_of_listenOnly {l : LineInterface} (h : l.listenOnly = true) (f : StatusFrame) :
    l.handStatus f = l := by
  simp [LineInterface.handStatus, h]

/-- A handing to the Demand slot, field by field. -/
theorem LineInterface.handDemand_eq (c : Demand) (l : LineInterface) :
    l.handDemand c = { l with
      demandSlot := if l.listenOnly then l.demandSlot else some c
      onLine := l.onLine.map (OnLine.afterHanding (!l.listenOnly) false false) } := by
  unfold LineInterface.handDemand
  split
  next h => rw [show (!l.listenOnly) = false by simp [h], OnLine.map_afterHanding_none]
  next h => simp [h, funext OnLine.demandReplaced_eq]

/-- A handing to the Status slot, field by field. -/
theorem LineInterface.handStatus_eq (f : StatusFrame) (l : LineInterface) :
    l.handStatus f = { l with
      statusSlot := if l.listenOnly then l.statusSlot else some f
      onLine := l.onLine.map (OnLine.afterHanding false (!l.listenOnly) false) } := by
  unfold LineInterface.handStatus
  split
  next h => rw [show (!l.listenOnly) = false by simp [h], OnLine.map_afterHanding_none]
  next h => simp [h, funext OnLine.statusReplaced_eq]

/-- A handing to the report slot, field by field. -/
theorem LineInterface.handReport_eq (c : Report) (l : LineInterface) :
    l.handReport c = { l with
      reportSlot := if l.listenOnly then l.reportSlot else some c
      onLine := l.onLine.map (OnLine.afterHanding false false (!l.listenOnly)) } := by
  unfold LineInterface.handReport
  split
  next h => rw [show (!l.listenOnly) = false by simp [h], OnLine.map_afterHanding_none]
  next h => simp [h, funext OnLine.reportReplaced_eq]

theorem State.handDemand_line (s : State) : s.handDemand.line = { s.line with
    demandSlot := if s.line.listenOnly then s.line.demandSlot else some (demandContent s)
    onLine := s.line.onLine.map (OnLine.afterHanding (!s.line.listenOnly) false false) } :=
  LineInterface.handDemand_eq _ _

theorem State.handStatusA_line (s : State) : s.handStatusA.line = { s.line with
    statusSlot := if s.line.listenOnly then s.line.statusSlot else some (.a (statusAContent s))
    onLine := s.line.onLine.map (OnLine.afterHanding false (!s.line.listenOnly) false)
    aOwed := false } := by
  simp [State.handStatusA, LineInterface.handStatus_eq]

theorem State.handStatusB_line (s : State) : s.handStatusB.line = { s.line with
    statusSlot := if s.line.listenOnly then s.line.statusSlot else some (.b (statusBContent s))
    onLine := s.line.onLine.map (OnLine.afterHanding false (!s.line.listenOnly) false)
    bOwed := false, bChangeOwed := false } := by
  simp [State.handStatusB, LineInterface.handStatus_eq]

/-! ### What a Demand is filled from -/

/-- The Demand is filled from the configuration, the leaving flag, the Air Unit, the clutch output, the Isolated flag and the take
register. -/
theorem demandContent_congr {s t : State} (params : t.params = s.params) (leaving : t.node.leaving = s.node.leaving)
    (air : t.air = s.air) (drive : t.drive.clutch.state = s.drive.clutch.state) (isolated : t.line.isolated = s.line.isolated)
    (applied : t.share.applied = s.share.applied) (announced : t.share.announced = s.share.announced) :
    demandContent t = demandContent s := by
  simp [demandContent, State.clutchDriven, params, leaving, air, drive, isolated, applied, announced]

/-- Two Line Interfaces alike outside the slots have the same Isolated flag. -/
theorem LineInterface.isolated_of_same {l m : LineInterface} (h : l.sameOutsideSlots m) : m.isolated = l.isolated := by
  rw [h.1]

theorem LineInterface.listenOnly_of_same {l m : LineInterface} (h : l.sameOutsideSlots m) : m.listenOnly = l.listenOnly := by
  rw [h.1]

@[simp] theorem State.handDemand_content (s : State) : demandContent s.handDemand = demandContent s :=
  demandContent_congr (by simp) (by simp) (by simp) (by simp) (LineInterface.isolated_of_same s.handDemand_same) (by simp)
    (by simp)

@[simp] theorem State.settleDemand_content (c : Demand) (s : State) : demandContent (s.settleDemand c) = demandContent s :=
  demandContent_congr (by simp) (by simp) (by simp) (by simp) (LineInterface.isolated_of_same (s.settleDemand_same c)) (by simp)
    (by simp)

@[simp] theorem State.settleStatus_content (s : State) : demandContent s.settleStatus = demandContent s :=
  demandContent_congr (by simp) (by simp) (by simp) (by simp) (LineInterface.isolated_of_same s.settleStatus_same) (by simp)
    (by simp)

/-! ### The Status scheduler -/

/-- The Status scheduler hands when it works and finds a record to hand: a Status A if one is owed, and otherwise a Status B
(R9). -/
theorem State.serveStatus_eq (s : State) : s.serveStatus =
    if s.node.state.speaks && s.line.statusDue then (if s.line.aOwed then s.handStatusA else s.handStatusB) else s := by
  unfold State.serveStatus LineInterface.statusDue
  cases s.node.state.speaks <;> cases s.line.statusSlot.isNone <;> cases s.line.aOwed <;> cases s.line.bOwed <;> simp

theorem State.settleStatus_of_not_due {s : State} (h : (s.node.state.speaks && s.line.statusDue) = false) :
    s.settleStatus = s := by
  have still : s.serveStatus = s := by simp only [s.serveStatus_eq, h, Bool.false_eq_true, if_false]
  rw [State.settleStatus, still, still]

/-- Outside Listen-only the first serving fills the slot, so that the second finds nothing to do. -/
theorem State.settleStatus_of_hearing {s : State} (h : s.line.listenOnly = false) : s.settleStatus = s.serveStatus := by
  by_cases due : (s.node.state.speaks && s.line.statusDue) = true
  · rw [State.settleStatus, s.serveStatus.serveStatus_eq]
    have filled : s.serveStatus.line.statusDue = false := by
      rw [s.serveStatus_eq, if_pos due]
      cases s.line.aOwed <;> simp [LineInterface.statusDue, State.handStatusA_line, State.handStatusB_line, h]
    simp [filled]
  · rw [Bool.not_eq_true] at due
    rw [State.settleStatus_of_not_due due, s.serveStatus_eq, due]
    simp

/-- In Listen-only a serving clears marks alone (R5; log entry 15). -/
theorem State.serveStatus_of_listenOnly {s : State} (h : s.line.listenOnly = true) : s.serveStatus.line = { s.line with
    aOwed := s.serveStatus.line.aOwed, bOwed := s.serveStatus.line.bOwed
    bChangeOwed := s.serveStatus.line.bChangeOwed } := by
  rw [s.serveStatus_eq]
  split
  · split <;> simp only [State.handStatusA, State.handStatusB, State.mapLine_line, LineInterface.handStatus_of_listenOnly h]
  · rfl

theorem State.settleStatus_of_listenOnly {s : State} (h : s.line.listenOnly = true) : s.settleStatus.line = { s.line with
    aOwed := s.settleStatus.line.aOwed, bOwed := s.settleStatus.line.bOwed
    bChangeOwed := s.settleStatus.line.bChangeOwed } := by
  have first := State.serveStatus_of_listenOnly h
  have still : s.serveStatus.line.listenOnly = true := by rw [first]; exact h
  have second := State.serveStatus_of_listenOnly still
  rw [State.settleStatus, second, first]

/-- The slot after the Status scheduler, outside Listen-only. -/
theorem State.settleStatus_statusSlot {s : State} (h : s.line.listenOnly = false) : s.settleStatus.line.statusSlot =
    if s.node.state.speaks && s.line.statusDue then
      some (if s.line.aOwed then .a (statusAContent s) else .b (statusBContent s))
    else s.line.statusSlot := by
  rw [State.settleStatus_of_hearing h, s.serveStatus_eq]
  (repeat' split) <;> simp [State.handStatusA_line, State.handStatusB_line, h]

/-- The offer after the Status scheduler: replaced where a Status record was handed over it. -/
theorem State.settleStatus_onLine (s : State) : s.settleStatus.line.onLine =
    s.line.onLine.map (OnLine.afterHanding false (s.node.state.speaks && s.line.statusDue && !s.line.listenOnly) false) := by
  cases h : s.line.listenOnly with
  | true => rw [State.settleStatus_of_listenOnly h]; simp [OnLine.map_afterHanding_none]
  | false =>
    rw [State.settleStatus_of_hearing h, s.serveStatus_eq]
    split
    next due => split <;> simp [State.handStatusA_line, State.handStatusB_line, h, due]
    next due => simp [due, OnLine.map_afterHanding_none]

@[simp] theorem State.serveStatus_demandSlot (s : State) : s.serveStatus.line.demandSlot = s.line.demandSlot := by
  rw [s.serveStatus_eq]
  (repeat' split) <;> simp [State.handStatusA_line, State.handStatusB_line]

@[simp] theorem State.settleStatus_demandSlot (s : State) : s.settleStatus.line.demandSlot = s.line.demandSlot := by
  simp [State.settleStatus]

/-- A Status frame that waits is left as it is (R9). -/
theorem State.settleStatus_statusSlot_of_some {s : State} (h : s.line.statusSlot ≠ none) :
    s.settleStatus.line.statusSlot = s.line.statusSlot := by
  have full : s.line.statusSlot.isNone = false := Option.isNone_eq_false_iff.2 (Option.isSome_iff_ne_none.2 h)
  rw [State.settleStatus_of_not_due (by simp [LineInterface.statusDue, full])]

/-! ### Frames -/

/-- Two changes in turn change no block but those that either may. -/
theorem State.sameExcept_trans {bs cs : List Block} {s u t : State} (h : s.sameExcept bs u) (k : u.sameExcept cs t)
    (sub : cs ⊆ bs) : s.sameExcept bs t := by
  have link {b : Block} {α : Type} {x y z : α} (h : b ∈ bs ∨ y = x) (k : b ∈ cs ∨ z = y) : b ∈ bs ∨ z = x :=
    h.elim .inl fun e => k.imp (@sub b) fun e' => e'.trans e
  obtain ⟨h1, h2, h3, h4, h5, h6, h7, h8, h9, h10, h11, h12⟩ := h
  obtain ⟨k1, k2, k3, k4, k5, k6, k7, k8, k9, k10, k11, k12⟩ := k
  exact ⟨link h1 k1, link h2 k2, link h3 k3, link h4 k4, link h5 k5, link h6 k6, link h7 k7, link h8 k8, link h9 k9,
    link h10 k10, link h11 k11, link h12 k12⟩

/-! ### When an event's end has nothing to test in Parking -/

/-- The test of Parking does nothing where an event leaves the node in Parking with the fresh actuator in the state it had
(R159). -/
theorem State.settleParking_of_steady {s b : State}
    (h : s.node.state = .parking → b.node.state = .parking ∧ b.drive.fresh.state = s.drive.fresh.state) :
    s.settleParking b = s := by
  by_cases hp : s.node.state = .parking
  · obtain ⟨hb, hf⟩ := h hp
    simp [State.settleParking, hb, hf]
  · exact State.settleParking_of_not_waiting s b (.inl hp)

/-- The end of an event without a test of Parking: the Demand and Status timing alone. -/
theorem State.finish_of_steady {s b : State}
    (h : s.node.state = .parking → b.node.state = .parking ∧ b.drive.fresh.state = s.drive.fresh.state) :
    s.finish b = (s.settleDemand (demandContent b)).settleStatus := by
  rw [State.finish, State.settleParking_of_steady h]

theorem State.finish_steady_frame {s b : State}
    (h : s.node.state = .parking → b.node.state = .parking ∧ b.drive.fresh.state = s.drive.fresh.state) :
    s.sameExcept [.line] (s.finish b) ∧ s.line.sameOutsideSlots (s.finish b).line := by
  rw [State.finish_of_steady h]
  exact ⟨by simp [State.sameExcept],
    LineInterface.sameOutsideSlots_trans (State.settleDemand_same _ s) (State.settleStatus_same _)⟩

theorem State.settleDemand_of_same {s : State} {c : Demand} (h : demandContent s = c) : s.settleDemand c = s := by
  simp [State.settleDemand, h]

/-- An event that changes neither Node Control, the fresh actuator nor the Demand content ends with the Status scheduler alone. -/
theorem State.finish_of_content {s b : State} (node : s.node = b.node) (drive : s.drive = b.drive)
    (content : demandContent s = demandContent b) : s.finish b = s.settleStatus := by
  rw [State.finish_of_steady (by simp [node, drive]), State.settleDemand_of_same content]

end Sys2Proof.Machine
end

section
/-! The slots through an event: what an event may do to them before the Demand and Status timing of its end, and what that timing
makes of it (R4, R5, R7 to R9, R14, R15). -/

namespace Sys2Proof.Machine

/-! ### The laws of the slots and the line -/

/-- The laws of the invariant that speak of the slots, the offer and the line's counts. -/
structure State.LineSound (s : State) : Prop where
  waiting : s.waitingCurrent
  laws : s.lineLaws
  offer : s.offerLaw

theorem State.Inv.lineSound {s : State} (h : s.Inv) : s.LineSound := ⟨h.waiting, h.line, h.offer⟩

/-- Within an event that found `s` nothing has touched a slot or Listen-only before `u`, the offer has at most ended, and `u` works
the slots if `s` does. -/
structure State.Untouched (s u : State) : Prop where
  demandSlot : u.line.demandSlot = s.line.demandSlot
  statusSlot : u.line.statusSlot = s.line.statusSlot
  reportSlot : u.line.reportSlot = s.line.reportSlot
  onLine : u.line.onLine = s.line.onLine ∨ u.line.onLine = none
  listenOnly : u.line.listenOnly = s.line.listenOnly
  isolated : s.line.listenOnly = true → s.line.isolated = true → u.line.isolated = true
  laws : s.lineLaws → u.lineLaws
  speaks : u.node.state.speaks = false → s.node.state.speaks = false

theorem State.Untouched.refl (s : State) : s.Untouched s := ⟨rfl, rfl, rfl, .inl rfl, rfl, fun _ h => h, id, id⟩

theorem State.Untouched.trans {s u v : State} (h : s.Untouched u) (k : u.Untouched v) : s.Untouched v where
  demandSlot := k.demandSlot.trans h.demandSlot
  statusSlot := k.statusSlot.trans h.statusSlot
  reportSlot := k.reportSlot.trans h.reportSlot
  onLine := k.onLine.elim (fun e => h.onLine.imp e.trans e.trans) .inr
  listenOnly := k.listenOnly.trans h.listenOnly
  isolated hl hi := k.isolated (h.listenOnly.trans hl) (h.isolated hl hi)
  laws := k.laws ∘ h.laws
  speaks := h.speaks ∘ k.speaks

/-- What writes no more than the mark in the Line Interface leaves the slots untouched. -/
theorem State.Untouched.of_unmarked {s u : State} (line : u.line.unmarked = s.line.unmarked)
    (speaks : u.node.state.speaks = false → s.node.state.speaks = false) : s.Untouched u := by
  have e := LineInterface.eq_of_unmarked line
  constructor
  case speaks => exact speaks
  case isolated => intro _ h; rw [e]; exact h
  case laws => intro h; rw [State.lineLaws, e]; exact h
  case onLine => exact .inl (by rw [e])
  all_goals rw [e]

/-! ### In the middle of an event -/

/-- What holds of the slots in the middle of an event that found `s`, but for the values of a waiting Demand. -/
structure State.Midway (s u : State) : Prop where
  rests : u.node.state.speaks = false → u.line.demandSlot = none ∧ u.line.statusSlot = none
  silent : u.line.listenOnly = true → u.line.demandSlot = none ∧ u.line.statusSlot = none ∧ u.line.reportSlot = none ∧
    u.line.isolated = true
  laws : u.lineLaws
  offer : u.offerLaw
  kept : s.slotsKept u

/-- A waiting Demand carries the values the event found or the present ones. -/
def State.Waits (s u : State) : Prop :=
  u.line.demandSlot = none ∨ u.line.demandSlot = some (demandContent s) ∨ u.line.demandSlot = some (demandContent u)

/-- From a state that meets the laws, the event that found `s` may have come to `u`. -/
def State.Reached (s u : State) : Prop := s.LineSound → s.Midway u ∧ s.Waits u

theorem State.slotsKept_of_untouched {s u : State} (h : s.Untouched u) : s.slotsKept u := fun _ _ _ =>
  ⟨fun k => .inl (h.demandSlot ▸ k), fun _ => .inl h.statusSlot, fun _ => .inl h.reportSlot⟩

theorem State.Untouched.midway {s u : State} (h : s.Untouched u) (sound : s.LineSound) : s.Midway u where
  rests hu := by rw [h.demandSlot, h.statusSlot]; exact sound.waiting.2.1 (h.speaks hu)
  silent hu := by
    rw [h.listenOnly] at hu
    obtain ⟨hd, hs, hr, hi⟩ := sound.waiting.2.2 hu
    exact ⟨h.demandSlot.trans hd, h.statusSlot.trans hs, h.reportSlot.trans hr, h.isolated hu hi⟩
  laws := h.laws sound.laws
  offer o ho hv := by
    have stands : o.stands s.line = true := by
      rcases h.onLine with e | e
      · exact sound.offer o (e ▸ ho) hv
      · simp [e] at ho
    unfold OnLine.stands at stands ⊢
    rw [h.demandSlot, h.statusSlot, h.reportSlot]
    exact stands
  kept := State.slotsKept_of_untouched h

theorem State.Untouched.reached {s u : State} (h : s.Untouched u) : s.Reached u := fun sound =>
  ⟨h.midway sound, sound.waiting.1.imp h.demandSlot.trans (.inl ∘ h.demandSlot.trans)⟩

/-- What rests on the slots alone goes over to a state with the same Line Interface and conditions in the same node state. -/
theorem State.Midway.congr {s u v : State} (h : s.Midway u) (line : v.line = u.line) (cond : v.cond = u.cond)
    (state : v.node.state = u.node.state) : s.Midway v where
  rests := by rw [state, line]; exact h.rests
  silent := by rw [line]; exact h.silent
  laws := by rw [State.lineLaws, line]; exact h.laws
  offer := by rw [State.offerLaw, line]; exact h.offer
  kept := by
    have k := h.kept
    unfold State.slotsKept at k ⊢
    rw [line, cond, state]
    exact k

/-! ### Handing -/

/-- A slot that keeps its frame, or takes a newer one while the offer is marked, stands for the offer. -/
theorem slot_stands_of_handed {α : Type} [DecidableEq α] {a b : Option α} {c : α} {marked replaced : Bool}
    (h : b = a ∨ marked = true ∧ b.isSome = true) (k : (a.isSome && (replaced || decide (a = some c))) = true) :
    (b.isSome && ((replaced || marked) || decide (b = some c))) = true := by
  rcases h with rfl | ⟨rfl, e⟩
  · simp only [Bool.and_eq_true, Bool.or_eq_true] at k ⊢
    exact ⟨k.1, k.2.imp_left .inl⟩
  · simp [e]

/-- Handing frames keeps the offer standing: a slot that takes a newer frame shows in the offer of its own frame. -/
theorem LineInterface.stands_of_handed {l m : LineInterface} {d t r : Bool}
    (onLine : m.onLine = l.onLine.map (OnLine.afterHanding d t r))
    (demand : m.demandSlot = l.demandSlot ∨ d = true ∧ m.demandSlot.isSome = true)
    (status : m.statusSlot = l.statusSlot ∨ t = true ∧ m.statusSlot.isSome = true)
    (report : m.reportSlot = l.reportSlot ∨ r = true ∧ m.reportSlot.isSome = true)
    (h : ∀ o ∈ l.onLine, o.void = false → o.stands l = true) : ∀ o ∈ m.onLine, o.void = false → o.stands m = true := by
  intro o' ho' hv
  rw [onLine, Option.mem_def, Option.map_eq_some_iff] at ho'
  obtain ⟨o, ho, rfl⟩ := ho'
  have stands := h o ho hv
  rcases o with ⟨f, b, v⟩
  cases f with
  | demand c => exact slot_stands_of_handed demand stands
  | status c => exact slot_stands_of_handed status stands
  | report c => exact slot_stands_of_handed report stands

/-- The slots stay occupied from `u` to `v`, and nothing else changes of what the keeping of the slots rests on. -/
structure State.Later (u v : State) : Prop where
  state : v.node.state = u.node.state
  cond : v.cond = u.cond
  same : u.line.sameOutsideSlots v.line
  demandSlot : u.line.demandSlot ≠ none → v.line.demandSlot ≠ none
  statusSlot : u.line.statusSlot ≠ none → v.line.statusSlot = u.line.statusSlot

theorem LineInterface.lineLaws_of_same {s t : State} (h : s.line.sameOutsideSlots t.line) (k : s.lineLaws) : t.lineLaws := by
  rw [State.lineLaws, h.1]; exact k

/-- An offer that has completed stays completed where the line stays free and the counter as it is. -/
theorem LineInterface.offerCompleted_of_same {l m n : LineInterface} {d t r : Bool} (h : m.sameOutsideSlots n)
    (k : l.offerCompleted d t r m = true) : l.offerCompleted d t r n = true := by
  have free : n.onLine.isNone = m.onLine.isNone := by
    have e := congrArg Option.isNone h.2
    rwa [Option.isNone_map, Option.isNone_map] at e
  have counter : n.faultCounter = m.faultCounter := by rw [h.1]
  simpa only [LineInterface.offerCompleted, free, counter] using k

theorem State.Later.slotsKept {s u v : State} (h : u.Later v) (k : s.slotsKept u) : s.slotsKept v := by
  have timer : v.line.statusTimer = u.line.statusTimer := by rw [h.same.1]
  have report : v.line.reportSlot = u.line.reportSlot := by rw [h.same.1]
  intro hl hs hd
  rw [LineInterface.listenOnly_of_same h.same] at hl
  rw [h.state] at hs hd
  obtain ⟨kd, ks, kr⟩ := k hl hs hd
  refine ⟨fun hn => ?_, fun hn => ?_, fun hn => ?_⟩
  · exact (kd hn).imp h.demandSlot (LineInterface.offerCompleted_of_same h.same)
  · rcases ks hn with e | e | ⟨e, e'⟩
    · exact .inl ((h.statusSlot (e ▸ hn)).trans e)
    · exact .inr (.inl (LineInterface.offerCompleted_of_same h.same e))
    · exact .inr (.inr ⟨h.statusSlot e ▸ e, timer.trans e'⟩)
  · rw [report, h.cond]
    exact (kr hn).imp_right (.imp_left (LineInterface.offerCompleted_of_same h.same))

theorem State.handDemand_later (u : State) : u.Later u.handDemand where
  state := by simp
  cond := by simp
  same := u.handDemand_same
  demandSlot h := by rw [u.handDemand_line]; dsimp only; split <;> simp_all
  statusSlot _ := by rw [u.handDemand_line]

theorem State.settleStatus_later (u : State) : u.Later u.settleStatus where
  state := by simp
  cond := by simp
  same := u.settleStatus_same
  demandSlot h := by simpa using h
  statusSlot h := State.settleStatus_statusSlot_of_some h

theorem State.handDemand_offerLaw {u : State} (h : u.offerLaw) : u.handDemand.offerLaw := by
  refine LineInterface.stands_of_handed (d := !u.line.listenOnly) (t := false) (r := false)
    (by rw [u.handDemand_line]) ?_ (.inl (by rw [u.handDemand_line])) (.inl (by rw [u.handDemand_line])) h
  rw [u.handDemand_line]
  cases u.line.listenOnly <;> simp

theorem State.settleStatus_offerLaw {u : State} (h : u.offerLaw) : u.settleStatus.offerLaw := by
  refine LineInterface.stands_of_handed (d := false) (r := false) (by rw [u.settleStatus_onLine])
    (.inl (by simp)) ?_ (.inl (by rw [u.settleStatus_same.1])) h
  cases hl : u.line.listenOnly with
  | true => rw [State.settleStatus_of_listenOnly hl]; exact .inl rfl
  | false =>
    rw [State.settleStatus_statusSlot hl]
    split <;> simp_all

/-- In Listen-only a handing leaves the Line Interface as it was. -/
theorem State.handDemand_line_of_listenOnly {u : State} (h : u.line.listenOnly = true) : u.handDemand.line = u.line :=
  LineInterface.handDemand_of_listenOnly h _

/-- A Demand handed in the middle of an event waits with the present values, unless Listen-only refuses it. -/
theorem State.Midway.handDemand {s u : State} (h : s.Midway u) (speaks : u.node.state.speaks = true) :
    s.Midway u.handDemand ∧ (u.handDemand.line.demandSlot = none ∨
      u.handDemand.line.demandSlot = some (demandContent u.handDemand)) := by
  refine ⟨?_, ?_⟩
  · constructor
    case rests => simp [speaks]
    case silent =>
      intro hl
      rw [LineInterface.listenOnly_of_same u.handDemand_same] at hl
      rw [State.handDemand_line_of_listenOnly hl]
      exact h.silent hl
    case laws => exact LineInterface.lineLaws_of_same u.handDemand_same h.laws
    case offer => exact State.handDemand_offerLaw h.offer
    case kept => exact u.handDemand_later.slotsKept h.kept
  · cases hl : u.line.listenOnly with
    | true => rw [State.handDemand_line_of_listenOnly hl]; exact .inl (h.silent hl).1
    | false => right; rw [u.handDemand_content, u.handDemand_line]; simp [hl]

/-! ### The end of the event -/

theorem State.Midway.settleStatus {s u : State} (h : s.Midway u) : s.Midway u.settleStatus where
  rests hs := by
    have still : u.settleStatus = u := State.settleStatus_of_not_due (by rw [u.settleStatus_frame.2.1] at hs; simp [hs])
    rw [still] at hs ⊢
    exact h.rests hs
  silent hl := by
    rw [LineInterface.listenOnly_of_same u.settleStatus_same] at hl
    rw [State.settleStatus_of_listenOnly hl]
    exact h.silent hl
  laws := LineInterface.lineLaws_of_same u.settleStatus_same h.laws
  offer := State.settleStatus_offerLaw h.offer
  kept := u.settleStatus_later.slotsKept h.kept

/-- What the Demand timing does at the end of an event: a handing, or nothing where the node does not work, the content is the one
the event found, or no Demand waits (R8). -/
theorem State.settleDemand_cases (c : Demand) (u : State) :
    (u.settleDemand c = u.handDemand ∧ u.node.state.speaks = true) ∨
    (u.settleDemand c = u ∧ (u.node.state.speaks = false ∨ demandContent u = c ∨ u.line.demandSlot = none)) := by
  unfold State.settleDemand
  cases hs : u.node.state.speaks
  · exact .inr ⟨rfl, .inl rfl⟩
  · by_cases hc : demandContent u = c
    · exact .inr ⟨by simp [hc], .inr (.inl hc)⟩
    · cases hd : u.line.demandSlot with
      | none =>
        by_cases hi : (decide (u.line.inhibit = .expired) && (demandContent u).differs u.line.lastDemand) = true
        · exact .inl ⟨by simp_all, rfl⟩
        · exact .inr ⟨by simp_all, .inr (.inr rfl)⟩
      | some d => exact .inl ⟨by simp_all, rfl⟩

/-- After the Demand timing a waiting Demand carries the present values (R8 case 4). -/
theorem State.Midway.settleDemand {s u : State} (h : s.Midway u) (w : s.Waits u) :
    s.Midway (u.settleDemand (demandContent s)) ∧ ((u.settleDemand (demandContent s)).line.demandSlot = none ∨
      (u.settleDemand (demandContent s)).line.demandSlot = some (demandContent (u.settleDemand (demandContent s)))) := by
  rcases u.settleDemand_cases (demandContent s) with ⟨e, speaks⟩ | ⟨e, why⟩
  · rw [e]; exact h.handDemand speaks
  · rw [e]
    refine ⟨h, ?_⟩
    rcases why with hs | hc | hn
    · exact .inl (h.rests hs).1
    · rcases w with w | w | w
      · exact .inl w
      · exact .inr (hc ▸ w)
      · exact .inr w
    · exact .inl hn

/-- The Line Interface at the entry into Sleep: the marks that the conditions ending there leave are cleared with the rest. -/
theorem State.enterSleep_line (u : State) : u.enterSleep.line = u.line.sleep := by
  have before : (((u.lowerAtSleep.mapNode NodeControl.sleep).mapDrive fun d =>
      { d with plan := d.plan.sleep }).channelsTakePlan).line.unmarked = u.line.unmarked := by simp
  have after := congrArg LineInterface.sleep before
  exact after

theorem State.enterSleep_state (u : State) : u.enterSleep.node.state = .sleep := by
  simp [State.enterSleep, NodeControl.sleep]

/-- An entry into Sleep empties the slots and the line. -/
theorem State.enterSleep_reached (s : State) {u : State} (h : u.line.listenOnly = true → u.line.isolated = true) :
    s.Midway u.enterSleep ∧ s.Waits u.enterSleep := by
  have line := u.enterSleep_line
  refine ⟨?_, .inl (by rw [line]; rfl)⟩
  constructor
  case rests => rw [line]; exact fun _ => ⟨rfl, rfl⟩
  case silent => rw [line]; exact fun hl => ⟨rfl, rfl, rfl, by simp [LineInterface.sleep, h hl, show u.line.listenOnly = true from hl]⟩
  case laws => rw [State.lineLaws, line]; simp [LineInterface.sleep]
  case offer => rw [State.offerLaw, line]; simp [LineInterface.sleep]
  case kept => exact fun _ hs => absurd u.enterSleep_state hs

/-- The end of the wait of Parking hands the leaving Demand, or in Listen-only sends the node to Sleep (R159). -/
theorem State.Midway.beginLeaving {s u : State} (h : s.Midway u) (speaks : u.node.state.speaks = true) :
    s.Midway u.beginLeaving ∧ s.Waits u.beginLeaving := by
  unfold State.beginLeaving
  dsimp only
  split
  next hl => exact State.enterSleep_reached s fun _ => (h.silent hl).2.2.2
  next =>
    have handed := (h.congr (v := (u.mapNode fun n => { n with leaving := true }).mapNode fun n =>
      { n with leavingTimer := Timer.start }) rfl rfl rfl).handDemand speaks
    exact ⟨handed.1, handed.2.imp_right .inr⟩

theorem State.Midway.settleParking {s u : State} (h : s.Midway u) (w : s.Waits u) (b : State) :
    s.Midway (u.settleParking b) ∧ s.Waits (u.settleParking b) := by
  unfold State.settleParking
  split
  next hp =>
    have speaks : u.node.state.speaks = true := by
      simp only [Bool.and_eq_true, decide_eq_true_eq] at hp
      rw [hp.1.1.1]; rfl
    exact h.beginLeaving speaks
  next => exact ⟨h, w⟩

/-- An event that keeps the slots up to its end keeps them through the Demand and Status timing, and leaves a waiting Demand with the
present values. -/
theorem State.Midway.finish {s u : State} (h : s.Midway u) (w : s.Waits u) :
    (u.finish s).LineSound ∧ s.slotsKept (u.finish s) := by
  obtain ⟨hp, wp⟩ := h.settleParking w s
  obtain ⟨hd, wd⟩ := hp.settleDemand wp
  have hf : s.Midway (u.finish s) := hd.settleStatus
  have wf : (u.finish s).line.demandSlot = none ∨ (u.finish s).line.demandSlot = some (demandContent (u.finish s)) := by
    simpa [State.finish] using wd
  exact ⟨⟨⟨wf, hf.rests, hf.silent⟩, hf.laws, hf.offer⟩, hf.kept⟩

/-- An event that ends without the Demand and Status timing has left the content as it was, or the node out of work. -/
theorem State.Midway.sound {s u : State} (h : s.Midway u) (w : s.Waits u)
    (still : demandContent u = demandContent s ∨ u.node.state.speaks = false) : u.LineSound ∧ s.slotsKept u := by
  refine ⟨⟨⟨?_, h.rests, h.silent⟩, h.laws, h.offer⟩, h.kept⟩
  rcases still with e | e
  · rcases w with w | w | w
    · exact .inl w
    · exact .inr (e ▸ w)
    · exact .inr w
  · exact .inl (h.rests e).1

end Sys2Proof.Machine
end

section
/-! What each command answers, as far as the slots go: an event that keeps them up to its end and then ends with the Demand and
Status timing, or one that ends without that timing and leaves the Demand content as it was. -/

namespace Sys2Proof.Machine

/-! ### Events -/

/-- A command's answer: the end of an event that has kept the slots, or, without the Demand and Status timing, a state with the
Demand content the event found or with the node out of work. -/
def State.Answered (s : State) (o : Host.Outcome State Fault Refusal) : Prop :=
  ∃ u, s.Reached u ∧
    (o = .next (u.finish s) ∨ o = .next u ∧ (demandContent u = demandContent s ∨ u.node.state.speaks = false))

theorem State.Reached.answered {s u : State} (h : s.Reached u) : s.Answered (.next (u.finish s)) := ⟨u, h, .inl rfl⟩

theorem State.Reached.answered_quietly {s u : State} (h : s.Reached u) (content : demandContent u = demandContent s) :
    s.Answered (.next u) := ⟨u, h, .inr ⟨rfl, .inl content⟩⟩

theorem State.answered_unchanged (s : State) : s.Answered (.next s) :=
  (State.Untouched.refl s).reached.answered_quietly rfl

/-- An event that may not be under way. -/
theorem State.answered_ite {s u : State} {p : Prop} [Decidable p] (h : p → s.Answered (.next u)) :
    s.Answered (.next (if p then u else s)) := by
  split
  next hp => exact h hp
  next => exact s.answered_unchanged

/-- An event that writes no more than the mark in the Line Interface and leaves Node Control alone. -/
theorem State.answered_of_unmarked {s u : State} (line : u.line.unmarked = s.line.unmarked) (node : u.node = s.node) :
    s.Answered (.next (u.finish s)) :=
  (State.Untouched.of_unmarked line (by rw [node]; exact id)).reached.answered

/-- A command that changes nothing the Demand is filled from, and nothing of the line. -/
theorem State.answered_of_line {s u : State} (line : u.line = s.line) (node : u.node = s.node)
    (content : demandContent u = demandContent s) : s.Answered (.next u) :=
  (State.Untouched.of_unmarked (by rw [line]) (by rw [node]; exact id)).reached.answered_quietly content

theorem State.reached_when {s u : State} {b : Bool} {f : State → State} (h : s.Reached u) (k : b = true → s.Reached (f u)) :
    s.Reached (u.when b f) := by
  cases b with
  | false => exact h
  | true => exact k rfl

/-- A level commanded on a slow line. -/
theorem State.answered_onSlowEvent {s : State} {l : SlowLine} {b : Bool} {f : State → State} (h : s.Reached (f (s.accept l b))) :
    s.Answered (.next (s.onSlowEvent l b f)) := by
  rcases s.onSlowEvent_cases l b f with ⟨-, e⟩ | ⟨-, e⟩ | ⟨-, e⟩ <;> rw [e]
  · exact h.answered
  · exact State.answered_of_line (by simp) (by simp) (demandContent_congr (by simp) (by simp) (by simp) (by simp) (by simp)
      (by simp) (by simp))
  · exact s.answered_unchanged

/-- An event on a slow line that writes no more than the mark in the Line Interface and leaves Node Control alone. -/
theorem State.answered_onSlowEvent_of_unmarked {s : State} {l : SlowLine} {b : Bool} {f : State → State}
    (line : (f (s.accept l b)).line.unmarked = s.line.unmarked) (node : (f (s.accept l b)).node = s.node) :
    s.Answered (.next (s.onSlowEvent l b f)) :=
  State.answered_onSlowEvent (State.Untouched.of_unmarked line (by rw [node]; exact id)).reached

/-- An event at the receiver. -/
theorem State.answered_reception {s : State} {f : State → State} (h : s.Reached (f s)) :
    s.Answered (.next (s.reception f)) :=
  State.answered_ite fun _ => h.answered

/-! ### Receptions -/

/-- One counted reception, field by field (R12). -/
theorem LineInterface.countReception_eq (limit : Nat) (bad : Bool) (l : LineInterface) :
    l.countReception limit bad = { l with
      receivedCount := if l.receivedCount < 255 then l.receivedCount + 1 else 0
      erroneousCount := if l.receivedCount < 255 then l.erroneousCount + bad.toNat else 0
      degraded := if l.receivedCount < 255 then l.degraded else decide (limit ≤ l.erroneousCount + bad.toNat) } := by
  unfold LineInterface.countReception
  split <;> rfl

theorem State.countReception_untouched (bad : Bool) (s : State) : s.Untouched (s.countReception bad) := by
  have counted : s.Untouched (s.mapLine (LineInterface.countReception s.params.errorLimit bad)) := by
    have line := LineInterface.countReception_eq s.params.errorLimit bad s.line
    constructor
    case laws =>
      rintro ⟨hr, he, hf, ho, hn⟩
      have : bad.toNat ≤ 1 := bad.toNat_le
      rw [State.lineLaws, State.mapLine_line, line]
      refine ⟨?_, ?_, hf, ho, hn⟩ <;> dsimp only <;> split <;> omega
    case speaks => exact id
    case isolated => rw [State.mapLine_line, line]; exact fun _ => id
    case onLine => rw [State.mapLine_line, line]; exact .inl rfl
    all_goals rw [State.mapLine_line, line]
  exact counted.trans (State.Untouched.of_unmarked (State.setCond_unmarked _ _ _) (by simp [State.countReception]))

@[simp] theorem State.setIsolated_unmarked (s : State) :
    s.setIsolated.line.unmarked = { s.line.unmarked with isolated := true } := by
  simp only [State.setIsolated, State.changeTake_unmarked, State.raise_unmarked]
  rfl

@[simp] theorem State.clearIsolated_unmarked (s : State) :
    s.clearIsolated.line.unmarked = { s.line.unmarked with isolated := false } := by
  simp only [State.clearIsolated, State.changeTake_unmarked, State.lower_unmarked]
  rfl

/-- The setting of Isolated, with the trim and the replan it makes, leaves the slots untouched. -/
theorem State.setIsolated_untouched (s : State) : s.Untouched s.setIsolated := by
  have set : s.Untouched (s.mapLine fun l => { l with isolated := true }) :=
    ⟨rfl, rfl, rfl, .inl rfl, rfl, fun _ _ => rfl, id, id⟩
  exact set.trans (State.Untouched.of_unmarked s.setIsolated_unmarked (by simp))

/-- The clearing of Isolated, which Listen-only forbids, likewise. -/
theorem State.clearIsolated_untouched {s : State} (h : s.line.listenOnly = false) : s.Untouched s.clearIsolated := by
  have cleared : s.Untouched (s.mapLine fun l => { l with isolated := false }) :=
    ⟨rfl, rfl, rfl, .inl rfl, rfl, fun hl _ => absurd (h.symm.trans hl) Bool.false_ne_true, id, id⟩
  exact cleared.trans (State.Untouched.of_unmarked s.clearIsolated_unmarked (by simp))

theorem State.restartSilence_untouched (s : State) : s.Untouched (s.mapLine (LineInterface.restartSilence s.params)) :=
  ⟨rfl, rfl, rfl, .inl rfl, rfl, fun _ h => h, id, id⟩

theorem State.heardWellFormed_untouched (s : State) : s.Untouched s.heardWellFormed := by
  unfold State.heardWellFormed
  dsimp only
  split
  next h =>
    simp only [Bool.and_eq_true, Bool.not_eq_true'] at h
    exact s.restartSilence_untouched.trans (State.clearIsolated_untouched h.2)
  next => exact s.restartSilence_untouched

theorem State.heardGood_untouched (s : State) : s.Untouched s.heardGood :=
  (s.countReception_untouched false).trans (State.heardWellFormed_untouched _)

/-- The entry into Listen-only empties the slots and makes the offer void (R14). -/
theorem State.Untouched.enterListenOnly {s u : State} (h : s.Untouched u) : s.Reached u.enterListenOnly := by
  intro sound
  have set : u.Untouched (u.raise .addressConflict).setIsolated :=
    (State.Untouched.of_unmarked (by simp) (by simp)).trans (State.setIsolated_untouched _)
  have isolated : (u.raise .addressConflict).setIsolated.line.isolated = true :=
    congrArg LineInterface.isolated (u.raise .addressConflict).setIsolated_unmarked
  refine ⟨?_, .inl rfl⟩
  constructor
  case rests => exact fun _ => ⟨rfl, rfl⟩
  case silent => exact fun _ => ⟨rfl, rfl, rfl, isolated⟩
  case laws => exact set.laws (h.laws sound.laws)
  case offer =>
    intro o ho hv
    simp only [State.enterListenOnly, State.mapLine_line, LineInterface.enterListenOnly, Option.mem_def,
      Option.map_eq_some_iff] at ho
    obtain ⟨_, -, rfl⟩ := ho
    exact absurd hv (by simp)
  case kept => exact fun hl => absurd hl (by simp [State.enterListenOnly, LineInterface.enterListenOnly])

theorem State.heardConflict_reached (s : State) : s.Reached s.heardConflict := by
  have heard : s.Untouched ((s.countReception false).mapLine (LineInterface.restartSilence s.params)) :=
    (s.countReception_untouched false).trans ⟨rfl, rfl, rfl, .inl rfl, rfl, fun _ h => h, id, id⟩
  unfold State.heardConflict
  dsimp only
  split
  · exact heard.reached
  · exact heard.enterListenOnly

/-- A Condition Read hands a report, marking the offer of an older one, and starts the freeze (R149). -/
theorem State.Untouched.conditionReads {s u : State} (h : s.Untouched u) : s.Reached u.conditionReads := by
  intro sound
  have mid := h.midway sound
  have line : u.conditionReads.line = u.line.handReport (reportContent (u.mapCond ConditionUnit.freeze)) := rfl
  have eq := LineInterface.handReport_eq (reportContent (u.mapCond ConditionUnit.freeze)) u.line
  refine ⟨?_, ?_⟩
  · constructor
    case rests => rw [line, eq]; exact mid.rests
    case silent =>
      intro hl
      have hl : u.line.listenOnly = true := by rwa [line, eq] at hl
      have hr := (mid.silent hl).2.2
      rw [line, eq]
      exact ⟨(mid.silent hl).1, (mid.silent hl).2.1, by simpa [hl] using hr⟩
    case laws => rw [State.lineLaws, line, eq]; exact mid.laws
    case offer =>
      refine LineInterface.stands_of_handed (d := false) (t := false) (r := !u.line.listenOnly) (by rw [line, eq])
        (.inl (by rw [line, eq])) (.inl (by rw [line, eq])) ?_ mid.offer
      rw [line, eq]
      cases u.line.listenOnly <;> simp
    case kept =>
      intro hl _ _
      have hl : u.line.listenOnly = false := by rwa [line, eq] at hl
      rw [line, eq]
      refine ⟨fun hn => .inl (h.demandSlot ▸ hn), fun _ => .inl h.statusSlot, fun _ => .inr (.inr ⟨by simp [hl], rfl, rfl⟩)⟩
  · rw [State.Waits, line, eq]
    exact sound.waiting.1.imp h.demandSlot.trans (.inl ∘ h.demandSlot.trans)

theorem State.hears_reached (o : Sorted) (s : State) : s.Reached (s.hears o) := by
  have good := s.heardGood_untouched
  have after {u : State} (line : u.line.unmarked = s.heardGood.line.unmarked) (node : u.node = s.heardGood.node) :
      s.Reached u := (good.trans (State.Untouched.of_unmarked line (by rw [node]; exact id))).reached
  cases o with
  | outside => exact s.heardWellFormed_untouched.reached
  | conflict => exact s.heardConflict_reached
  | badLength => exact (s.countReception_untouched true).reached
  | ignored => exact good.reached
  | allowance b0 b1 b2 =>
    exact after (by simp [State.hears, State.allowanceArrives]) (by simp [State.hears, State.allowanceArrives])
  | demand n d => exact after rfl rfl
  | panel d =>
    refine after ?_ ?_ <;> simp only [State.hears, State.panelArrives] <;> split <;> simp
  | conditionRead => exact good.conditionReads
  | conditionClear b1 b2 b3 => exact after rfl rfl
  | conditionRelease => exact after rfl rfl
  | channelUnlock b1 =>
    refine after ?_ ?_ <;> simp only [State.hears, State.channelsUnlock, State.when] <;> (repeat' split) <;> simp
  | rehome =>
    refine after ?_ ?_ <;> simp [State.hears, State.dampersRehome, State.rehome]

/-! ### The node -/

/-- An entry into Running ends with the handing of a Demand (R156). -/
theorem State.Untouched.enterRunning {s u : State} (h : s.Untouched u) (fromListening : Bool) :
    s.Reached (u.enterRunning fromListening) := by
  intro sound
  let t := (((u.mapNode fun n => { n with state := .running, leaving := false }).mapShare fun v =>
    { v with timer := Timer.start }).mapAir fun a => { a with timer := Timer.start }).mapLine
    (LineInterface.enterRunning u.params fromListening)
  have entered : u.Untouched t := by
    constructor
    case laws => exact fun k => by cases fromListening <;> exact k
    case isolated => exact fun _ k => by cases fromListening <;> exact k
    case speaks => exact fun k => absurd k (by simp [t, NodeState.speaks])
    case onLine => exact .inl (by cases fromListening <;> rfl)
    all_goals cases fromListening <;> rfl
  have delayed : (t.settleFresh.startSleepDelay fromListening).line = t.settleFresh.line ∧
      (t.settleFresh.startSleepDelay fromListening).node.state = .running := by
    unfold State.startSleepDelay State.when
    split <;> simp [t]
  have ready : s.Untouched (t.settleFresh.startSleepDelay fromListening) :=
    (h.trans entered).trans (State.Untouched.of_unmarked (by rw [delayed.1]; simp) (by rw [delayed.2]; simp [NodeState.speaks]))
  have handed := (ready.midway sound).handDemand (by rw [delayed.2]; rfl)
  exact ⟨handed.1, handed.2.imp_right .inr⟩

/-- An entry into Sleep (R15). -/
theorem State.Untouched.enterSleep {s u : State} (h : s.Untouched u) : s.Reached u.enterSleep := fun sound =>
  State.enterSleep_reached s fun hl => ((h.midway sound).silent hl).2.2.2

/-- A Demand handed in an event that has touched no slot yet (R8). -/
theorem State.Untouched.handDemand {s u : State} (h : s.Untouched u) (speaks : u.node.state.speaks = true) :
    s.Reached u.handDemand := fun sound =>
  have handed := (h.midway sound).handDemand speaks
  ⟨handed.1, handed.2.imp_right .inr⟩

/-- A change of the node state to one in which the slots are worked. -/
theorem State.Untouched.of_speaks {s u : State} (line : u.line.unmarked = s.line.unmarked)
    (speaks : u.node.state.speaks = true) : s.Untouched u :=
  State.Untouched.of_unmarked line fun k => absurd (speaks.symm.trans k) (by decide)

theorem State.enterParking_untouched (s : State) : s.Untouched s.enterParking := by
  unfold State.enterParking State.endSupplyLow
  split <;> exact State.Untouched.of_speaks (by simp) (by simp [NodeControl.startParking, NodeState.speaks])

theorem State.accept_untouched (l : SlowLine) (b : Bool) (s : State) : s.Untouched (s.accept l b) :=
  State.Untouched.of_unmarked rfl id

theorem State.Untouched.supplyReturns {s u : State} (h : s.Untouched u) : s.Reached u.supplyReturns := by
  unfold State.supplyReturns
  split
  case h_1 =>
    exact (h.trans (State.Untouched.of_unmarked (by simp [State.endSupplyLow]) (by simp [State.endSupplyLow]))).enterRunning false
  case h_2 =>
    split
    · exact h.enterRunning true
    · exact h.reached
  all_goals exact h.reached

theorem State.Untouched.supplyFails {s u : State} (h : s.Untouched u) : s.Reached u.supplyFails := by
  unfold State.supplyFails
  split
  · exact (h.trans (State.Untouched.of_speaks (by simp) (by simp [NodeState.speaks]))).reached
  · exact h.reached

theorem State.Untouched.unpark {s u : State} (h : s.Untouched u) (speaks : u.node.state.speaks = true) : s.Reached u.unpark := by
  unfold State.unpark
  dsimp only
  split
  · have stopped : u.Untouched (u.mapNode fun n =>
        { n with parking := .stopped, leavingTimer := .stopped, leaving := false }) := State.Untouched.of_speaks rfl speaks
    exact (h.trans stopped).enterRunning false
  · exact (h.trans (State.Untouched.of_speaks (by simp) (by simp [NodeState.speaks]))).reached

theorem State.Untouched.ignitionOn {s u : State} (h : s.Untouched u) : s.Reached u.ignitionOn := by
  have stopped : u.Untouched (u.mapNode fun n => { n with sleepDelay := .stopped }) := State.Untouched.of_unmarked rfl id
  unfold State.ignitionOn
  dsimp only
  split
  case h_1 hp => exact (h.trans stopped).unpark (by simp [hp, NodeState.speaks])
  case h_2 hs =>
    have woken : u.Untouched (u.mapNode fun n => { n with sleepDelay := .stopped }).enterListening :=
      State.Untouched.of_unmarked rfl fun _ => by rw [hs]; rfl
    exact (h.trans woken).reached
  all_goals exact (h.trans stopped).reached

/-! ### The transmitter and the timing -/

/-- An offer is of the frame that stands in its slot (R6). -/
theorem State.offer_reached (s : State) : s.Reached s.offer := by
  intro sound
  unfold State.offer
  split
  next permitted =>
    cases hw : s.line.lowestWaiting with
    | none => exact (State.Untouched.refl s).reached sound
    | some f =>
      have mid := (State.Untouched.refl s).midway sound
      refine ⟨⟨mid.rests, mid.silent, mid.laws, ?_, fun hl hs hd => ?_⟩, sound.waiting.1.imp_right .inl⟩
      case refine_2 => exact ⟨fun k => .inl k, fun _ => .inl rfl, fun _ => .inl rfl⟩
      intro o ho hv
      obtain rfl : o = ⟨f, false, false⟩ := by simpa using ho.symm
      unfold LineInterface.lowestWaiting at hw
      split at hw <;> simp_all [OnLine.stands] <;> cases hw <;> simp_all
  next => exact (State.Untouched.refl s).reached sound

theorem State.offer_content (s : State) : demandContent s.offer = demandContent s := by
  unfold State.offer
  split
  · split <;> rfl
  · rfl

/-- The end of an offer that changes nothing else. -/
theorem State.freed_untouched (s : State) : s.Untouched (s.mapLine fun l => { l with onLine := none }) :=
  ⟨rfl, rfl, rfl, .inr rfl, rfl, fun _ h => h, id, id⟩

theorem State.answered_freed (s : State) : s.Answered (.next (s.mapLine fun l => { l with onLine := none })) :=
  s.freed_untouched.reached.answered_quietly rfl

/-- One failed attempt, field by field (R11). -/
theorem LineInterface.countFailure_eq (l : LineInterface) : l.countFailure = { l with
    faultCounter := if l.faultCounter + 1 < 32 then l.faultCounter + 1 else 32
    lineOn := l.lineOn && decide (l.faultCounter + 1 < 32)
    lineOffTimer := if l.faultCounter + 1 < 32 then l.lineOffTimer else Timer.start } := by
  unfold LineInterface.countFailure
  split
  next h => simp [h]
  next h => simp [h]

theorem State.failOffer_untouched (s : State) : s.Untouched s.failOffer := by
  unfold State.failOffer
  split
  · exact .refl s
  · dsimp only
    split
    · exact s.freed_untouched
    · have counted : s.Untouched ((s.mapLine fun l => { l with onLine := none }).mapLine LineInterface.countFailure) := by
        have line := LineInterface.countFailure_eq { s.line with onLine := none }
        constructor
        case laws =>
          rintro ⟨hr, he, hf, ho, hn⟩
          rw [State.lineLaws, State.mapLine_line, State.mapLine_line, line]
          by_cases h : s.line.faultCounter + 1 < 32
          · simp only [h, if_true, decide_true, Bool.and_true]
            exact ⟨hr, he, by omega, ho, fun _ => trivial⟩
          · simp only [h, if_false, decide_false, Bool.and_false]
            exact ⟨hr, he, le_rfl, by simp, by simp⟩
        case speaks => exact id
        case isolated => rw [State.mapLine_line, State.mapLine_line, line]; exact fun _ => id
        case onLine => rw [State.mapLine_line, State.mapLine_line, line]; exact .inr rfl
        all_goals rw [State.mapLine_line, State.mapLine_line, line]
      unfold State.when
      split
      · exact counted.trans (State.Untouched.of_unmarked (by simp) (by simp))
      · exact counted

theorem State.lineBack_untouched (s : State) : s.Untouched (s.mapLine LineInterface.lineBack) :=
  ⟨rfl, rfl, rfl, .inl rfl, rfl, fun _ h => h, fun ⟨hr, he, _⟩ => ⟨hr, he, by simp [LineInterface.lineBack]⟩, id⟩

/-- A completion frees the line and lowers the counter within its range. -/
theorem LineInterface.completed_laws {s t : State} (h : s.lineLaws)
    (line : t.line.receivedCount = s.line.receivedCount ∧ t.line.erroneousCount = s.line.erroneousCount ∧
      t.line.faultCounter = s.line.faultCounter - 1 ∧ t.line.lineOn = s.line.lineOn ∧
      t.line.lineOffTimer = s.line.lineOffTimer) : t.lineLaws := by
  obtain ⟨hr, he, hf, ho, hn⟩ := h
  obtain ⟨er, ee, ef, eo, et⟩ := line
  rw [State.lineLaws, er, ee, ef, eo, et]
  exact ⟨hr, he, by omega, ho, fun k => by have := hn k; omega⟩

/-- A completed Demand leaves its slot, unless a newer one took it (R7). -/
theorem State.demandCompleted_reached {s : State} {o : OnLine} {c : Demand} (on : s.line.onLine = some o)
    (frame : o.frame = .demand c) (replaced : Bool) :
    s.Reached ((s.mapLine (LineInterface.demandCompleted c replaced)).mapShare (ShareUnit.complete c.take)) := by
  intro sound
  have mid := (State.Untouched.refl s).midway sound
  refine ⟨⟨?_, ?_, LineInterface.completed_laws sound.laws ⟨rfl, rfl, rfl, rfl, rfl⟩, ?_, ?_⟩, ?_⟩
  · intro hs
    have := mid.rests hs
    simp_all [LineInterface.demandCompleted, LineInterface.completed]
  · intro hl
    have := mid.silent hl
    simp_all [LineInterface.demandCompleted, LineInterface.completed]
  · intro o ho
    simp [LineInterface.demandCompleted, LineInterface.completed] at ho
  · exact fun _ _ _ => ⟨fun _ => .inr (by simp [LineInterface.offerCompleted, on, frame, LineInterface.demandCompleted,
      LineInterface.completed]), fun _ => .inl rfl, fun _ => .inl rfl⟩
  · cases replaced
    · exact .inl rfl
    · exact sound.waiting.1.imp_right .inl

/-- A completed Status frame likewise. -/
theorem State.statusCompleted_reached {s : State} {o : OnLine} {f : StatusFrame} (on : s.line.onLine = some o)
    (frame : o.frame = .status f) (replaced : Bool) :
    s.Reached (s.mapLine (LineInterface.statusCompleted f replaced)) := by
  intro sound
  have mid := (State.Untouched.refl s).midway sound
  refine ⟨⟨?_, ?_, LineInterface.completed_laws sound.laws ⟨rfl, rfl, rfl, rfl, rfl⟩, ?_, ?_⟩, sound.waiting.1.imp_right .inl⟩
  · intro hs
    have := mid.rests hs
    simp_all [LineInterface.statusCompleted, LineInterface.completed]
  · intro hl
    have := mid.silent hl
    simp_all [LineInterface.statusCompleted, LineInterface.completed]
  · intro o ho
    simp [LineInterface.statusCompleted, LineInterface.completed] at ho
  · exact fun _ _ _ => ⟨fun k => .inl k, fun _ => .inr (.inl (by simp [LineInterface.offerCompleted, on, frame,
      LineInterface.statusCompleted, LineInterface.completed])), fun _ => .inl rfl⟩

/-- A completed report likewise. -/
theorem State.reportCompleted_reached {s : State} {o : OnLine} {c : Report} (on : s.line.onLine = some o)
    (frame : o.frame = .report c) (replaced : Bool) :
    s.Reached (s.mapLine (LineInterface.reportCompleted replaced)) := by
  intro sound
  have mid := (State.Untouched.refl s).midway sound
  refine ⟨⟨mid.rests, ?_, LineInterface.completed_laws sound.laws ⟨rfl, rfl, rfl, rfl, rfl⟩, ?_, ?_⟩,
    sound.waiting.1.imp_right .inl⟩
  · intro hl
    have := mid.silent hl
    simp_all [LineInterface.reportCompleted, LineInterface.completed]
  · intro o ho
    simp [LineInterface.reportCompleted, LineInterface.completed] at ho
  · exact fun _ _ _ => ⟨fun k => .inl k, fun _ => .inl rfl, fun _ => .inr (.inl (by simp [LineInterface.offerCompleted, on,
      frame, LineInterface.reportCompleted, LineInterface.completed]))⟩

/-- A Status frame handed while the Status timer stands at its restart (R9). -/
theorem State.Untouched.handStatus {s u v : State} (h : s.Untouched u) (timer : u.line.statusTimer = .running 0)
    {f : StatusFrame} (node : v.node = u.node) (speaks : u.node.state.speaks = true)
    (line : v.line = { u.line.handStatus f with
      aOwed := v.line.aOwed, bOwed := v.line.bOwed, bChangeOwed := v.line.bChangeOwed }) : s.Reached v := by
  intro sound
  have mid := h.midway sound
  rw [LineInterface.handStatus_eq] at line
  refine ⟨?_, ?_⟩
  · constructor
    case rests => rw [node, speaks]; exact fun k => absurd k (by decide)
    case silent =>
      intro hl
      have hl : u.line.listenOnly = true := by rwa [line] at hl
      obtain ⟨hd, hs, hr⟩ := mid.silent hl
      rw [line]
      exact ⟨hd, by simpa [hl] using hs, hr⟩
    case laws => rw [State.lineLaws, line]; exact mid.laws
    case offer =>
      refine LineInterface.stands_of_handed (d := false) (t := !u.line.listenOnly) (r := false) (by rw [line])
        (.inl (by rw [line])) ?_ (.inl (by rw [line])) mid.offer
      rw [line]
      cases u.line.listenOnly <;> simp
    case kept =>
      intro hl _ _
      have hl : u.line.listenOnly = false := by rwa [line] at hl
      rw [line]
      exact ⟨fun hn => .inl (h.demandSlot ▸ hn), fun _ => .inr (.inr ⟨by simp [hl], timer⟩), fun _ => .inl h.reportSlot⟩
  · rw [State.Waits, line]
    exact sound.waiting.1.imp h.demandSlot.trans (.inl ∘ h.demandSlot.trans)

end Sys2Proof.Machine
end

section
/-! What every command and every step answers, as far as the slots go, and that every step keeps a waiting Demand current, an offer
in its slot and an occupied slot until its frame completes. -/

namespace Sys2Proof.Machine

/-! ### Start-up, supply and sleep -/

theorem execColdStart_answered (straps : Straps) (s : State) : s.Answered (execColdStart straps s) := by
  refine ⟨State.cold straps s.input.pins s.pending s.choices, fun _ => ⟨?_, .inl rfl⟩, .inr ⟨rfl, .inr rfl⟩⟩
  constructor
  case rests => exact fun _ => ⟨rfl, rfl⟩
  case silent => exact fun hl => absurd hl (by simp [State.cold, LineInterface.cold])
  case laws => simp [State.lineLaws, State.cold, LineInterface.cold]
  case offer => simp [State.offerLaw, State.cold, LineInterface.cold]
  case kept => exact fun _ _ hs => absurd rfl hs

theorem execLoadingComplete_answered (image : Vector Byte 83) (s : State) : s.Answered (execLoadingComplete image s) := by
  refine State.answered_ite fun loading => State.Reached.answered ?_
  refine (State.Untouched.of_unmarked ?_ fun _ => by rw [loading]; rfl).reached
  simp only [State.enterListening, State.mapInput_line, State.mapAllowance_line, State.mapNode_line, State.raiseConfig]
  split <;> simp [State.applyConfig]

theorem execListeningTimerExpiry_answered (s : State) : s.Answered (execListeningTimerExpiry s) := by
  refine State.answered_ite fun _ => State.Reached.answered ?_
  have stopped : s.Untouched (s.mapNode fun n => { n with listening := .expired }) := State.Untouched.of_unmarked rfl id
  split
  · exact stopped.enterRunning true
  · exact stopped.reached

theorem execSleepDelayExpiry_answered (s : State) : s.Answered (execSleepDelayExpiry s) :=
  State.answered_ite fun _ => s.enterParking_untouched.reached.answered

theorem execParkingTimerExpiry_answered (s : State) : s.Answered (execParkingTimerExpiry s) := by
  refine State.answered_ite fun ⟨parking, _⟩ => State.Reached.answered ?_
  have ended : s.Untouched (s.mapNode fun n => { n with parking := .expired }) := State.Untouched.of_unmarked rfl id
  split
  · exact ended.reached
  · exact fun sound => (ended.midway sound).beginLeaving (by simp [parking, NodeState.speaks])

theorem execLeavingTimerExpiry_answered (s : State) : s.Answered (execLeavingTimerExpiry s) :=
  State.answered_ite fun _ => (State.Untouched.refl s).enterSleep.answered

/-! ### The transmitter and the timing of the line -/

theorem execDemandCompletion_answered (s : State) : s.Answered (execDemandCompletion s) := by
  unfold execDemandCompletion
  split
  case h_1 => exact s.answered_unchanged
  case h_2 o on =>
    split
    case h_1 c frame =>
      split
      · exact s.answered_freed
      · have completed := State.demandCompleted_reached on frame o.replaced
        exact (State.reached_when completed fun _ sound => State.enterSleep_reached s fun hl =>
          ((completed sound).1.silent hl).2.2.2).answered
    all_goals exact s.answered_unchanged

theorem execFrameCompletion_answered (s : State) : s.Answered (execFrameCompletion s) := by
  unfold execFrameCompletion
  split
  case h_1 => exact s.answered_unchanged
  case h_2 o on =>
    split
    case h_1 => exact s.answered_unchanged
    case h_2 f frame =>
      split
      · exact s.answered_freed
      · exact (State.statusCompleted_reached on frame o.replaced).answered
    case h_3 c frame =>
      split
      · exact s.answered_freed
      · exact (State.reportCompleted_reached on frame o.replaced).answered

theorem execLineOffTimerExpiry_answered (s : State) : s.Answered (execLineOffTimerExpiry s) :=
  State.answered_ite fun _ =>
    (s.lineBack_untouched.trans (State.Untouched.of_unmarked (by simp) (by simp))).reached.answered

/-- The stopping of a timer of the line leaves the slots untouched. -/
theorem State.inhibitExpired_untouched (s : State) : s.Untouched (s.mapLine fun l => { l with inhibit := .expired }) :=
  ⟨rfl, rfl, rfl, .inl rfl, rfl, fun _ h => h, id, id⟩

theorem execInhibitTimerExpiry_answered (s : State) : s.Answered (execInhibitTimerExpiry s) := by
  refine State.answered_ite fun _ => (State.reached_when s.inhibitExpired_untouched.reached fun due => ?_).answered
  exact s.inhibitExpired_untouched.handDemand (Bool.and_eq_true_iff.1 due).1

theorem execRefreshTimerExpiry_answered (s : State) : s.Answered (execRefreshTimerExpiry s) := by
  have expired : s.Untouched (s.mapLine fun l => { l with refresh := .expired }) :=
    ⟨rfl, rfl, rfl, .inl rfl, rfl, fun _ h => h, id, id⟩
  exact State.answered_ite fun _ => (State.reached_when expired.reached expired.handDemand).answered

theorem execStatusTimerExpiry_answered (s : State) : s.Answered (execStatusTimerExpiry s) := by
  refine State.answered_ite fun ⟨_, speaks⟩ => State.Reached.answered ?_
  have owed : s.Untouched (s.mapLine fun l => { l with statusTimer := Timer.start, aOwed := true, bOwed := true }) :=
    ⟨rfl, rfl, rfl, .inl rfl, rfl, fun _ h => h, id, id⟩
  unfold State.refreshStatus
  split
  case h_1 => exact owed.reached
  case h_2 => exact owed.handStatus rfl rfl speaks rfl
  case h_3 => exact owed.handStatus rfl rfl speaks rfl

theorem execStatusBGuardExpiry_answered (s : State) : s.Answered (execStatusBGuardExpiry s) := by
  have expired : s.Untouched (s.mapLine fun l => { l with statusBGuard := .expired }) :=
    ⟨rfl, rfl, rfl, .inl rfl, rfl, fun _ h => h, id, id⟩
  exact State.answered_ite fun _ => expired.reached.answered

theorem execSilenceTimerExpiry_answered (s : State) : s.Answered (execSilenceTimerExpiry s) := by
  have expired : s.Untouched (s.mapLine fun l => { l with silence := .expired }) :=
    ⟨rfl, rfl, rfl, .inl rfl, rfl, fun _ h => h, id, id⟩
  exact State.answered_ite fun _ => (expired.trans (State.setIsolated_untouched _)).reached.answered

/-! ### The other blocks -/

theorem execHallEdge_answered (d : Damper) (s : State) : s.Answered (execHallEdge d s) := by
  unfold execHallEdge
  rcases s.onEdge_cases d.line true fun t => (t.hallEdge d).finish s with ⟨-, e⟩ | ⟨-, e⟩ | ⟨-, -, e⟩ <;> rw [e]
  · exact State.answered_of_unmarked (by simp [State.hallEdge]) (by simp [State.hallEdge])
  · exact State.answered_of_line rfl rfl rfl
  · exact s.answered_unchanged

/-- A captured edge or a tach edge reaches no more than the Input Unit. -/
theorem State.answered_onEdge {s : State} (x : FastInput) (rising : Bool) {f : InputUnit → InputUnit} :
    s.Answered (.next (s.onEdge x rising (State.mapInput f))) := by
  rcases s.onEdge_cases x rising (State.mapInput f) with ⟨-, e⟩ | ⟨-, e⟩ | ⟨-, -, e⟩ <;> rw [e]
  · exact State.answered_of_line rfl rfl rfl
  · exact State.answered_of_line rfl rfl rfl
  · exact s.answered_unchanged

theorem State.answered_onCapturedEdge {s : State} (x : FastInput) (rising : Bool) (capture : BitVec 16)
    {f : InputUnit → InputUnit} : s.Answered (.next (s.onCapturedEdge x rising capture (State.mapInput f))) := by
  unfold State.onCapturedEdge State.when
  split
  · exact State.answered_onEdge x rising
  · exact s.answered_unchanged

theorem execCleanRunExpiry_answered (c : Channel) (s : State) : s.Answered (execCleanRunExpiry c s) :=
  State.answered_ite fun _ => State.answered_of_line rfl rfl
    (demandContent_congr rfl rfl rfl (by cases c <;> rfl) rfl rfl rfl)

theorem execCoastTimerExpiry_answered (d : Damper) (s : State) : s.Answered (execCoastTimerExpiry d s) :=
  State.answered_ite fun _ => State.answered_of_line rfl rfl
    (demandContent_congr rfl rfl rfl (by cases d <;> rfl) rfl rfl rfl)

theorem execDoorCloseEvent_answered (d : Door) (s : State) : s.Answered (execDoorCloseEvent d s) := by
  refine State.answered_onSlowEvent_of_unmarked ?_ ?_ <;> unfold State.doorCloses <;> split <;> simp

theorem execDoorOpenEvent_answered (d : Door) (s : State) : s.Answered (execDoorOpenEvent d s) := by
  refine State.answered_onSlowEvent_of_unmarked ?_ ?_ <;> unfold State.doorOpens <;> split <;> simp

theorem execOverCurrentAsserted_answered (c : Channel) (s : State) : s.Answered (execOverCurrentAsserted c s) := by
  refine State.answered_onSlowEvent_of_unmarked ?_ ?_ <;> unfold State.when <;> split <;> simp

theorem execIgnAcceptedLow_answered (s : State) : s.Answered (execIgnAcceptedLow s) := by
  refine State.answered_onSlowEvent (State.Untouched.of_unmarked ?_ ?_).reached <;> unfold State.ignitionOff State.when <;>
    split <;> simp

theorem execChannelLock_answered (c : Channel) (k : TripCause) (s : State) : s.Answered (execChannelLock c k s) :=
  State.answered_ite fun _ => by
    cases k <;> exact State.answered_of_unmarked (by simp [State.causeAccepted]) (by simp [State.causeAccepted])

theorem execWindowClose_answered (s : State) : s.Answered (execWindowClose s) :=
  State.answered_ite fun _ => State.answered_of_unmarked (by simp [State.closeTach]) (by simp [State.closeTach])

/-! ### Every command -/

/-- Every command answers an event that keeps the slots. -/
theorem exec_answered (c : Instr) (s : State) : s.Answered (exec c s) := by
  cases c with
  | coldStart straps => exact execColdStart_answered straps s
  | loadingComplete image => exact execLoadingComplete_answered image s
  | listeningTimerExpiry => exact execListeningTimerExpiry_answered s
  | supplyOkAsserted => exact State.answered_onSlowEvent (s.accept_untouched .supplyOk true).supplyReturns
  | supplyOkDeasserted => exact State.answered_onSlowEvent (s.accept_untouched .supplyOk false).supplyFails
  | ignAcceptedLow => exact execIgnAcceptedLow_answered s
  | ignAcceptedHigh => exact State.answered_onSlowEvent (s.accept_untouched .ign true).ignitionOn
  | sleepDelayExpiry => exact execSleepDelayExpiry_answered s
  | parkingTimerExpiry => exact execParkingTimerExpiry_answered s
  | leavingTimerExpiry => exact execLeavingTimerExpiry_answered s
  | allowanceArrival nodeField b0 b1 b2 => exact State.answered_reception (s.hears_reached (.allowance b0 b1 b2))
  | demandArrival sender data => exact State.answered_reception (s.hears_reached _)
  | panelArrival data => exact State.answered_reception (s.hears_reached (.panel data))
  | conditionRead => exact State.answered_reception (s.hears_reached .conditionRead)
  | conditionClear b1 b2 b3 => exact State.answered_reception (s.hears_reached (.conditionClear b1 b2 b3))
  | conditionRelease => exact State.answered_reception (s.hears_reached .conditionRelease)
  | channelUnlock b1 => exact State.answered_reception (s.hears_reached (.channelUnlock b1))
  | rehomeDampers => exact State.answered_reception (s.hears_reached .rehome)
  | ignoredFrame f => exact State.answered_ite fun _ => State.answered_reception (s.hears_reached .ignored)
  | outsideExchangeFrame f b => exact State.answered_ite fun _ => State.answered_reception (s.hears_reached .outside)
  | receiveError => exact State.answered_reception (s.countReception_untouched true).reached
  | addressConflict f => exact State.answered_ite fun _ => State.answered_reception (s.hears_reached .conflict)
  | errorWindowClose r =>
    refine State.answered_ite fun _ => State.answered_reception ?_
    cases r with
    | error => exact (s.countReception_untouched true).reached
    | frame f => exact s.hears_reached _
  | offerFrame => exact s.offer_reached.answered_quietly s.offer_content
  | lostArbitration => exact s.answered_freed
  | transmitFailure => exact s.failOffer_untouched.reached.answered
  | lineOff => exact State.answered_ite fun _ => s.failOffer_untouched.reached.answered
  | demandCompletion => exact execDemandCompletion_answered s
  | frameCompletion => exact execFrameCompletion_answered s
  | lineOffTimerExpiry => exact execLineOffTimerExpiry_answered s
  | inhibitTimerExpiry => exact execInhibitTimerExpiry_answered s
  | refreshTimerExpiry => exact execRefreshTimerExpiry_answered s
  | statusTimerExpiry => exact execStatusTimerExpiry_answered s
  | statusBGuardExpiry => exact execStatusBGuardExpiry_answered s
  | silenceTimerExpiry => exact execSilenceTimerExpiry_answered s
  | peerAging n => exact State.answered_ite fun _ => State.answered_of_unmarked rfl rfl
  | peerStale n => exact State.answered_ite fun _ => State.answered_of_unmarked rfl rfl
  | peerHoldLimit n => exact State.answered_ite fun _ => State.answered_of_unmarked rfl rfl
  | allowanceTimeout => exact State.answered_ite fun _ => State.answered_of_unmarked (by simp) (by simp)
  | shareExpiry => exact State.answered_ite fun _ => State.answered_of_unmarked (by simp) (by simp)
  | airExpiry => exact State.answered_ite fun _ => State.answered_of_unmarked (by simp) (by simp)
  | clearingHoldComplete => exact State.answered_ite fun _ => State.answered_of_unmarked (by simp) (by simp)
  | doorCloseEvent d => exact execDoorCloseEvent_answered d s
  | doorOpenEvent d => exact execDoorOpenEvent_answered d s
  | boostTimerExpiry => exact State.answered_ite fun _ => State.answered_of_unmarked (by simp) (by simp)
  | purgeTimerExpiry => exact State.answered_ite fun _ => State.answered_of_unmarked (by simp) (by simp)
  | lockoutTimerExpiry => exact State.answered_ite fun _ => State.answered_of_unmarked (by simp) (by simp)
  | minimumOnExpiry => exact State.answered_ite fun _ => State.answered_of_line rfl rfl rfl
  | minimumOffExpiry => exact State.answered_ite fun _ => State.answered_of_line rfl rfl rfl
  | overrideLifetimeExpiry => exact State.answered_ite fun _ => State.answered_of_unmarked (by simp) (by simp)
  | temperatureEdge t rising capture => exact State.answered_onCapturedEdge t.line rising capture
  | smokeEdge k rising capture => exact State.answered_onCapturedEdge k.line rising capture
  | tachEdge => exact State.answered_onEdge .tach true
  | edgeTimeoutExpiry x => exact State.answered_ite fun _ => State.answered_of_line rfl rfl rfl
  | windowClose => exact execWindowClose_answered s
  | hallEdge d => exact execHallEdge_answered d s
  | overCurrentAsserted c => exact execOverCurrentAsserted_answered c s
  | channelLock c cause => exact execChannelLock_answered c cause s
  | overCurrentCleared c => exact State.answered_onSlowEvent_of_unmarked rfl rfl
  | rampTimerExpiry => exact State.answered_ite fun _ => State.answered_of_unmarked (by simp) (by simp)
  | blowerStallExpiry => exact State.answered_ite fun _ => State.answered_of_unmarked (by simp) (by simp)
  | cooldownTimerExpiry c => exact State.answered_ite fun _ => State.answered_of_unmarked (by simp) (by simp)
  | cleanRunExpiry c => exact execCleanRunExpiry_answered c s
  | damperStall d => exact State.answered_ite fun _ => State.answered_of_unmarked (by simp) (by simp)
  | coastTimerExpiry d => exact execCoastTimerExpiry_answered d s
  | reversalTimerExpiry d => exact State.answered_ite fun _ => State.answered_of_unmarked (by simp) (by simp)
  | homingTimerExpiry d => exact State.answered_ite fun _ => State.answered_of_unmarked (by simp) (by simp)
  | retryTimerExpiry d => exact State.answered_ite fun _ => State.answered_of_unmarked (by simp) (by simp)
  | autoReleaseExpiry => exact State.answered_ite fun _ => State.answered_of_unmarked rfl rfl
  | frameDiscardedForLength f => exact State.answered_ite fun _ => State.answered_reception (s.hears_reached .badLength)

/-! ### One microsecond -/

theorem Timer.isRunning_tick (t : Timer) : t.tick.isRunning = t.isRunning := by cases t <;> rfl

/-- Sampling reaches no more than the Input Unit and the queue. -/
theorem State.sampleFastInput_frame (x : FastInput) (s : State) :
    (s.sampleFastInput x).line = s.line ∧ (s.sampleFastInput x).node = s.node ∧
    demandContent (s.sampleFastInput x) = demandContent s := by
  unfold State.sampleFastInput
  dsimp only
  split <;> exact ⟨rfl, rfl, rfl⟩

theorem State.sampleSlowLine_frame (l : SlowLine) (s : State) :
    (s.sampleSlowLine l).line = s.line ∧ (s.sampleSlowLine l).node = s.node ∧
    demandContent (s.sampleSlowLine l) = demandContent s := by
  unfold State.sampleSlowLine
  dsimp only
  split <;> exact ⟨rfl, rfl, rfl⟩

theorem State.sample_frame (s : State) :
    s.sample.line = s.line ∧ s.sample.node = s.node ∧ demandContent s.sample = demandContent s := by
  unfold State.sample
  dsimp only
  split <;> simp [State.sampleSlowLines, allSlowLines, State.sampleFastInputs, allFastInputs, State.sampleFastInput_frame,
    State.sampleSlowLine_frame]

/-- A microsecond leaves the slots untouched and the Demand content as it was. -/
theorem State.tick_answered (s : State) : s.Answered (.next s.tick) := by
  have passed : s.Untouched s.advance := by
    refine ⟨rfl, rfl, rfl, .inl rfl, rfl, fun _ h => h, fun ⟨hr, he, hf, ho, hn⟩ => ⟨hr, he, hf, ?_, hn⟩, id⟩
    rw [show s.advance.line.lineOffTimer = s.line.lineOffTimer.tick from rfl, Timer.isRunning_tick]
    exact ho
  obtain ⟨line, node, content⟩ := s.advance.sample_frame
  refine (passed.trans (State.Untouched.of_unmarked (by rw [State.tick, line]) (by rw [State.tick, node]; exact id))).reached
    |>.answered_quietly ?_
  exact content.trans rfl

/-! ### Every step -/

/-- An answer from a state that meets the laws of the slots and the line meets them, and the slots have been kept to it. -/
theorem State.Answered.sound {s t : State} (h : s.Answered (.next t)) (sound : s.LineSound) : t.LineSound ∧ s.slotsKept t := by
  obtain ⟨u, reached, e⟩ := h
  obtain ⟨mid, waits⟩ := reached sound
  rcases e with e | ⟨e, still⟩
  · obtain rfl : t = u.finish s := Host.Outcome.next.inj e
    exact mid.finish waits
  · obtain rfl : t = u := Host.Outcome.next.inj e
    exact mid.sound waits still

theorem step_keeps_lineSound {s t : State} (sound : s.LineSound) (h : step s = .next t) : t.LineSound ∧ s.slotsKept t := by
  have command {c : Instr} {v : State} (k : exec c v = .next t) (sound : v.LineSound) : t.LineSound ∧ v.slotsKept t :=
    State.Answered.sound (k ▸ exec_answered c v) sound
  unfold step at h
  split at h
  case h_1 c rest _ =>
    have kept := command h ⟨sound.waiting, sound.laws, sound.offer⟩
    exact kept
  case h_2 =>
    unfold idle at h
    split at h
    case h_1 => exact State.Answered.sound (h ▸ s.tick_answered) sound
    case h_2 c _ =>
      have kept := command h ⟨sound.waiting, sound.laws, sound.offer⟩
      exact kept

/-- Settles O59: every command's event keeps the slots up to its end, and the Demand and Status timing there hands the present
values. -/
theorem waitingDemandCurrentKept : Obligations.WaitingDemandCurrentKept := by
  intro s t inv h
  obtain ⟨sound, kept⟩ := step_keeps_lineSound inv.lineSound h
  exact ⟨sound.waiting, sound.laws, sound.offer, kept⟩

end Sys2Proof.Machine
end

section
/-! The transmitter and the timing of Demand and Status frames: offers, failures, completions and the timers that hand (R5 to R9,
R11, R14, R15). -/

namespace Sys2Proof.Machine

/-- Two Line Interfaces alike beside the mark have the same Isolated flag. -/
theorem LineInterface.isolated_of_unmarked {l m : LineInterface} (h : m.unmarked = l.unmarked) : m.isolated = l.isolated := by
  rw [LineInterface.eq_of_unmarked h]

/-! ### An event that leaves the Demand content as it was -/

/-- The end of an event that leaves Node Control, the Drive Unit and the Demand content as they were is the Status scheduler alone:
no other block, no Demand, no report and no waiting Status frame changes. -/
theorem State.finish_still {s u : State} (node : u.node = s.node) (drive : u.drive = s.drive)
    (content : demandContent u = demandContent s) :
    u.sameExcept [.line] (u.finish s) ∧ (u.finish s).cond = u.cond ∧ u.line.sameOutsideSlots (u.finish s).line ∧
    (u.finish s).line.demandSlot = u.line.demandSlot ∧ (u.finish s).line.reportSlot = u.line.reportSlot ∧
    (u.line.statusSlot ≠ none → (u.finish s).line.statusSlot = u.line.statusSlot) := by
  rw [State.finish_of_content node drive content]
  exact ⟨by simp [State.sameExcept], by simp, u.settleStatus_same, by simp, by rw [u.settleStatus_same.1],
    State.settleStatus_statusSlot_of_some⟩

/-! ### Offers -/

/-- At one station frames stand in the order of their kinds (R1). -/
theorem TxFrame.ident_le_of_kind (own : Node) {f g : TxFrame} (h : f.kind ≤ g.kind) : f.ident own ≤ g.ident own := by
  unfold TxFrame.ident
  omega

theorem TxFrame.status_kind (x : StatusFrame) : 6 ≤ (TxFrame.status x).kind := by cases x <;> simp [TxFrame.kind]

/-- The Demand's identifier is the lowest, then the report's, then that of either Status record (R1, R6). -/
theorem LineInterface.lowestWaiting_spec (own : Node) (l : LineInterface) :
    let waiting := (l.demandSlot.map TxFrame.demand).toList ++ (l.reportSlot.map TxFrame.report).toList ++
      (l.statusSlot.map TxFrame.status).toList
    (waiting = [] ↔ l.lowestWaiting = none) ∧
    ∀ f, l.lowestWaiting = some f → f ∈ waiting ∧ ∀ g, g ∈ waiting → f.ident own ≤ g.ident own := by
  have demandReport (c : Demand) (r : Report) : (TxFrame.demand c).ident own ≤ (TxFrame.report r).ident own :=
    TxFrame.ident_le_of_kind own (show 2 ≤ 5 by decide)
  have demandStatus (c : Demand) (x : StatusFrame) : (TxFrame.demand c).ident own ≤ (TxFrame.status x).ident own :=
    TxFrame.ident_le_of_kind own (le_trans (show 2 ≤ 6 by decide) (TxFrame.status_kind x))
  have reportStatus (r : Report) (x : StatusFrame) : (TxFrame.report r).ident own ≤ (TxFrame.status x).ident own :=
    TxFrame.ident_le_of_kind own (le_trans (show 5 ≤ 6 by decide) (TxFrame.status_kind x))
  unfold LineInterface.lowestWaiting
  cases l.demandSlot with
  | some c => cases l.reportSlot <;> cases l.statusSlot <;> simp [demandReport, demandStatus]
  | none =>
    cases l.reportSlot with
    | some r => cases l.statusSlot <;> simp [reportStatus]
    | none => cases l.statusSlot <;> simp

/-- Settles O16, by whether transmission is permitted with no offer in progress. -/
theorem offerLowestIdentifier : Obligations.OfferLowestIdentifier := by
  refine ⟨fun s => ?_, fun s => rfl, fun n => by cases n <;> decide⟩
  obtain ⟨empty, lowest⟩ := s.line.lowestWaiting_spec s.node.own
  refine ⟨s.offer, rfl, ?_⟩
  by_cases permitted : (s.txPermitted && s.line.onLine.isNone) = true
  · have free : s.line.onLine = none := by simp_all
    cases hw : s.line.lowestWaiting with
    | none =>
      have e : s.offer = s := by simp [State.offer, permitted, hw]
      rw [e]
      exact ⟨by simp [State.sameExcept], rfl, fun _ => rfl, fun _ _ _ _ => ⟨fun _ => free, fun h => absurd (empty.2 hw) h⟩⟩
    | some f =>
      have e : s.offer = s.mapLine fun l => { l with onLine := some ⟨f, false, false⟩ } := by simp [State.offer, permitted, hw]
      rw [e]
      refine ⟨by simp [State.sameExcept], rfl, fun h => ?_, fun _ _ _ _ => ⟨fun h => ?_, fun _ => ?_⟩⟩
      · simp_all [State.txPermitted]
      · exact absurd (empty.1 h) (by simp [hw])
      · exact ⟨f, (lowest f hw).1, rfl, (lowest f hw).2⟩
  · have e : s.offer = s := by simp [State.offer, permitted]
    rw [e]
    refine ⟨by simp [State.sameExcept], rfl, fun _ => rfl, fun speaks on hearing free => ?_⟩
    simp_all [State.txPermitted]

/-! ### Failures -/

/-- A failure touches the Line Interface and the Condition Unit. -/
@[simp] theorem State.failOffer_frame (s : State) :
    s.failOffer.params = s.params ∧ s.failOffer.node = s.node ∧ s.failOffer.peers = s.peers ∧
    s.failOffer.allowance = s.allowance ∧ s.failOffer.share = s.share ∧ s.failOffer.air = s.air ∧
    s.failOffer.input = s.input ∧ s.failOffer.drive = s.drive ∧ s.failOffer.pending = s.pending ∧
    s.failOffer.choices = s.choices := by
  unfold State.failOffer State.when; dsimp only; (repeat' split) <;> simp

/-- The three outcomes of a failure with the line On: a void one counts for nothing, the one that brings the counter to 32 takes the
line Off, and any other counts (R7, R11, R14). -/
theorem State.failOffer_eq {s : State} {o : OnLine} (on : s.line.onLine = some o) (lineOn : s.line.lineOn = true)
    (below : s.line.faultCounter < 32) : s.failOffer =
    if o.void then s.mapLine fun l => { l with onLine := none }
    else if s.line.faultCounter = 31 then
      (s.mapLine fun l =>
        { l with onLine := none, faultCounter := 32, lineOn := false, lineOffTimer := Timer.start }).raise .lineOff
    else s.mapLine fun l => { l with onLine := none, faultCounter := l.faultCounter + 1 } := by
  unfold State.failOffer
  rw [on]
  dsimp only
  split
  · rfl
  · split
    next last => simp [State.mapLine, LineInterface.countFailure_eq, last]
    next more =>
      have more : s.line.faultCounter + 1 < 32 := by omega
      simp [State.mapLine, LineInterface.countFailure_eq, more, lineOn]

/-- What a failure with the line On makes of the Line Interface, its mark apart, and of the conditions (R7, R11, R14). -/
theorem State.failOffer_spec {s : State} {o : OnLine} (on : s.line.onLine = some o) (lineOn : s.line.lineOn = true)
    (below : s.line.faultCounter < 32) :
    s.failOffer.line.unmarked = ({ s.line with
      onLine := none
      faultCounter := if o.void then s.line.faultCounter else s.line.faultCounter + 1
      lineOn := o.void || decide (s.line.faultCounter ≠ 31)
      lineOffTimer := if o.void = false ∧ s.line.faultCounter = 31 then .running 0 else s.line.lineOffTimer }
      : LineInterface).unmarked ∧
    s.failOffer.cond = (if o.void = false ∧ s.line.faultCounter = 31 then (s.raise .lineOff).cond else s.cond) := by
  rw [State.failOffer_eq on lineOn below]
  cases o.void with
  | true => simp [LineInterface.unmarked, lineOn]
  | false =>
    by_cases last : s.line.faultCounter = 31
    · simp only [last, Bool.false_eq_true, if_false, if_true, and_self]
      exact ⟨by rw [State.raise_unmarked]; simp [Timer.start], by rw [State.raise_cond, State.raise_cond]; rfl⟩
    · simp [last, lineOn, LineInterface.unmarked]

theorem State.failOffer_content {s : State} {o : OnLine} (on : s.line.onLine = some o) (lineOn : s.line.lineOn = true)
    (below : s.line.faultCounter < 32) : demandContent s.failOffer = demandContent s :=
  demandContent_congr (by simp) (by simp) (by simp) (by simp)
    (LineInterface.isolated_of_unmarked (State.failOffer_spec on lineOn below).1 :) (by simp) (by simp)

/-- A failure with the line On, at the end of its event. -/
theorem execTransmitFailure_spec {s : State} {o : OnLine} (on : s.line.onLine = some o) (lineOn : s.line.lineOn = true)
    (below : s.line.faultCounter < 32) : ∃ t, execTransmitFailure s = .next t ∧
    ({ s.line with
      onLine := none
      faultCounter := if o.void then s.line.faultCounter else s.line.faultCounter + 1
      lineOn := o.void || decide (s.line.faultCounter ≠ 31)
      lineOffTimer := if o.void = false ∧ s.line.faultCounter = 31 then .running 0 else s.line.lineOffTimer }
      : LineInterface).sameOutsideSlots t.line ∧
    t.line.demandSlot = s.line.demandSlot ∧ t.line.reportSlot = s.line.reportSlot ∧
    (s.line.statusSlot ≠ none → t.line.statusSlot = s.line.statusSlot) ∧
    t.cond = (if o.void = false ∧ s.line.faultCounter = 31 then (s.raise .lineOff).cond else s.cond) ∧
    s.sameExcept [.line, .cond] t := by
  obtain ⟨line, cond⟩ := State.failOffer_spec on lineOn below
  obtain ⟨frame, still, same, demand, report, status⟩ :=
    State.finish_still (by simp) (by simp) (State.failOffer_content on lineOn below)
  have slots := LineInterface.eq_of_unmarked line
  refine ⟨_, rfl, ?_, demand.trans (by rw [slots]), report.trans (by rw [slots]), fun h => ?_, ?_, ?_⟩
  · exact LineInterface.sameOutsideSlots_trans (LineInterface.sameOutsideSlots_of_unmarked line) same
  · exact (status (by rw [slots]; exact h)).trans (by rw [slots])
  · exact still.trans cond
  · exact State.sameExcept_trans (by simp [State.sameExcept]) frame (by simp)

/-- Settles O17: one failure at the end of its event, and LINE_OFF as the failure that brings the counter to 32. -/
theorem failuresTakeLineOff : Obligations.FailuresTakeLineOff := by
  refine ⟨fun o s on lineOn below => execTransmitFailure_spec on lineOn below, ?_, ?_⟩
  · intro o s on void lineOn last
    have same : exec .lineOff s = exec .transmitFailure s := by
      simp [exec, execLineOff, execTransmitFailure, State.failureTakesLineOff, on, void, lineOn, last]
    obtain ⟨t, e, line, demand, report, status, cond, frame⟩ := execTransmitFailure_spec on lineOn (by omega)
    refine ⟨t, same.trans e, ?_, ?_, ?_, demand, report, status, ?_, frame, same⟩
    · rw [line.1]; simp [void, last]
    · rw [line.1]; simp [void, last]
    · rw [line.1]; simp [void, last]
    · rw [cond]; simp [void, last]
  · intro s running
    have line : ((s.mapLine LineInterface.lineBack).lower .lineOff).line.unmarked = s.line.lineBack.unmarked := by simp
    obtain ⟨frame, still, same, demand, report, status⟩ := State.finish_still (s := s)
      (u := (s.mapLine LineInterface.lineBack).lower .lineOff) (by simp) (by simp)
      (demandContent_congr (by simp) (by simp) (by simp) (by simp) (LineInterface.isolated_of_unmarked line :) (by simp)
        (by simp))
    have slots := LineInterface.eq_of_unmarked line
    refine ⟨_, by simp only [exec, execLineOffTimerExpiry, running, if_true], ?_, demand.trans (by rw [slots]; rfl),
      report.trans (by rw [slots]; rfl), fun h => ?_, ?_, ?_⟩
    · exact LineInterface.sameOutsideSlots_trans (LineInterface.sameOutsideSlots_of_unmarked line) same
    · exact (status (by rw [slots]; exact h)).trans (by rw [slots]; rfl)
    · rw [still, State.lower_cond, State.lower_cond]; rfl
    · exact State.sameExcept_trans (by simp [State.sameExcept]) frame (by simp)

end Sys2Proof.Machine
end

section
/-! The completions of frames and the timers that hand them (R5, R7 to R9, R56, R159). -/

namespace Sys2Proof.Machine

/-! ### Completions -/

/-- The Demand carries the larger of T and A, which a completion leaves as they are (R4, R56). -/
theorem State.demandCompleted_content (c : Demand) (replaced : Bool) (s : State) :
    demandContent ((s.mapLine (LineInterface.demandCompleted c replaced)).mapShare (ShareUnit.complete c.take)) =
      demandContent s := rfl

/-- The end of an event in Sleep has nothing to do: no test of Parking, no Demand and no Status frame is made there (R15). -/
theorem State.finish_of_asleep {u : State} (s : State) (h : u.node.state = .sleep) : u.finish s = u := by
  have still : u.settleDemand (demandContent s) = u := by simp [State.settleDemand, h, NodeState.speaks]
  rw [State.finish, State.settleParking_of_not_waiting u s (.inl (by rw [h]; decide)), still]
  exact State.settleStatus_of_not_due (by simp [h, NodeState.speaks])

/-- Settles O18, by the outcome: void, in the leaving phase, or neither. -/
theorem demandCompletes : Obligations.DemandCompletes := by
  intro o c s on frame
  cases void : o.void with
  | true =>
    refine ⟨{ s with line := { s.line with onLine := none } }, ?_, fun _ => rfl, by simp, by simp⟩
    simp only [exec, execDemandCompletion, on, frame, void, if_true]
    rfl
  | false =>
    have run : exec .demandCompletion s = .next ((s.demandCompletes c o.replaced).finish s) := by
      simp [exec, execDemandCompletion, on, frame, void]
    refine ⟨_, run, by simp, fun _ staying => ?_, fun _ leaving => ?_⟩
    · have completed : s.demandCompletes c o.replaced =
          (s.mapLine (LineInterface.demandCompleted c o.replaced)).mapShare (ShareUnit.complete c.take) := by
        have no : (c.leaving && decide (s.node.state = .parking) && s.node.leaving) = false := by
          rw [Bool.eq_false_iff]; simpa [and_assoc] using staying
        exact congrArg (State.when · State.enterSleep _) no
      rw [completed]
      obtain ⟨blocks, -, same, demand, -, -⟩ := State.finish_still (s := s)
        (u := (s.mapLine (LineInterface.demandCompleted c o.replaced)).mapShare (ShareUnit.complete c.take)) rfl rfl
        (s.demandCompleted_content c o.replaced)
      refine ⟨?_, demand, (State.finish_frame s _).2.1.trans rfl,
        State.sameExcept_trans (by simp [State.sameExcept]) blocks (by simp)⟩
      exact LineInterface.sameOutsideSlots_trans (m := s.line.demandCompleted c o.replaced) ⟨rfl, rfl⟩ same
    · have asleep : s.demandCompletes c o.replaced =
          ((s.mapLine (LineInterface.demandCompleted c o.replaced)).mapShare (ShareUnit.complete c.take)).enterSleep := by
        simp [State.demandCompletes, leaving]
      have state : (s.demandCompletes c o.replaced).node.state = .sleep := by rw [asleep, State.enterSleep_state]
      rw [State.finish_of_asleep s state]
      refine ⟨state, ?_, ?_, ?_, ?_⟩ <;> rw [asleep]
      · rw [State.enterSleep_line]; rfl
      · rw [State.enterSleep_line]; rfl
      · simp [ShareUnit.complete]
      · simp [ShareUnit.complete]

/-- After the completion of a Status frame whose slot no newer one took, the emptied slot is served at once in the order of R9. -/
theorem State.statusCompleted_served {s : State} (hearing : s.line.listenOnly = false) (speaks : s.node.state.speaks = true)
    (f : StatusFrame) :
    (s.mapLine (LineInterface.statusCompleted f false)).settleStatus.line.statusSlot =
      if s.line.aOwed then some (.a (statusAContent s))
      else if s.line.bOwed || (s.line.bChangeOwed && !(s.line.statusCompleted f false).statusBGuard.isRunning) then
        some (.b (statusBContent s))
      else none := by
  have due : (s.line.statusCompleted f false).statusDue = (s.line.aOwed || s.line.bOwed ||
      (s.line.bChangeOwed && !(s.line.statusCompleted f false).statusBGuard.isRunning)) := by
    simp [LineInterface.statusDue, LineInterface.statusCompleted, LineInterface.completed]
  have served := State.settleStatus_statusSlot (s := s.mapLine (LineInterface.statusCompleted f false)) hearing
  rw [served, State.mapLine_node, State.mapLine_line, speaks, due]
  have marks : (s.line.statusCompleted f false).aOwed = s.line.aOwed := rfl
  rw [marks, Bool.true_and]
  cases s.line.aOwed with
  | true => rfl
  | false =>
    rw [Bool.false_or]
    rfl

/-- Settles O19, by the frame on the line. -/
theorem statusAndReportComplete : Obligations.StatusAndReportComplete := by
  intro o s on hearing
  cases void : o.void with
  | true =>
    cases frame : o.frame with
    | demand c =>
      exact ⟨s, by simp [exec, execFrameCompletion, on, frame], by simp [State.sameExcept], fun _ _ => rfl, by simp, by simp,
        fun _ h => absurd rfl (h c)⟩
    | status f =>
      exact ⟨s.mapLine fun l => { l with onLine := none }, 
        by simp only [exec, execFrameCompletion, on, frame, void, if_true], by simp [State.sameExcept], by simp, by simp, by simp, fun _ _ => rfl⟩
    | report c =>
      exact ⟨s.mapLine fun l => { l with onLine := none }, 
        by simp only [exec, execFrameCompletion, on, frame, void, if_true], by simp [State.sameExcept], by simp, by simp, by simp, fun _ _ => rfl⟩
  | false =>
    have hearing : s.line.listenOnly = false := by simpa [void] using hearing
    cases frame : o.frame with
    | demand c =>
      exact ⟨s, by simp [exec, execFrameCompletion, on, frame], by simp [State.sameExcept], fun _ _ => rfl, by simp, by simp,
        by simp⟩
    | status f =>
      obtain ⟨blocks, -, same, demand, -, status⟩ := State.finish_still (s := s)
        (u := s.mapLine (LineInterface.statusCompleted f o.replaced)) rfl rfl rfl
      refine ⟨_, by simp only [exec, execFrameCompletion, on, frame, void, Bool.false_eq_true, if_false],
        State.sameExcept_trans (by simp [State.sameExcept]) blocks (by simp), by simp, by simp, ?_, by simp⟩
      rintro _ ⟨rfl⟩ -
      refine ⟨LineInterface.sameOutsideSlots_trans (m := s.line.statusCompleted f o.replaced) ?_ same, demand, ?_, ?_⟩
      · cases f <;> exact ⟨rfl, rfl⟩
      · intro replaced some
        have kept : (s.line.statusCompleted f o.replaced).statusSlot = s.line.statusSlot := by
          simp [LineInterface.statusCompleted, replaced]
        exact (status (by rw [State.mapLine_line, kept]; exact Option.isSome_iff_ne_none.1 some)).trans kept
      · intro kept speaks
        rw [State.finish_of_content (b := s) (s := s.mapLine (LineInterface.statusCompleted f o.replaced)) rfl rfl rfl, kept,
          State.statusCompleted_served hearing speaks]
        cases f <;> simp [LineInterface.statusCompleted, LineInterface.completed]
    | report c =>
      obtain ⟨blocks, -, same, demand, report, status⟩ := State.finish_still (s := s)
        (u := s.mapLine (LineInterface.reportCompleted o.replaced)) rfl rfl rfl
      refine ⟨_, by simp only [exec, execFrameCompletion, on, frame, void, Bool.false_eq_true, if_false],
        State.sameExcept_trans (by simp [State.sameExcept]) blocks (by simp), by simp, fun _ _ _ => ⟨report, ?_, ?_, demand⟩,
        by simp, by simp⟩
      · rw [report]
        exact same
      · exact fun some => status (Option.isSome_iff_ne_none.1 some)

end Sys2Proof.Machine
end

section
/-! The timers that hand Demands and Status frames, and the Demand handed on a change of content (R5, R7 to R9). -/

namespace Sys2Proof.Machine

/-! ### Demands -/

@[simp] theorem State.handDemand_statusDue (s : State) : s.handDemand.line.statusDue = s.line.statusDue := by
  simp [State.handDemand_line, LineInterface.statusDue]

/-- An event whose one effect beyond a timer is that it hands a Demand, or hands none (R8 cases 2 and 3). -/
theorem State.finish_of_demandHanded {s t : State} (hands : Bool) (node : t.node = s.node) (drive : t.drive = s.drive)
    (content : demandContent t = demandContent s) (speaks : t.node.state.speaks = true) :
    t.line.sameOutsideSlots ((t.when hands State.handDemand).finish s).line ∧
    ((t.when hands State.handDemand).finish s).line.demandSlot =
      (if hands && !t.line.listenOnly then some (demandContent s) else t.line.demandSlot) ∧
    ((t.when hands State.handDemand).finish s).line.onLine = t.line.onLine.map
      (OnLine.afterHanding (hands && !t.line.listenOnly) (t.line.statusDue && !t.line.listenOnly) false) ∧
    t.sameExcept [.line] ((t.when hands State.handDemand).finish s) := by
  cases hands with
  | false =>
    rw [State.when_false, State.finish_of_content node drive content]
    refine ⟨t.settleStatus_same, by simp, ?_, by simp [State.sameExcept]⟩
    rw [State.settleStatus_onLine, speaks]
    simp
  | true =>
    rw [State.when_true, State.finish_of_content (s := t.handDemand) (b := s) (by simp [node]) (by simp [drive])
      (by rw [State.handDemand_content, content])]
    refine ⟨LineInterface.sameOutsideSlots_trans t.handDemand_same (State.settleStatus_same _), ?_, ?_,
      by simp [State.sameExcept]⟩
    · rw [State.settleStatus_demandSlot, State.handDemand_line, content]
      cases t.line.listenOnly <;> rfl
    · rw [State.settleStatus_onLine, State.handDemand_statusDue, show t.handDemand.node = t.node by simp, speaks,
        State.handDemand_line, Option.map_map, Bool.true_and, Bool.true_and]
      simp [Function.comp_def, OnLine.afterHanding_afterHanding]

/-- Where a change of content leaves it differing with the inhibit timer expired, a Demand is handed, whether or not one waited
(R8 cases 2 and 4). -/
theorem State.settleDemand_of_differs {v : State} {before : Demand} (speaks : v.node.state.speaks = true)
    (changed : demandContent v ≠ before) (expired : v.line.inhibit = .expired)
    (differs : (demandContent v).differs v.line.lastDemand = true) : v.settleDemand before = v.handDemand := by
  simp [State.settleDemand, speaks, changed, expired, differs]

/-- At the end of an event that changed the content so, the present Demand waits. -/
theorem State.finish_demandSlot_of_differs {s u : State} (speaks : (u.finish s).node.state.speaks = true)
    (hearing : (u.finish s).line.listenOnly = false) (changed : demandContent (u.finish s) ≠ demandContent s)
    (expired : (u.finish s).line.inhibit = .expired)
    (differs : (demandContent (u.finish s)).differs (u.finish s).line.lastDemand = true) :
    (u.finish s).line.demandSlot = some (demandContent (u.finish s)) := by
  rw [State.finish] at *
  generalize u.settleParking s = v at *
  have same := (LineInterface.sameOutsideSlots_trans (State.settleDemand_same (demandContent s) v) (State.settleStatus_same _)).1
  have inhibit : v.line.inhibit = .expired := by rw [same] at expired; exact expired
  have last : (demandContent v).differs v.line.lastDemand = true := by rw [same] at differs; simpa using differs
  have hearing' : v.line.listenOnly = false := by rw [same] at hearing; exact hearing
  have handed := State.settleDemand_of_differs (v := v) (by simpa using speaks) (by simpa using changed) inhibit last
  simp [handed, State.handDemand_line, hearing']

/-- The content differs from a Demand in a field other than the request and the interval, or by a request moved 10 LU or more
(R8 case 2). -/
theorem Demand.differs_some_iff (c d : Demand) : c.differs (some d) = true ↔
    c.cls ≠ d.cls ∨ c.source ≠ d.source ∨ c.leaving ≠ d.leaving ∨ c.isolated ≠ d.isolated ∨ c.holder ≠ d.holder ∨
    c.clutch ≠ d.clutch ∨ c.defrost ≠ d.defrost ∨ c.smoke ≠ d.smoke ∨ c.airSpace ≠ d.airSpace ∨
    c.cooling ≠ d.cooling ∨ c.take ≠ d.take ∨ 10 ≤ ((c.request : Int) - d.request).natAbs := by
  have moved : 10 ≤ ((c.request : Int) - d.request).natAbs ↔ d.request + 10 ≤ c.request ∨ c.request + 10 ≤ d.request := by
    omega
  rw [moved]
  obtain ⟨cls, source, cooling, airSpace, leaving, isolated, holder, clutch, defrost, smoke, request, take, refresh⟩ := d
  simp only [Demand.differs, Bool.or_eq_true, decide_eq_true_eq, ne_eq, Demand.mk.injEq, and_true, true_and, not_and_or]
  tauto

/-- Settles O20: the timers by the one handing that each makes, the change of content by the end that every command's event comes to
(`exec_answered`). -/
theorem demandTimersHand : Obligations.DemandTimersHand := by
  refine ⟨fun s speaks => ⟨fun running => ?_, fun running => ?_⟩, ?_, Demand.differs_some_iff⟩
  · obtain ⟨same, slot, offer, frame⟩ := State.finish_of_demandHanded (s := s)
      (t := s.mapLine fun l => { l with inhibit := .expired })
      ((demandContent s).differs s.line.lastDemand) rfl rfl rfl speaks
    refine ⟨_, ?_, same, slot, offer, State.sameExcept_trans (by simp [State.sameExcept]) frame (by simp)⟩
    simp only [exec, execInhibitTimerExpiry, running, if_true, State.mapLine_node, speaks, Bool.true_and]
    rfl
  · obtain ⟨same, slot, offer, frame⟩ := State.finish_of_demandHanded (s := s)
      (t := s.mapLine fun l => { l with refresh := .expired })
      true rfl rfl rfl speaks
    refine ⟨_, ?_, same, ?_, offer, State.sameExcept_trans (by simp [State.sameExcept]) frame (by simp)⟩
    · simp only [exec, execRefreshTimerExpiry, running, if_true, State.mapLine_node, speaks]
    · rw [slot, State.mapLine_line]
      cases s.line.listenOnly <;> rfl
  · intro c s t run speaks hearing changed expired differs
    obtain ⟨u, -, finished | ⟨quiet, same | silent⟩⟩ := exec_answered c s
    · obtain rfl : u.finish s = t := by rw [finished] at run; exact Host.Outcome.next.inj run
      exact State.finish_demandSlot_of_differs speaks hearing changed expired differs
    · obtain rfl : u = t := by rw [quiet] at run; exact Host.Outcome.next.inj run
      exact absurd same changed
    · obtain rfl : u = t := by rw [quiet] at run; exact Host.Outcome.next.inj run
      simp [silent] at speaks

/-! ### Status frames -/

theorem State.refreshStatus_same (s : State) : s.line.sameOutsideSlots s.refreshStatus.line := by
  unfold State.refreshStatus
  split
  · exact ⟨rfl, rfl⟩
  · exact s.handStatusA_same
  · exact s.handStatusB_same

@[simp] theorem State.refreshStatus_content (s : State) : demandContent s.refreshStatus = demandContent s :=
  demandContent_congr (by simp) (by simp) (by simp) (by simp) (LineInterface.isolated_of_same s.refreshStatus_same) (by simp)
    (by simp)

/-- In Listen-only the refresh of a waiting Status frame clears marks alone (R5; log entry 15). -/
theorem State.refreshStatus_of_listenOnly {s : State} (h : s.line.listenOnly = true) : s.refreshStatus.line = { s.line with
    aOwed := s.refreshStatus.line.aOwed, bOwed := s.refreshStatus.line.bOwed
    bChangeOwed := s.refreshStatus.line.bChangeOwed } := by
  unfold State.refreshStatus
  split
  · rfl
  · simp only [State.handStatusA, State.mapLine_line, LineInterface.handStatus_of_listenOnly h]
  · simp only [State.handStatusB, State.mapLine_line, LineInterface.handStatus_of_listenOnly h]

/-- The refresh of a waiting Status B leaves the scheduler nothing to do. -/
theorem State.refreshStatus_settled_b {s : State} {c : StatusB} (hearing : s.line.listenOnly = false)
    (waits : s.line.statusSlot = some (.b c)) : s.refreshStatus.settleStatus = s.handStatusB := by
  have refreshed : s.refreshStatus = s.handStatusB := by simp [State.refreshStatus, waits]
  rw [refreshed, State.settleStatus_of_not_due]
  simp [State.handStatusB_line, hearing, LineInterface.statusDue]

/-- With A owed a Status A is handed where no Status B waits: to a waiting Status A by the refresh, and to an empty slot by the
scheduler. -/
theorem State.refreshStatus_settled_a {s : State} (hearing : s.line.listenOnly = false) (speaks : s.node.state.speaks = true)
    (owed : s.line.aOwed = true) (waits : ∀ c, s.line.statusSlot ≠ some (.b c)) :
    s.refreshStatus.settleStatus = s.handStatusA := by
  cases slot : s.line.statusSlot with
  | none =>
    have refreshed : s.refreshStatus = s := by simp [State.refreshStatus, slot]
    rw [refreshed, State.settleStatus_of_hearing hearing, State.serveStatus_eq]
    simp [speaks, LineInterface.statusDue, slot, owed]
  | some f =>
    cases f with
    | a d =>
      have refreshed : s.refreshStatus = s.handStatusA := by simp [State.refreshStatus, slot]
      rw [refreshed, State.settleStatus_of_not_due]
      simp [State.handStatusA_line, hearing, LineInterface.statusDue]
    | b c => exact absurd slot (waits c)

/-- The Status timer restarts and both Status records become owed (R9). -/
def LineInterface.statusTimed (l : LineInterface) : LineInterface :=
  { l with statusTimer := Timer.start, aOwed := true, bOwed := true }

theorem execStatusTimerExpiry_eq {s : State} (running : s.line.statusTimer.isRunning = true)
    (speaks : s.node.state.speaks = true) :
    exec .statusTimerExpiry s = .next (s.mapLine LineInterface.statusTimed).refreshStatus.settleStatus := by
  have ended := State.finish_of_content (b := s) (s := (s.mapLine LineInterface.statusTimed).refreshStatus) (by simp) (by simp)
    ((s.mapLine LineInterface.statusTimed).refreshStatus_content.trans rfl)
  rw [← ended]
  simp only [exec, execStatusTimerExpiry, running, speaks, and_self, if_true]
  rfl

/-- What the refresh and the scheduler hand is marked on the offer of a Status frame. -/
theorem State.refreshStatus_settled_onLine {s : State} (speaks : s.node.state.speaks = true) (owed : s.line.aOwed = true) :
    s.refreshStatus.settleStatus.line.onLine =
      s.line.onLine.map (OnLine.afterHanding false (!s.line.listenOnly) false) := by
  cases hearing : s.line.listenOnly with
  | true =>
    have refreshed := State.refreshStatus_of_listenOnly hearing
    rw [State.settleStatus_of_listenOnly (by rw [refreshed]; exact hearing), refreshed]
    simp [OnLine.map_afterHanding_none]
  | false =>
    by_cases waits : ∃ c, s.line.statusSlot = some (.b c)
    · obtain ⟨c, waits⟩ := waits
      simp [State.refreshStatus_settled_b hearing waits, State.handStatusB_line, hearing]
    · have handed := State.refreshStatus_settled_a hearing speaks owed (not_exists.1 waits)
      simp [handed, State.handStatusA_line, hearing]

/-- The Status B guard at its expiry. -/
def LineInterface.guardExpired (l : LineInterface) : LineInterface := { l with statusBGuard := .expired }

theorem execStatusBGuardExpiry_eq {s : State} (running : s.line.statusBGuard.isRunning = true) :
    exec .statusBGuardExpiry s = .next (s.mapLine LineInterface.guardExpired).settleStatus := by
  have ended := State.finish_of_content (b := s) (s := s.mapLine LineInterface.guardExpired) rfl rfl rfl
  rw [← ended]
  simp only [exec, execStatusBGuardExpiry, running, if_true]
  rfl

/-- With the guard expired the scheduler hands nothing where a frame waits or nothing is owed (R9). -/
theorem LineInterface.statusDue_eq_false {l : LineInterface}
    (h : l.statusSlot.isSome = true ∨ (l.aOwed || l.bOwed || l.bChangeOwed) = false) : l.statusDue = false := by
  rcases h with waits | owed
  · simp [LineInterface.statusDue, Option.isNone_eq_false_iff.2 waits]
  · simp only [Bool.or_eq_false_iff] at owed
    simp [LineInterface.statusDue, owed.1.1, owed.1.2, owed.2]

/-- Settles O21: the refresh of the waiting record and the scheduler after it hand one frame between them. -/
theorem statusTimersHand : Obligations.StatusTimersHand := by
  refine fun s speaks => ⟨fun running => ?_, fun running => ?_⟩
  · have same : (s.mapLine LineInterface.statusTimed).line.sameOutsideSlots
        (s.mapLine LineInterface.statusTimed).refreshStatus.settleStatus.line :=
      LineInterface.sameOutsideSlots_trans (State.refreshStatus_same _) (State.settleStatus_same _)
    refine ⟨_, execStatusTimerExpiry_eq running speaks, by simp [State.sameExcept], ?_, ?_, ?_,
      State.refreshStatus_settled_onLine (s := s.mapLine LineInterface.statusTimed) speaks rfl, ?_, ?_, ?_⟩
    · rw [same.1]; rfl
    · rw [State.settleStatus_demandSlot, State.refreshStatus]
      split <;> simp [State.handStatusA_line, State.handStatusB_line, LineInterface.statusTimed]
    · exact LineInterface.sameOutsideSlots_trans (m := s.line.statusTimed) ⟨rfl, rfl⟩ same
    · intro silent
      have refreshed := State.refreshStatus_of_listenOnly (s := s.mapLine LineInterface.statusTimed) silent
      rw [State.settleStatus_of_listenOnly (by rw [refreshed]; exact silent), refreshed]
      rfl
    · intro c hearing waits
      rw [State.refreshStatus_settled_b (s := s.mapLine LineInterface.statusTimed) hearing waits, State.handStatusB_line]
      exact ⟨by rw [if_neg (by simp [LineInterface.statusTimed, hearing])]; rfl, rfl, rfl, rfl⟩
    · intro hearing waits
      rw [State.refreshStatus_settled_a (s := s.mapLine LineInterface.statusTimed) hearing speaks rfl waits,
        State.handStatusA_line]
      exact ⟨by rw [if_neg (by simp [LineInterface.statusTimed, hearing])]; rfl, rfl, rfl, rfl⟩
  · refine ⟨_, execStatusBGuardExpiry_eq running, by simp [State.sameExcept], by simp [LineInterface.guardExpired],
      State.settleStatus_same _, ?_, ?_, ?_, ?_⟩
    · rw [State.settleStatus_onLine, State.mapLine_node, speaks]
      rfl
    · intro silent
      rw [State.settleStatus_of_listenOnly (s := s.mapLine LineInterface.guardExpired) silent]
      rfl
    · intro hearing empty notA owed
      have due : ((s.mapLine LineInterface.guardExpired).node.state.speaks &&
          (s.mapLine LineInterface.guardExpired).line.statusDue) = true := by
        rw [Bool.or_eq_true] at owed
        simp [speaks, LineInterface.statusDue, LineInterface.guardExpired, empty, notA, owed]
      rw [State.settleStatus_of_hearing (s := s.mapLine LineInterface.guardExpired) hearing, State.serveStatus_eq, if_pos due,
        if_neg (by simp [LineInterface.guardExpired, notA]), State.handStatusB_line]
      exact ⟨by rw [if_neg (by simp [LineInterface.guardExpired, hearing])]; rfl, rfl, rfl⟩
    · intro idle
      have nothing : s.line.guardExpired.statusDue = false := LineInterface.statusDue_eq_false idle
      rw [State.settleStatus_of_not_due (by rw [State.mapLine_line, nothing, Bool.and_false])]
      rfl

end Sys2Proof.Machine
end

section
/-! The conditions that arise and end (R9, R147, R148). -/

namespace Sys2Proof.Machine

theorem NodeState.speaks_iff (n : NodeState) : n.speaks = true ↔ n = .running ∨ n = .supplyLow ∨ n = .parking := by
  cases n <;> simp [NodeState.speaks]

/-- An arising, set by set: the active set takes the condition, and of a condition in the mask the latched set while not frozen, and
the pending set or the swallowed count while frozen (R148). -/
theorem ConditionUnit.arise_eq (c : Condition) (u : ConditionUnit) : u.arise c = { u with
    active := u.active ||| c.single
    latched := if inSet u.mask c && !u.frozen then u.latched ||| c.single else u.latched
    pending := if inSet u.mask c && u.frozen && !inSet u.pending c then u.pending ||| c.single else u.pending
    swallowed := if inSet u.mask c && u.frozen && inSet u.pending c then min 255 (u.swallowed + 1) else u.swallowed } := by
  unfold ConditionUnit.arise
  cases inSet u.mask c
  · rfl
  · cases u.frozen
    · rfl
    · cases inSet u.pending c <;> rfl

theorem ConditionUnit.arise_latched (c d : Condition) (u : ConditionUnit) : inSet (u.arise c).latched d =
    (inSet u.latched d || (decide (d = c) && inSet u.mask c && !u.frozen)) := by
  rw [u.arise_eq]
  dsimp only
  cases taken : inSet u.mask c && !u.frozen with
  | true => rw [if_pos rfl, inSet_or_single, Bool.and_assoc, taken, Bool.and_true]
  | false => rw [if_neg Bool.false_ne_true, Bool.and_assoc, taken, Bool.and_false, Bool.or_false]

/-- A pending condition that arises again is swallowed, so that the pending set holds it as before. -/
theorem ConditionUnit.arise_pending (c d : Condition) (u : ConditionUnit) : inSet (u.arise c).pending d =
    (inSet u.pending d || (decide (d = c) && inSet u.mask c && u.frozen)) := by
  rw [u.arise_eq]
  dsimp only
  cases frozen : inSet u.mask c && u.frozen with
  | false => rw [Bool.false_and, Bool.and_assoc, frozen]; simp
  | true =>
    rw [Bool.true_and, Bool.and_assoc, frozen, Bool.and_true]
    cases pending : inSet u.pending c with
    | false => exact inSet_or_single _ _ _
    | true =>
      by_cases same : d = c
      · simp [same, pending]
      · simp [same]

/-- A changed active count owes a Status B in the node states that hand frames (R9). -/
theorem State.countChanged_line_eq (s : State) : s.countChanged.line = { s.line with
    bChangeOwed := s.line.bChangeOwed || s.node.state.speaks } := by
  unfold State.countChanged
  split
  next speaks => simp [speaks]
  next silent => simp [silent]

theorem State.raise_line_eq (c : Condition) (s : State) : (s.raise c).line = { s.line with
    bChangeOwed := s.line.bChangeOwed || (s.node.state.speaks && !inSet s.cond.active c) } := by
  unfold State.raise
  split
  next active => simp [active]
  next inactive => rw [State.countChanged_line_eq]; simp [inactive]

theorem State.lower_line_eq (c : Condition) (s : State) : (s.lower c).line = { s.line with
    bChangeOwed := s.line.bChangeOwed || (s.node.state.speaks && inSet s.cond.active c) } := by
  unfold State.lower
  split
  next active => rw [State.countChanged_line_eq]; simp [active]
  next inactive => simp [inactive]

/-- Settles O54, set by set. -/
theorem conditionArises : Obligations.ConditionArises := by
  intro c s
  have works : decide (s.node.state = .running ∨ s.node.state = .supplyLow ∨ s.node.state = .parking) =
      s.node.state.speaks := by
    rw [Bool.eq_iff_iff, decide_eq_true_iff, NodeState.speaks_iff]
  refine ⟨fun active => by simp [State.raise, active], fun inactive => ?_, ?_, fun d => ?_, ?_, ?_, ?_⟩
  · have arisen : (s.raise c).cond = s.cond.arise c := by rw [State.raise_cond, inactive]; rfl
    rw [arisen]
    refine ⟨fun d => ?_, ?_, ?_, ?_, s.cond.arise_latched c, s.cond.arise_pending c, ?_⟩ <;> rw [s.cond.arise_eq]
    exact inSet_or_single _ _ _
  · rw [State.lower_cond]; split <;> rfl
  · simp [State.lower_active, decide_not]
  · rw [works]; exact ⟨s.raise_line_eq c, s.lower_line_eq c⟩
  · simp [State.sameExcept]
  · simp [State.sameExcept]

end Sys2Proof.Machine
end

section
/-! The sorting of received frames and the bytes of the records sent (R1 to R4, Tables 1-2 and 1-6 to 1-9). -/

namespace Sys2Proof.Machine

/-! ### Stations -/

theorem stationOf_eq_some_iff (field : Nat) (n : Node) : stationOf field = some n ↔ field = nodeNumber n := by
  constructor
  · intro h
    unfold stationOf at h
    split at h <;> cases h <;> rfl
  · rintro rfl
    revert n
    decide

theorem nodeNumber_bounds (n : Node) : 1 ≤ nodeNumber n ∧ nodeNumber n ≤ 8 := by
  have := n.isLt
  unfold nodeNumber
  omega

theorem stationOf_eq_none_iff (field : Nat) : stationOf field = none ↔ field = 0 ∨ 8 < field := by
  simp only [Option.eq_none_iff_forall_ne_some, ne_eq, stationOf_eq_some_iff]
  constructor
  · intro nobody
    by_contra station
    exact nobody ⟨field - 1, by omega⟩ (by unfold nodeNumber; dsimp only; omega)
  · intro h n
    have := nodeNumber_bounds n
    omega

/-! ### Sorting by kind -/

/-- A data frame with an 11-bit identifier is sorted by its kind and its node field (R1, R2). -/
theorem sortFrame_eq (own : Node) (k : Nat) {field : Nat} (data : List Byte) (h : field < 16) :
    sortFrame own ⟨false, false, 16 * k + field, data⟩ =
      if k = 1 then sortAllowance data
      else if k = 2 then sortDemand own field data
      else if k = 3 then sortPanel own field data
      else if k = 4 then (if field = nodeNumber own then sortService data else .ignored)
      else if k = 5 then .ignored
      else if k = 6 ∨ k = 7 then (if field = nodeNumber own then .conflict else .ignored)
      else .outside := by
  have kind : (⟨false, false, 16 * k + field, data⟩ : Frame).kind = k := by unfold Frame.kind; dsimp only; omega
  have node : (⟨false, false, 16 * k + field, data⟩ : Frame).nodeField = field := by
    unfold Frame.nodeField; rw [kind]; dsimp only; omega
  unfold sortFrame
  rw [kind, node]
  simp only [Bool.or_self, Bool.false_eq_true, if_false, stationOf_eq_some_iff]
  split <;> simp_all

theorem sortAllowance_of_length {data : List Byte} (h : data.length ≠ 3) : sortAllowance data = .badLength := by
  unfold sortAllowance
  split
  · exact absurd rfl h
  · rfl

theorem sortDemand_own (own : Node) (data : List Byte) : sortDemand own (nodeNumber own) data = .conflict := by
  simp [sortDemand, (stationOf_eq_some_iff _ own).2 rfl]

theorem sortDemand_nobody (own : Node) {field : Nat} (h : field = 0 ∨ 8 < field) (data : List Byte) :
    sortDemand own field data = .ignored := by
  simp [sortDemand, (stationOf_eq_none_iff field).2 h]

theorem sortDemand_peer {own n : Node} (h : n ≠ own) (d : DemandBytes) :
    sortDemand own (nodeNumber n) [d.b0, d.b1, d.b2, d.b3, d.b4, d.b5, d.b6] = .demand n d := by
  simp [sortDemand, (stationOf_eq_some_iff _ n).2 rfl, h]

theorem sortDemand_peer_of_length {own n : Node} (h : n ≠ own) {data : List Byte} (length : data.length ≠ 7) :
    sortDemand own (nodeNumber n) data = .badLength := by
  simp only [sortDemand, (stationOf_eq_some_iff _ n).2 rfl, if_neg h]
  split
  · exact absurd rfl length
  · rfl

theorem sortPanel_other {own : Node} {field : Nat} (h : field ≠ nodeNumber own) (data : List Byte) :
    sortPanel own field data = .ignored := by
  simp [sortPanel, stationOf_eq_some_iff, h]

theorem sortPanel_own (own : Node) (d : PanelBytes) :
    sortPanel own (nodeNumber own) [d.b0, d.b1, d.b2, d.b3, d.b4, d.b5, d.b6, d.b7] = .panel d := by
  simp [sortPanel, stationOf_eq_some_iff]

theorem sortPanel_own_of_length (own : Node) {data : List Byte} (length : data.length ≠ 8) :
    sortPanel own (nodeNumber own) data = .badLength := by
  simp only [sortPanel, stationOf_eq_some_iff, if_true]
  split
  · exact absurd rfl length
  · rfl

/-- A Service request without operands has no further byte. -/
theorem sortService_of_rest {c : Byte} (h : c ∈ [1#8, 3#8, 5#8]) {rest : List Byte} (more : rest ≠ []) :
    sortService (c :: rest) = .badLength := by
  simp only [List.mem_cons, List.not_mem_nil, or_false] at h
  rcases h with rfl | rfl | rfl <;> simp [sortService, more]

theorem sortService_clear_of_length {rest : List Byte} (length : rest.length ≠ 3) :
    sortService (2#8 :: rest) = .badLength := by
  simp only [sortService, BitVec.reduceEq, if_false, if_true]
  split
  · exact absurd rfl length
  · rfl

theorem sortService_unlock_of_length {rest : List Byte} (length : rest.length ≠ 1) :
    sortService (4#8 :: rest) = .badLength := by
  simp only [sortService, BitVec.reduceEq, if_false, if_true]
  split
  · exact absurd rfl length
  · rfl

theorem sortService_unknown {c : Byte} (h : c = 0#8 ∨ 5#8 < c) (rest : List Byte) :
    sortService (c :: rest) = .ignored := by
  have none : c ≠ 1 ∧ c ≠ 2 ∧ c ≠ 3 ∧ c ≠ 4 ∧ c ≠ 5 := by bv_omega
  obtain ⟨h1, h2, h3, h4, h5⟩ := none
  simp only [sortService, if_neg h1, if_neg h2, if_neg h3, if_neg h4, if_neg h5]

/-- Settles O23, kind by kind. -/
theorem sortingByTable12 : Obligations.SortingByTable12 := by
  refine ⟨fun own f other => ?_, fun own k nf data field => ?_⟩
  · rcases other with h | h <;> simp [sortFrame, h]
  · dsimp only
    rw [sortFrame_eq own k data field]
    refine ⟨fun h => ?_, ?_, ?_, ?_, ?_, ?_, ?_⟩
    · rw [if_neg (by omega), if_neg (by omega), if_neg (by omega), if_neg (by omega), if_neg (by omega), if_neg (by omega)]
    · rintro rfl
      exact ⟨sortAllowance_of_length, by rintro b0 b1 b2 rfl; rfl⟩
    · rintro rfl
      refine ⟨?_, fun h => sortDemand_nobody own h data, ?_⟩
      · rintro rfl; exact sortDemand_own own data
      · rintro n other rfl
        exact ⟨sortDemand_peer_of_length other, by rintro d rfl; exact sortDemand_peer other d⟩
    · rintro rfl
      refine ⟨fun h => sortPanel_other h data, ?_⟩
      rintro rfl
      exact ⟨sortPanel_own_of_length own, by rintro d rfl; exact sortPanel_own own d⟩
    · rintro rfl
      refine ⟨fun other => if_neg other, ?_⟩
      rintro rfl
      simp only [Nat.reduceEqDiff, if_false, if_true]
      refine ⟨?_, ?_, ?_, ?_, ?_, ?_, ?_⟩
      · rintro rfl; rfl
      · rintro c rest rfl
        exact ⟨fun h => sortService_of_rest h, by rintro rfl; exact sortService_clear_of_length,
          by rintro rfl; exact sortService_unlock_of_length, fun h => sortService_unknown h rest⟩
      · rintro rfl; rfl
      · rintro rfl; rfl
      · rintro rfl; rfl
      · rintro b1 b2 b3 rfl; rfl
      · rintro b1 rfl; rfl
    · rintro rfl; rfl
    · rintro (rfl | rfl) <;> simp

end Sys2Proof.Machine
end

section
/-! The bytes of the records sent, and how they are read (R3, R4, Tables 1-5 to 1-9). -/

namespace Sys2Proof.Machine

/-! ### Fields -/

theorem lowByte_toNat {n : Nat} (h : n < 256) : (lowByte n).toNat = n := by
  simp only [lowByte, BitVec.toNat_ofNat]
  omega

theorem twoBytes_read {n : Nat} (h : n < 65536) : twoBytes (highByte n) (lowByte n) = n := by
  simp only [twoBytes, highByte, lowByte, BitVec.toNat_ofNat]
  omega

theorem lowByte_getLsbD {n i : Nat} (h : i < 8) : (lowByte n).getLsbD i = decide (n / 2 ^ i % 2 = 1) := by
  rw [lowByte, BitVec.getLsbD_ofNat, decide_eq_true h, Bool.true_and, Nat.testBit_eq_decide_div_mod_eq]

/-- Six flags in the bits of a byte, the first in bit 0 (Tables 1-6 and 1-8). -/
def flagByte (a b c d e f : Bool) : Byte :=
  lowByte (a.toNat + 2 * b.toNat + 4 * c.toNat + 8 * d.toNat + 16 * e.toNat + 32 * f.toNat)

theorem flagByte_bits : ∀ a b c d e f : Bool,
    (flagByte a b c d e f).getLsbD 0 = a ∧ (flagByte a b c d e f).getLsbD 1 = b ∧ (flagByte a b c d e f).getLsbD 2 = c ∧
    (flagByte a b c d e f).getLsbD 3 = d ∧ (flagByte a b c d e f).getLsbD 4 = e ∧ (flagByte a b c d e f).getLsbD 5 = f ∧
    (flagByte a b c d e f).getLsbD 6 = false ∧ (flagByte a b c d e f).getLsbD 7 = false := by
  decide

theorem ZoneClass.code_lt (c : ZoneClass) : c.code < 4 := by cases c <;> decide

theorem Source.code_lt (x : Source) : x.code < 5 := by cases x <;> decide

theorem ZoneClass.ofCode_code (c : ZoneClass) : ZoneClass.ofCode c.code = c := by cases c <;> rfl

theorem Source.ofCode_code (x : Source) : Source.ofCode x.code = x := by cases x <;> rfl

/-! ### The Demand -/

/-- The bytes of a Demand as a station takes them in. -/
def Demand.received (c : Demand) : DemandBytes where
  b0 := lowByte (c.cls.code + 4 * c.source.code + 32 * c.cooling.toNat + 64 * (c.airSpace - 1))
  b1 := flagByte c.leaving c.isolated c.holder c.clutch c.defrost c.smoke
  b2 := highByte c.request
  b3 := lowByte c.request
  b4 := highByte c.take
  b5 := lowByte c.take
  b6 := lowByte c.refresh

/-- The first byte holds the class, the source, cooling wanted and the air space side by side (Table 1-6). -/
theorem Demand.firstByte_read {c : Demand} (least : 1 ≤ c.airSpace) (most : c.airSpace ≤ 4) :
    c.received.b0.toNat % 4 = c.cls.code ∧ c.received.b0.toNat / 4 % 8 = c.source.code ∧
    c.received.b0.getLsbD 5 = c.cooling ∧ c.received.b0.toNat / 64 + 1 = c.airSpace := by
  have cls := c.cls.code_lt
  have source := c.source.code_lt
  have cooling := c.cooling.toNat_lt
  have number : c.received.b0.toNat =
      c.cls.code + 4 * c.source.code + 32 * c.cooling.toNat + 64 * (c.airSpace - 1) := lowByte_toNat (by omega)
  refine ⟨by omega, by omega, ?_, by omega⟩
  have bit : (c.cls.code + 4 * c.source.code + 32 * c.cooling.toNat + 64 * (c.airSpace - 1)) / 2 ^ 5 % 2 =
      c.cooling.toNat := by omega
  rw [Demand.received, lowByte_getLsbD (by omega), bit]
  cases c.cooling <;> rfl

theorem Demand.entry_received {c : Demand} (request : c.request ≤ 600) (take : c.take ≤ 600) (soonest : 5 ≤ c.refresh)
    (latest : c.refresh ≤ 20) (least : 1 ≤ c.airSpace) (most : c.airSpace ≤ 4) : c.received.entry =
    { freshness := .fresh, cls := c.cls, request := c.request, take := c.take, isolated := c.isolated
      holder := c.holder, smoke := c.smoke, source := c.source, cooling := c.cooling, airSpace := c.airSpace
      refresh := c.refresh, age := 0, held := none } := by
  obtain ⟨cls, source, cooling, airSpace⟩ := Demand.firstByte_read least most
  obtain ⟨-, isolated, holder, -, -, smoke, -⟩ :=
    flagByte_bits c.leaving c.isolated c.holder c.clutch c.defrost c.smoke
  have refresh : c.received.b6.toNat = c.refresh := lowByte_toNat (by omega)
  have asked : twoBytes c.received.b2 c.received.b3 = c.request := twoBytes_read (by omega)
  have taken : twoBytes c.received.b4 c.received.b5 = c.take := twoBytes_read (by omega)
  simp only [DemandBytes.entry, cls, source, cooling, airSpace, refresh, asked, taken, ZoneClass.ofCode_code,
    Source.ofCode_code, Nat.min_eq_right request, Nat.min_eq_right take]
  simp only [Demand.received, isolated, holder, smoke, clampNat, if_neg (Nat.not_lt.2 soonest), if_neg (Nat.not_lt.2 latest)]

/-- Settles O24: the bytes sent are those received, read field by field. -/
theorem demandRecordReadBack : Obligations.DemandRecordReadBack := by
  refine ⟨fun sender own c other request take soonest latest least most => ⟨c.received, ?_, ?_, ?_⟩, fun s => ?_⟩
  · have sorted := sortFrame_eq own 2 (field := nodeNumber sender) c.bytes (by have := nodeNumber_bounds sender; omega)
    exact sorted.trans (sortDemand_peer other c.received)
  · exact (flagByte_bits c.leaving c.isolated c.holder c.clutch c.defrost c.smoke).1
  · exact Demand.entry_received request take soonest latest least most
  · rfl

/-! ### Status A -/

theorem append_fieldBytes (x : BitVec 16) : x.extractLsb' 8 8 ++ x.extractLsb' 0 8 = x :=
  BitVec.extractLsb'_append_extractLsb'

/-- A temperature in the range of the inputs reads back as two's complement, and never as the Unavailable code (Table 1-7). -/
theorem temperatureField_read {t : Int} (least : -400 ≤ t) (most : t ≤ 1250) :
    (temperatureField (some t)).toInt = t ∧ temperatureField (some t) ≠ 0x8000#16 := by
  have value : (temperatureField (some t)).toInt = t := BitVec.toInt_ofInt_eq_self (by decide) (by omega) (by omega)
  refine ⟨value, fun unavailable => ?_⟩
  have code : (0x8000#16).toInt = -32768 := rfl
  rw [unavailable, code] at value
  omega

/-- The two bytes of a temperature field, and what they show (Table 1-7). -/
theorem temperatureField_bytes (v : Option Int) :
    match v with
    | none => (temperatureField v).extractLsb' 8 8 = 0x80#8 ∧ (temperatureField v).extractLsb' 0 8 = 0#8
    | some x => -400 ≤ x → x ≤ 1250 →
      ((temperatureField v).extractLsb' 8 8 ++ (temperatureField v).extractLsb' 0 8).toInt = x ∧
        ¬ ((temperatureField v).extractLsb' 8 8 = 0x80#8 ∧ (temperatureField v).extractLsb' 0 8 = 0#8) := by
  cases v with
  | none => decide
  | some x =>
    intro least most
    obtain ⟨value, available⟩ := temperatureField_read least most
    refine ⟨by rw [append_fieldBytes]; exact value, fun ⟨high, low⟩ => available ?_⟩
    rw [← append_fieldBytes (temperatureField (some x)), high, low]
    rfl

/-- The byte of a density, and what it shows (Table 1-7). -/
theorem smokeField_byte (v : Option Int) :
    match v with
    | none => smokeField v = 255#8
    | some x => 0 ≤ x → x ≤ 1000 → ((smokeField v).toNat : Int) = x / 4 ∧ smokeField v ≠ 255#8 := by
  cases v with
  | none => rfl
  | some x =>
    intro least most
    have value : ((smokeField (some x)).toNat : Int) = x / 4 := by
      rw [smokeField, BitVec.toNat_ofInt]
      omega
    refine ⟨value, fun unavailable => ?_⟩
    have code : (255#8).toNat = 255 := rfl
    rw [unavailable, code] at value
    omega

/-! ### Status B -/

/-- The bytes of a Status B, read field by field (Table 1-8). -/
theorem StatusB.stages_read {c : StatusB} (stages : c.stages ≤ 4) :
    (lowByte (c.stages + 16 * c.source.code)).toNat % 16 = c.stages ∧
    (lowByte (c.stages + 16 * c.source.code)).toNat / 16 = c.source.code := by
  have source := c.source.code_lt
  rw [lowByte_toNat (by omega)]
  omega

theorem sum_toNat_eq_length_filter {α : Type} (p : α → Bool) (l : List α) :
    (l.map fun x => (p x).toNat).sum = (l.filter p).length := by
  induction l with
  | nil => rfl
  | cons x l ih =>
    cases h : p x
    · simp [h, ih]
    · simp [h, ih, Nat.add_comm]

theorem Overrides.inForce_eq (o : Overrides) :
    o.inForce = (o.level.isSome || o.stages.isSome || o.fresh.isSome || o.blend.isSome) := by
  obtain ⟨level, stages, fresh, blend⟩ := o
  cases level <;> cases stages <;> cases fresh <;> cases blend <;> simp [Overrides.inForce, Overrides.none]

/-! ### The Condition Report -/

theorem append_setBytes (x : BitVec 24) : x.extractLsb' 16 8 ++ x.extractLsb' 8 8 ++ x.extractLsb' 0 8 = x := by
  rw [BitVec.extractLsb'_append_extractLsb'_eq_extractLsb' (by rfl)]
  exact BitVec.extractLsb'_append_extractLsb'

theorem reportFlags_bits : ∀ frozen pending : Bool, (lowByte (frozen.toNat + 2 * pending.toNat)).getLsbD 0 = frozen ∧
    (lowByte (frozen.toNat + 2 * pending.toNat)).getLsbD 1 = pending := by
  decide

/-- Settles O25, record by record. -/
theorem statusAndReportBytes : Obligations.StatusAndReportBytes := by
  refine ⟨fun c => ?_, fun c take stages duty fresh blend active => ?_, fun s => ?_, fun s => rfl, fun c => ?_⟩
  · exact ⟨_, _, _, _, _, _, _, _, rfl, temperatureField_bytes _, temperatureField_bytes _, temperatureField_bytes _,
      smokeField_byte _, smokeField_byte _⟩
  · obtain ⟨low, high⟩ := StatusB.stages_read stages
    exact ⟨_, _, _, _, _, _, _, _, rfl, twoBytes_read (by omega), lowByte_toNat (by omega), low, high,
      lowByte_toNat (by omega), lowByte_toNat (by omega), lowByte_toNat (by omega), flagByte_bits _ _ _ _ _ _⟩
  · exact ⟨rfl, rfl, rfl, rfl, rfl, sum_toNat_eq_length_filter _ _, rfl, rfl, rfl, rfl, rfl, rfl, Overrides.inForce_eq _⟩
  · exact ⟨_, _, _, _, _, _, _, _, rfl, append_setBytes _, append_setBytes _, fun h => lowByte_toNat (by omega),
      reportFlags_bits _ _⟩

end Sys2Proof.Machine
end

section
/-! What a handed plan does: at each channel, at each damper actuator, and at the conditions of both (R119, R121 to R124, R127, R133,
R134). -/

namespace Sys2Proof.Machine

/-! ### A trip -/

theorem State.tripChannel_drive (c : Channel) (k : TripCause) (s : State) : (s.tripChannel c k).drive =
    (s.drive.outputOff c).setChannel ((s.drive.channel c).trip (s.overCurrent c)) c := by
  unfold State.tripChannel State.when; dsimp only; (repeat' split) <;> simp

/-- The third trip locks a channel, and no earlier one does (R127). -/
theorem OutputChannel.trip_locked_iff (asserted : Bool) (c : OutputChannel) :
    (c.trip asserted).state = .locked ↔ 2 ≤ c.trips := by
  unfold OutputChannel.trip
  dsimp only
  split
  · simp; omega
  · split <;> simp <;> omega

theorem OutputChannel.trip_not_running (asserted : Bool) (c : OutputChannel) : (c.trip asserted).state ≠ .running := by
  unfold OutputChannel.trip
  dsimp only
  (repeat' split) <;> simp

theorem OutputChannel.trippedFrom_trip (c : OutputChannel) : c.trippedFrom (c.trip true) := by
  by_cases third : 2 ≤ c.trips
  · simp [OutputChannel.trippedFrom, OutputChannel.trip, third]
  · simp [OutputChannel.trippedFrom, OutputChannel.trip, third, show min 3 (c.trips + 1) ≠ 3 by omega]

/-- A trip makes its own condition active, and ChannelLocked if it locks the channel (R124, R127). -/
theorem State.tripChannel_active (c : Channel) (k : TripCause) (s : State) (d : Condition) :
    inSet (s.tripChannel c k).cond.active d = (inSet s.cond.active d || (decide (d = k.condition c) ||
      (decide (d = .channelLocked) && decide (2 ≤ (s.drive.channel c).trips)))) := by
  have locks : decide ((((s.mapDrive fun d => (d.outputOff c).setChannel ((d.channel c).trip (s.overCurrent c)) c).drive.channel
      c)).state = .locked) = decide (2 ≤ (s.drive.channel c).trips) := by
    rw [State.mapDrive_drive, DriveUnit.channel_setChannel, decide_eq_decide]
    exact OutputChannel.trip_locked_iff _ _
  unfold State.tripChannel
  dsimp only
  rw [locks]
  cases decide (2 ≤ (s.drive.channel c).trips) <;>
    cases decide (c = .clutch) && s.clutchDriven <;>
    simp [State.when, Bool.or_assoc]

/-! ### The blower -/

/-- Of the Drive Unit the taking up of a plan by the blower touches its channel and its figures alone. -/
theorem State.blowerTakesPlan_drive (s : State) : s.blowerTakesPlan.drive = { s.drive with
    blower := s.blowerTakesPlan.drive.blower
    duty := s.blowerTakesPlan.drive.duty
    ramp := s.blowerTakesPlan.drive.ramp
    stall := s.blowerTakesPlan.drive.stall
    pwm := s.blowerTakesPlan.drive.pwm } := by
  unfold State.blowerTakesPlan
  (repeat' split) <;> try rfl
  · rw [State.tripChannel_drive]; rfl
  · simp only [State.mapDrive_drive, DriveUnit.blowerStarts]; split <;> rfl
  · simp only [State.mapDrive_drive, DriveUnit.blowerStops, DriveUnit.blowerFollows]; (repeat' split) <;> rfl
  · simp only [State.mapDrive_drive, DriveUnit.blowerStops, DriveUnit.blowerFollows]; (repeat' split) <;> rfl

theorem State.blowerTakesPlan_took (s : State) : s.blowerTook s.blowerTakesPlan := by
  have plan : s.blowerTakesPlan.drive.plan = s.drive.plan := by rw [State.blowerTakesPlan_drive]
  simp only [State.blowerTook, State.blowerMeetsFault, plan]
  by_cases driven : s.drive.blower.state = .starting ∨ s.drive.blower.state = .running
  · have followed : s.blowerTakesPlan =
        s.mapDrive fun d => if d.plan.duty = 0 then d.blowerStops else d.blowerFollows := by
      rcases driven with h | h <;> simp [State.blowerTakesPlan, h]
    have notOff : s.drive.blower.state ≠ .off := by rcases driven with h | h <;> simp [h]
    rw [followed]
    by_cases none : s.drive.plan.duty = 0
    · simp [notOff, driven, none, DriveUnit.blowerStops, OutputChannel.turnOff]
    · by_cases cut : s.drive.plan.duty ≤ s.drive.duty
      · simp [notOff, driven, none, cut, DriveUnit.blowerFollows, OutputChannel.run, Timer.start]
      · simp [notOff, driven, none, cut, DriveUnit.blowerFollows, Timer.start]
  · cases state : s.drive.blower.state with
    | off =>
      by_cases none : s.drive.plan.duty = 0
      · simp [State.blowerTakesPlan, state, none]
      · by_cases asserted : s.overCurrent .blower = true
        · have trips := s.drive.blower.trippedFrom_trip
          have tripped : s.blowerTakesPlan = s.tripChannel .blower .overCurrent := by
            simp [State.blowerTakesPlan, state, none, asserted]
          rw [tripped, State.tripChannel_drive, asserted]
          simpa [none, DriveUnit.outputOff, DriveUnit.setChannel, DriveUnit.channel] using trips
        · by_cases least : s.params.minDuty = s.drive.plan.duty <;>
            simp [State.blowerTakesPlan, state, none, asserted, least, DriveUnit.blowerStarts, OutputChannel.run, Timer.start]
    | starting => exact absurd (.inl state) driven
    | running => exact absurd (.inr state) driven
    | disabled => simp [State.blowerTakesPlan, state]
    | tripped => simp [State.blowerTakesPlan, state]
    | cooldown => simp [State.blowerTakesPlan, state]
    | locked => simp [State.blowerTakesPlan, state]

/-- The condition of a trip met on the way out of Off, and ChannelLocked with it at the third trip (R124, R127). -/
def tripAdds (met : Prop) [Decidable met] (c : Channel) (trips : Nat) (d : Condition) : Bool :=
  decide met && (decide (d = c.tripCondition) || (decide (d = .channelLocked) && decide (2 ≤ trips)))

theorem State.blowerTakesPlan_active (s : State) (d : Condition) : inSet s.blowerTakesPlan.cond.active d =
    (inSet s.cond.active d || tripAdds (s.blowerMeetsFault s) .blower s.drive.blower.trips d) := by
  unfold State.blowerTakesPlan
  split
  next state =>
    by_cases none : s.drive.plan.duty = 0
    · simp [tripAdds, State.blowerMeetsFault, none]
    · by_cases asserted : s.overCurrent .blower = true
      · simp [tripAdds, State.blowerMeetsFault, state, none, asserted, State.tripChannel_active]
        rfl
      · simp [tripAdds, State.blowerMeetsFault, none, asserted]
  all_goals next state => simp [tripAdds, State.blowerMeetsFault, state]

/-! ### The heater group -/

theorem State.settleHeater_drive (s : State) : s.settleHeater.drive = { s.drive with
    heater := s.settleHeater.drive.heater
    stages := s.settleHeater.drive.stages } := by
  unfold State.settleHeater
  dsimp only
  (repeat' split) <;> try rfl
  all_goals rw [State.tripChannel_drive]; rfl

/-- The stages of the plan in force that the interlock permits (R122). -/
theorem State.interlockPermits_eq {s : State} (h : s.drive.heater.state = .off ∨ s.drive.heater.state = .running) :
    (if s.interlockPermits then s.drive.plan.stages else 0) = s.stagesPermitted s := by
  have rests : (decide (s.drive.heater.state = .off) || decide (s.drive.heater.state = .running)) = true := by simpa using h
  simp [State.stagesPermitted, State.interlockPermits, rests]

theorem State.settleHeater_took (s : State) : s.heaterTook s.settleHeater := by
  have permitted : s.stagesPermitted s.settleHeater = s.stagesPermitted s := by
    rw [State.stagesPermitted, State.settleHeater_drive]
  simp only [State.heaterTook, State.heaterMeetsFault, permitted]
  unfold State.settleHeater
  cases state : s.drive.heater.state with
  | off =>
    rw [State.interlockPermits_eq (.inl state)]
    by_cases none : s.stagesPermitted s = 0
    · simp [none]
    · by_cases asserted : s.overCurrent .heater = true
      · have trips := s.drive.heater.trippedFrom_trip
        simpa [state, none, asserted, State.tripChannel_drive, DriveUnit.outputOff, DriveUnit.setChannel, DriveUnit.channel]
          using trips
      · simp [state, none, asserted, OutputChannel.run, Timer.start]
  | running =>
    rw [State.interlockPermits_eq (.inr state)]
    by_cases none : s.stagesPermitted s = 0
    · simp [none, OutputChannel.turnOff]
    · simp [none]
  | disabled => simp
  | starting => simp
  | tripped => simp
  | cooldown => simp
  | locked => simp

theorem State.settleHeater_active (s : State) (d : Condition) : inSet s.settleHeater.cond.active d =
    (inSet s.cond.active d || tripAdds (s.heaterMeetsFault s) .heater s.drive.heater.trips d) := by
  unfold State.settleHeater
  dsimp only
  split
  next state =>
    rw [State.interlockPermits_eq (.inl state)]
    by_cases none : s.stagesPermitted s = 0
    · simp [tripAdds, State.heaterMeetsFault, none]
    · by_cases asserted : s.overCurrent .heater = true
      · simp [tripAdds, State.heaterMeetsFault, state, none, asserted, State.tripChannel_active]
        rfl
      · simp [tripAdds, State.heaterMeetsFault, none, asserted]
  next state =>
    rw [State.interlockPermits_eq (.inr state)]
    split <;> simp [tripAdds, State.heaterMeetsFault, state]
  all_goals next state => simp [tripAdds, State.heaterMeetsFault, state]

/-! ### The clutch -/

theorem State.clutchTakesPlan_drive (s : State) : s.clutchTakesPlan.drive =
    { s.drive with clutch := s.clutchTakesPlan.drive.clutch } := by
  unfold State.clutchTakesPlan
  (repeat' split) <;> try rfl
  rw [State.tripChannel_drive]; rfl

theorem State.clutchTakesPlan_took (s : State) : s.clutchTook s.clutchTakesPlan := by
  have plan : s.clutchTakesPlan.drive.plan = s.drive.plan := by rw [State.clutchTakesPlan_drive]
  simp only [State.clutchTook, State.clutchMeetsFault, plan]
  unfold State.clutchTakesPlan
  cases state : s.drive.clutch.state with
  | off =>
    by_cases none : s.drive.plan.clutch = false
    · simp [none]
    · by_cases asserted : s.overCurrent .clutch = true
      · have trips := s.drive.clutch.trippedFrom_trip
        simpa [state, none, asserted, State.tripChannel_drive, DriveUnit.outputOff, DriveUnit.setChannel, DriveUnit.channel]
          using trips
      · simp [state, none, asserted, OutputChannel.run, Timer.start]
  | running => cases none : s.drive.plan.clutch <;> simp [OutputChannel.turnOff]
  | disabled => simp
  | starting => simp
  | tripped => simp
  | cooldown => simp
  | locked => simp

theorem State.clutchTakesPlan_active (s : State) (d : Condition) : inSet s.clutchTakesPlan.cond.active d =
    (inSet s.cond.active d || tripAdds (s.clutchMeetsFault s) .clutch s.drive.clutch.trips d) := by
  unfold State.clutchTakesPlan
  split
  next state =>
    by_cases called : s.drive.plan.clutch = true
    · by_cases asserted : s.overCurrent .clutch = true
      · simp [tripAdds, State.clutchMeetsFault, state, called, asserted, State.tripChannel_active]
        rfl
      · simp [tripAdds, State.clutchMeetsFault, called, asserted]
    · simp [tripAdds, State.clutchMeetsFault, called]
  next state => split <;> simp [tripAdds, State.clutchMeetsFault, state]
  all_goals next state => simp [tripAdds, State.clutchMeetsFault, state]

/-- A trip while the clutch output is not driven reports nothing of it. -/
theorem State.tripChannel_air_of_undriven {s : State} (h : s.clutchDriven = false) (c : Channel) (k : TripCause) :
    (s.tripChannel c k).air = s.air := by
  unfold State.tripChannel State.when
  dsimp only
  simp only [h, Bool.and_false, Bool.false_eq_true, if_false]
  split <;> simp

/-- The clutch output's report to the short-cycle timers, of the Air Unit alone (R95, R123). -/
theorem State.clutchTakesPlan_reported (s : State) : s.clutchReported s.clutchTakesPlan ∧
    s.clutchTakesPlan.air = { s.air with minOn := s.clutchTakesPlan.air.minOn, minOff := s.clutchTakesPlan.air.minOff } := by
  unfold State.clutchTakesPlan
  cases state : s.drive.clutch.state with
  | off =>
    have undriven : s.clutchDriven = false := by simp [State.clutchDriven, state]
    by_cases called : s.drive.plan.clutch = true
    · by_cases asserted : s.overCurrent .clutch = true
      · have tripped : (s.tripChannel .clutch .overCurrent).clutchDriven = false := by
          rw [State.clutchDriven, State.tripChannel_drive]
          exact decide_eq_false (OutputChannel.trip_not_running _ _)
        simp [called, asserted, State.clutchReported, undriven, tripped, State.tripChannel_air_of_undriven undriven]
      · simp [State.clutchReported, called, state, asserted, State.clutchDriven, OutputChannel.run, AirUnit.clutchEngaged,
          Timer.start]
    · simp [State.clutchReported, called]
  | running =>
    cases called : s.drive.plan.clutch <;>
      simp [State.clutchReported, state, State.clutchDriven, OutputChannel.turnOff, AirUnit.clutchReleased, Timer.start]
  | disabled => simp [State.clutchReported]
  | starting => simp [State.clutchReported]
  | tripped => simp [State.clutchReported]
  | cooldown => simp [State.clutchReported]
  | locked => simp [State.clutchReported]

end Sys2Proof.Machine
end

section
/-! A handed plan as a whole, and the plan made anew at a fall of the take (R64, R119, R133, R134). -/

namespace Sys2Proof.Machine

/-! ### An actuator under a plan -/

theorem Actuator.halted_eq (a : Actuator) : a.halted = a.stopDrive := by
  obtain ⟨state, position, target, drive, last, resume, stalls, stallTimer, coast, reversal, homing, retry⟩ := a
  cases drive <;> rfl

theorem Actuator.atTarget_iff (a : Actuator) : a.atTarget = true ↔ a.near := by
  simp [Actuator.atTarget, Actuator.near]

theorem Actuator.heldFrom_hold (r : Resume) (a : Actuator) : a.heldFrom r (a.hold r) := by
  rw [Actuator.heldFrom, Actuator.halted_eq]
  rfl

/-- An Idle actuator off target under a plan that frees the dampers starts (R135). -/
theorem Actuator.started_startTest {a : Actuator} (far : ¬ a.near) :
    a.started (({ a with state := .idle } : Actuator).startTest false false) := by
  have away : ({ a with state := .idle } : Actuator).atTarget = false := by
    rw [Bool.eq_false_iff]; exact fun h => far ((Actuator.atTarget_iff _).1 h)
  simp only [Actuator.started, Actuator.startTest, away, Bool.or_self, Bool.false_eq_true, if_false]
  rfl

/-- Leaving Held to Idle is a completed move where p is at target, and otherwise a start test (R133, R135). -/
theorem Actuator.idleAndTest_spec (asleep : Bool) (a : Actuator) :
    (if a.near then (a.idleAndTest false asleep).act = { a with state := .idle, stalls := 0 }
      else if asleep then (a.idleAndTest false asleep).act = { a with state := .idle }
      else a.started (a.idleAndTest false asleep).act) ∧
    (a.idleAndTest false asleep).cond = if a.near then some false else none := by
  by_cases near : a.near
  · have at' := (Actuator.atTarget_iff a).2 near
    have rests : ({ a with state := .idle, stalls := 0 } : Actuator).atTarget = true := at'
    rw [if_pos near, if_pos near, Actuator.idleAndTest, if_pos at']
    simp [Actuator.completedMove, Actuator.startTest, rests]
  · have away : ¬ a.atTarget = true := fun h => near ((Actuator.atTarget_iff a).1 h)
    rw [if_neg near, if_neg near, Actuator.idleAndTest, if_neg away]
    refine ⟨?_, rfl⟩
    cases asleep with
    | true => simp [Actuator.quietly, Actuator.startTest]
    | false => exact Actuator.started_startTest near

theorem Actuator.takePlan_taken (held asleep : Bool) (a : Actuator) : a.planTaken held asleep (a.takePlan held asleep).act := by
  cases held with
  | true =>
    simp only [Actuator.planTaken, Actuator.takePlan, if_true]
    cases a.state with
    | homing => exact a.heldFrom_hold .homing
    | moving => exact a.heldFrom_hold .moving
    | reversing => exact a.heldFrom_hold .reversing
    | idle =>
      by_cases near : a.near
      · simp [near, (Actuator.atTarget_iff a).2 near, Actuator.quietly]
      · have away : ¬ a.atTarget = true := fun h => near ((Actuator.atTarget_iff a).1 h)
        simp only [if_neg near, if_neg away]
        exact a.heldFrom_hold .idle
    | _ => rfl
  | false =>
    simp only [Actuator.planTaken, Actuator.takePlan, Bool.false_eq_true, if_false]
    cases a.state with
    | unhomed => rfl
    | held =>
      have tested := (({ a with resume := none } : Actuator).idleAndTest_spec asleep).1
      simp only [Actuator.resumed]
      cases a.resume with
      | none => exact tested
      | some r =>
        cases r with
        | homing => rfl
        | reversing => rfl
        | moving => exact tested
        | idle => exact tested
    | _ => rfl

theorem Actuator.resumed_cond (asleep : Bool) (a : Actuator) : (a.resumed asleep).cond =
    if a.resume ≠ some .homing ∧ a.resume ≠ some .reversing ∧ a.near then some false else none := by
  have tested := (({ a with resume := none } : Actuator).idleAndTest_spec asleep).2
  simp only [Actuator.resumed]
  cases a.resume with
  | none => simpa using tested
  | some r =>
    cases r with
    | homing => rfl
    | reversing => rfl
    | moving => simpa using tested
    | idle => simpa using tested

theorem Actuator.takePlan_cond (held asleep : Bool) (a : Actuator) :
    (a.takePlan held asleep).cond = if a.planCompletes held then some false else none := by
  simp only [Actuator.planCompletes, Actuator.takePlan]
  cases held with
  | true => cases a.state <;> rfl
  | false =>
    simp only [Bool.false_eq_true, if_false, true_and]
    cases a.state with
    | held => simpa only [true_and] using a.resumed_cond asleep
    | _ => rfl

/-- What an act of an actuator does to the active set (R138). -/
theorem State.applyActuator_active (x : Damper) (r : ActuatorStep) (s : State) (d : Condition) :
    inSet (s.applyActuator x r).cond.active d =
      if d = x.stallCondition then r.cond.getD (inSet s.cond.active d) else inSet s.cond.active d := by
  unfold State.applyActuator
  cases r.cond with
  | none => simp
  | some b => simp

theorem State.actuatorTakesPlan_drive (x : Damper) (s : State) : (s.actuatorTakesPlan x).drive =
    s.drive.setActuator ((s.drive.actuator x).takePlan s.drive.plan.held s.asleep).act x :=
  State.applyActuator_drive _ _ _

theorem State.actuatorTakesPlan_active (x : Damper) (s : State) (d : Condition) :
    inSet (s.actuatorTakesPlan x).cond.active d = (inSet s.cond.active d &&
      !decide (d = x.stallCondition ∧ (s.drive.actuator x).planCompletes s.drive.plan.held)) := by
  rw [State.actuatorTakesPlan, State.applyActuator_active, Actuator.takePlan_cond]
  by_cases stall : d = x.stallCondition
  · by_cases completes : (s.drive.actuator x).planCompletes s.drive.plan.held
    · rw [if_pos completes, if_pos stall, decide_eq_true ⟨stall, completes⟩]
      simp
    · rw [if_neg completes, if_pos stall, decide_eq_false fun h => completes h.2]
      simp
  · simp [stall]

/-! ### The channels under a plan -/

theorem State.overCurrent_congr {s t : State} (input : t.input = s.input) (c : Channel) : t.overCurrent c = s.overCurrent c := by
  rw [State.overCurrent, State.overCurrent, State.lineLevel, State.lineLevel, input]

/-- What the blower has become rests on its own part of the Drive Unit and the plan. -/
theorem State.blowerTook_congr {s t u : State} (h : s.blowerTook t) (plan : u.drive.plan = t.drive.plan)
    (blower : u.drive.blower = t.drive.blower) (duty : u.drive.duty = t.drive.duty) (ramp : u.drive.ramp = t.drive.ramp)
    (stall : u.drive.stall = t.drive.stall) (pwm : u.drive.pwm = t.drive.pwm) : s.blowerTook u := by
  simpa only [State.blowerTook, State.blowerMeetsFault, plan, blower, duty, ramp, stall, pwm] using h

/-- What the heater group has become rests on it, the stages, the blower's drive and the plan, before and after. -/
theorem State.heaterTook_congr {s s' t u : State} (h : s'.heaterTook t) (heater' : s'.drive.heater = s.drive.heater)
    (stages' : s'.drive.stages = s.drive.stages) (params : s'.params = s.params) (input : s'.input = s.input)
    (plan : u.drive.plan = t.drive.plan) (blower : u.drive.blower = t.drive.blower) (duty : u.drive.duty = t.drive.duty)
    (heater : u.drive.heater = t.drive.heater) (stages : u.drive.stages = t.drive.stages) : s.heaterTook u := by
  simpa only [State.heaterTook, State.heaterMeetsFault, State.stagesPermitted, heater', stages', params,
    State.overCurrent_congr input, plan, blower, duty, heater, stages] using h

/-- What the clutch has become rests on it and the plan, before and after. -/
theorem State.clutchTook_congr {s s' t u : State} (h : s'.clutchTook t) (clutch' : s'.drive.clutch = s.drive.clutch)
    (input : s'.input = s.input) (plan : u.drive.plan = t.drive.plan) (clutch : u.drive.clutch = t.drive.clutch) :
    s.clutchTook u := by
  simpa only [State.clutchTook, State.clutchMeetsFault, clutch', State.overCurrent_congr input, plan, clutch] using h

theorem tripAdds_congr {p q : Prop} [Decidable p] [Decidable q] (h : p ↔ q) (c : Channel) (trips : Nat) (d : Condition) :
    tripAdds p c trips d = tripAdds q c trips d := by
  simp only [tripAdds, h]

/-- The trips met on the way out of Off, each by its own channel, in the active set after the channels took up the plan. -/
theorem State.channelsTakePlan_active (s : State) (d : Condition) : inSet s.channelsTakePlan.cond.active d =
    (inSet s.cond.active d || tripAdds (s.blowerMeetsFault s.channelsTakePlan) .blower s.drive.blower.trips d ||
      tripAdds (s.heaterMeetsFault s.channelsTakePlan) .heater s.drive.heater.trips d ||
      tripAdds (s.clutchMeetsFault s.channelsTakePlan) .clutch s.drive.clutch.trips d) := by
  have driveB := s.blowerTakesPlan_drive
  have driveH := s.blowerTakesPlan.settleHeater_drive
  have driveC := s.blowerTakesPlan.settleHeater.clutchTakesPlan_drive
  have clutch : s.blowerTakesPlan.settleHeater.drive.clutch = s.drive.clutch := by rw [driveH, driveB]
  have heater : s.blowerTakesPlan.drive.heater = s.drive.heater := by rw [driveB]
  have plan : s.channelsTakePlan.drive.plan = s.drive.plan := by rw [State.channelsTakePlan, driveC, driveH, driveB]
  have planH : s.blowerTakesPlan.settleHeater.drive.plan = s.drive.plan := by rw [driveH, driveB]
  have blower : s.channelsTakePlan.drive.blower = s.blowerTakesPlan.drive.blower := by rw [State.channelsTakePlan, driveC, driveH]
  have duty : s.channelsTakePlan.drive.duty = s.blowerTakesPlan.drive.duty := by rw [State.channelsTakePlan, driveC, driveH]
  have planB : s.blowerTakesPlan.drive.plan = s.drive.plan := by rw [driveB]
  have meetsB : s.blowerMeetsFault s ↔ s.blowerMeetsFault s.channelsTakePlan := by simp only [State.blowerMeetsFault, plan]
  have meetsH : s.blowerTakesPlan.heaterMeetsFault s.blowerTakesPlan ↔ s.heaterMeetsFault s.channelsTakePlan := by
    simp only [State.heaterMeetsFault, State.stagesPermitted, heater, plan, planB, blower, duty,
      State.overCurrent_congr (s := s) (t := s.blowerTakesPlan) (by simp), State.blowerTakesPlan_frame]
  have meetsC : s.blowerTakesPlan.settleHeater.clutchMeetsFault s.blowerTakesPlan.settleHeater ↔
      s.clutchMeetsFault s.channelsTakePlan := by
    simp only [State.clutchMeetsFault, clutch, plan, planH,
      State.overCurrent_congr (s := s) (t := s.blowerTakesPlan.settleHeater) (by simp)]
  rw [State.channelsTakePlan, State.clutchTakesPlan_active, State.settleHeater_active, State.blowerTakesPlan_active,
    tripAdds_congr meetsB, tripAdds_congr meetsH, tripAdds_congr meetsC, clutch, heater]
  rfl

/-- The three channels take up the plan in force one after the other, the conditions of their trips with them. -/
theorem State.channelsTakePlan_took (s : State) : s.channelsTook s.channelsTakePlan := by
  have driveB := s.blowerTakesPlan_drive
  have driveH := s.blowerTakesPlan.settleHeater_drive
  have driveC := s.blowerTakesPlan.settleHeater.clutchTakesPlan_drive
  have active := s.channelsTakePlan_active
  refine ⟨?_, ?_, ?_, ?_, ?_, ?_, ?_, ?_⟩
  · refine State.blowerTook_congr s.blowerTakesPlan_took ?_ ?_ ?_ ?_ ?_ ?_ <;> rw [State.channelsTakePlan, driveC, driveH]
  · refine State.heaterTook_congr s.blowerTakesPlan.settleHeater_took ?_ ?_ (by simp) (by simp) ?_ ?_ ?_ ?_ ?_
    · rw [driveB]
    · rw [driveB]
    all_goals rw [State.channelsTakePlan, driveC]
  · refine State.clutchTook_congr s.blowerTakesPlan.settleHeater.clutchTakesPlan_took ?_ (by simp) rfl rfl
    rw [driveH, driveB]
  all_goals
    rw [active]
    simp [tripAdds, Channel.tripCondition, Bool.decide_and]

/-- What the channels have become rests on the Drive Unit without the actuators, and on the conditions of the channels. -/
theorem State.channelsTook_congr {s t u : State} (h : s.channelsTook t)
    (drive : u.drive = { t.drive with fresh := u.drive.fresh, blend := u.drive.blend })
    (conds : ∀ d, (∀ x : Damper, d ≠ x.stallCondition) → inSet u.cond.active d = inSet t.cond.active d) :
    s.channelsTook u := by
  obtain ⟨blower, heater, clutch, others⟩ := h
  refine ⟨?_, ?_, ?_, ?_⟩
  · refine State.blowerTook_congr blower ?_ ?_ ?_ ?_ ?_ ?_ <;> rw [drive]
  · refine State.heaterTook_congr heater rfl rfl rfl rfl ?_ ?_ ?_ ?_ ?_ <;> rw [drive]
  · refine State.clutchTook_congr clutch rfl rfl ?_ ?_ <;> rw [drive]
  · have plan : u.drive.plan = t.drive.plan := by rw [drive]
    have blower : u.drive.blower = t.drive.blower := by rw [drive]
    have duty : u.drive.duty = t.drive.duty := by rw [drive]
    have away (d : Condition) (h : d ≠ .freshDamperStall ∧ d ≠ .blendDamperStall) :=
      conds d fun x => by cases x; exacts [h.1, h.2]
    simpa only [State.blowerMeetsFault, State.heaterMeetsFault, State.clutchMeetsFault, State.stagesPermitted, plan, blower, duty,
      away .blowerTrip (by decide), away .heaterTrip (by decide), away .clutchTrip (by decide), away .blowerStall (by decide),
      away .channelLocked (by decide)] using others

/-! ### A handed plan -/

/-- The taking up of a plan by the channels leaves the plan and the actuators alone. -/
theorem State.channelsTakePlan_dampers (s : State) : s.channelsTakePlan.drive.plan = s.drive.plan ∧
    ∀ x : Damper, s.channelsTakePlan.drive.actuator x = s.drive.actuator x := by
  have drive : s.channelsTakePlan.drive = { s.drive with
      blower := s.channelsTakePlan.drive.blower, heater := s.channelsTakePlan.drive.heater
      clutch := s.channelsTakePlan.drive.clutch, duty := s.channelsTakePlan.drive.duty
      ramp := s.channelsTakePlan.drive.ramp, stall := s.channelsTakePlan.drive.stall
      pwm := s.channelsTakePlan.drive.pwm, stages := s.channelsTakePlan.drive.stages } := by
    rw [State.channelsTakePlan, State.clutchTakesPlan_drive, State.settleHeater_drive, State.blowerTakesPlan_drive]
  rw [drive]
  exact ⟨rfl, fun x => by cases x <;> rfl⟩

theorem State.channelsTakePlan_stallCondition (x : Damper) (s : State) :
    inSet s.channelsTakePlan.cond.active x.stallCondition = inSet s.cond.active x.stallCondition := by
  rw [State.channelsTakePlan_active]
  cases x <;> simp [tripAdds, Channel.tripCondition, Damper.stallCondition]

/-- What a handed plan does at the channels, the actuators and their conditions (R119, R121 to R124, R133). -/
theorem State.handPlan_took (q : Plan) (s : State) : s.planTook (s.handPlan q) ∧ (s.handPlan q).drive.plan = q := by
  obtain ⟨plan, dampers⟩ := (s.mapDrive fun d => { d with plan := q }).channelsTakePlan_dampers
  have stalls (x : Damper) := (s.mapDrive fun d => { d with plan := q }).channelsTakePlan_stallCondition x
  have channels := (s.mapDrive fun d => { d with plan := q }).channelsTakePlan_took
  have asleep : (s.mapDrive fun d => { d with plan := q }).channelsTakePlan.asleep = s.asleep := by simp [State.asleep]
  have dampers (x : Damper) : (s.mapDrive fun d => { d with plan := q }).channelsTakePlan.drive.actuator x =
      s.drive.actuator x := (dampers x).trans (by cases x <;> rfl)
  unfold State.handPlan
  generalize (s.mapDrive fun d => { d with plan := q }).channelsTakePlan = t at *
  have freshAsleep : (t.actuatorTakesPlan .fresh).asleep = s.asleep := by rw [← asleep]; simp [State.asleep]
  have drive : ((t.actuatorTakesPlan .fresh).actuatorTakesPlan .blend).drive = { t.drive with
      fresh := (t.drive.fresh.takePlan t.drive.plan.held s.asleep).act
      blend := (t.drive.blend.takePlan t.drive.plan.held s.asleep).act } := by
    rw [State.actuatorTakesPlan_drive, State.actuatorTakesPlan_drive, asleep, freshAsleep]
    rfl
  have held : t.drive.plan.held = q.held := by rw [plan]; rfl
  refine ⟨⟨?_, fun x => ⟨?_, ?_⟩⟩, by rw [drive]; exact plan⟩
  · refine State.channelsTook_congr (s := s) channels (by rw [drive]) fun d others => ?_
    simp [State.actuatorTakesPlan_active, others .fresh, others .blend]
  · rw [drive, ← dampers x]
    cases x <;> exact Actuator.takePlan_taken _ _ _
  · have first : (t.actuatorTakesPlan .fresh).drive.actuator .blend = t.drive.actuator .blend ∧
        (t.actuatorTakesPlan .fresh).drive.plan = t.drive.plan := by rw [State.actuatorTakesPlan_drive]; exact ⟨rfl, rfl⟩
    have stall : inSet s.cond.active x.stallCondition = inSet t.cond.active x.stallCondition := (stalls x).symm
    rw [stall]
    simp only [drive, State.actuatorTakesPlan_active, first, ← dampers x]
    cases x <;> simp [Damper.stallCondition]

end Sys2Proof.Machine
end

section
/-! The plan made anew at a fall of the take, and Isolated set and cleared (R13, R62 to R64). -/

namespace Sys2Proof.Machine

/-! ### The short-cycle timers under a plan -/

theorem State.clutchReported_congr {s s' t t' : State} (h : s'.clutchReported t')
    (clutch : s'.drive.clutch = s.drive.clutch) (air : s'.air = s.air) (clutch' : t'.drive.clutch = t.drive.clutch)
    (air' : t'.air = t.air) : s.clutchReported t := by
  have driven : s'.clutchDriven = s.clutchDriven := by rw [State.clutchDriven, clutch]; rfl
  have driven' : t'.clutchDriven = t.clutchDriven := by rw [State.clutchDriven, clutch']; rfl
  simpa only [State.clutchReported, driven, air, driven', air'] using h

/-- A handed plan reports the clutch output, and touches nothing else of the Air Unit (R95, R123). -/
theorem State.handPlan_reported (q : Plan) (s : State) : s.clutchReported (s.handPlan q) ∧
    (s.handPlan q).air = { s.air with minOn := (s.handPlan q).air.minOn, minOff := (s.handPlan q).air.minOff } := by
  obtain ⟨reported, air⟩ := (s.mapDrive fun d => { d with plan := q }).blowerTakesPlan.settleHeater.clutchTakesPlan_reported
  have clutch : (s.mapDrive fun d => { d with plan := q }).blowerTakesPlan.settleHeater.drive.clutch = s.drive.clutch := by
    rw [State.settleHeater_drive, State.blowerTakesPlan_drive]; rfl
  have handed : (s.handPlan q).air = (s.mapDrive fun d => { d with plan := q }).channelsTakePlan.air := by
    simp [State.handPlan]
  have driven : (s.handPlan q).drive.clutch = (s.mapDrive fun d => { d with plan := q }).channelsTakePlan.drive.clutch := by
    simp only [State.handPlan, State.actuatorTakesPlan_drive]
    rfl
  refine ⟨State.clutchReported_congr reported clutch (by simp) driven.symm handed.symm, ?_⟩
  rw [handed, State.channelsTakePlan, air]
  simp

/-! ### The plan made anew at a fall of the take -/

/-- A change of the take makes the plan anew exactly when the applied take falls (R64). -/
theorem State.changeTake_replanned (f : ShareUnit → ShareUnit) (s : State) : s.replannedOnFall (s.changeTake f) := by
  unfold State.replannedOnFall
  rw [State.changeTake_share]
  by_cases fell : (f s.share).applied < s.share.applied
  · have made : s.changeTake f =
        (s.mapShare f).handPlan (split s.params (f s.share).applied s.wants) := by
      simp [State.changeTake, State.makePlan, fell, State.wants]
    obtain ⟨took, plan⟩ := (s.mapShare f).handPlan_took (split s.params (f s.share).applied s.wants)
    obtain ⟨reported, air⟩ := (s.mapShare f).handPlan_reported (split s.params (f s.share).applied s.wants)
    rw [made]
    exact ⟨fun _ => ⟨plan, took⟩, fun kept => absurd fell (by omega), air, reported⟩
  · have kept : s.changeTake f = s.mapShare f := by simp [State.changeTake, fell]
    rw [kept]
    have driven : (s.mapShare f).clutchDriven = s.clutchDriven := rfl
    exact ⟨fun h => absurd h fell, fun _ => ⟨rfl, rfl⟩, rfl, by simp [State.clutchReported, driven]⟩

/-- Two states alike in the Drive Unit, the Air Unit, the take, and the conditions of the Drive Unit. -/
structure State.DrivesAs (s t : State) : Prop where
  drive : t.drive = s.drive
  air : t.air = s.air
  applied : t.share.applied = s.share.applied
  active : ∀ d : Condition, d.ofDrive = true → inSet t.cond.active d = inSet s.cond.active d

theorem State.DrivesAs.trans {s t u : State} (h : s.DrivesAs t) (k : t.DrivesAs u) : s.DrivesAs u where
  drive := k.drive.trans h.drive
  air := k.air.trans h.air
  applied := k.applied.trans h.applied
  active d hd := (k.active d hd).trans (h.active d hd)

theorem State.planTook_congr {s s' t t' : State} (h : s'.planTook t') (before : s.DrivesAs s') (params : s'.params = s.params)
    (input : s'.input = s.input) (node : s'.node = s.node) (after : t.DrivesAs t') : s.planTook t := by
  have asleep : s'.asleep = s.asleep := by rw [State.asleep, node]; rfl
  have stall (x : Damper) := before.active x.stallCondition x.stallCondition_ofDrive
  have stall' (x : Damper) := after.active x.stallCondition x.stallCondition_ofDrive
  simpa only [State.planTook, State.channelsTook, State.blowerTook, State.heaterTook, State.clutchTook, State.blowerMeetsFault,
    State.heaterMeetsFault, State.clutchMeetsFault, State.stagesPermitted, State.overCurrent_congr input, before.drive, params,
    asleep, after.drive, stall, stall', before.active .blowerTrip rfl, before.active .blowerStall rfl, before.active .heaterTrip rfl,
    before.active .clutchTrip rfl, before.active .channelLocked rfl, after.active .blowerTrip rfl, after.active .blowerStall rfl,
    after.active .heaterTrip rfl, after.active .clutchTrip rfl, after.active .channelLocked rfl] using h

/-- What a change of the take does rests on the blocks it reads and on those it writes. -/
theorem State.replannedOnFall_congr {s s' t t' : State} (h : s'.replannedOnFall t') (before : s.DrivesAs s')
    (params : s'.params = s.params) (input : s'.input = s.input) (node : s'.node = s.node) (after : t.DrivesAs t') :
    s.replannedOnFall t := by
  obtain ⟨fell, kept, air, reported⟩ := h
  have wants : s'.wants = s.wants := by rw [State.wants, before.air]; rfl
  refine ⟨fun h => ?_, fun h => ?_, ?_, ?_⟩
  · obtain ⟨plan, took⟩ := fell (by rw [before.applied, after.applied]; exact h)
    rw [after.drive, after.applied, params, wants] at plan
    exact ⟨plan, State.planTook_congr took before params input node after⟩
  · obtain ⟨drive, air⟩ := kept (by rw [before.applied, after.applied]; exact h)
    exact ⟨by rw [← after.drive, drive, before.drive], by rw [← after.air, air, before.air]⟩
  · rw [after.air, before.air] at air
    exact air
  · exact State.clutchReported_congr reported (by rw [before.drive]) before.air (by rw [after.drive]) after.air

/-! ### Isolated -/

theorem State.raise_drivesAs {c : Condition} (h : c.ofDrive = false) (s : State) : s.DrivesAs (s.raise c) :=
  ⟨by simp, by simp, by simp, fun d hd => by
    have other : d ≠ c := (Condition.ne_of_ofDrive h hd).symm
    simp [other]⟩

theorem State.lower_drivesAs {c : Condition} (h : c.ofDrive = false) (s : State) : s.DrivesAs (s.lower c) :=
  ⟨by simp, by simp, by simp, fun d hd => by
    have other : d ≠ c := (Condition.ne_of_ofDrive h hd).symm
    simp [other]⟩

theorem State.mapLine_drivesAs (f : LineInterface → LineInterface) (s : State) : s.DrivesAs (s.mapLine f) :=
  ⟨rfl, rfl, rfl, fun _ _ => rfl⟩

theorem State.DrivesAs.refl (s : State) : s.DrivesAs s := ⟨rfl, rfl, rfl, fun _ _ => rfl⟩

theorem State.DrivesAs.symm {s t : State} (h : s.DrivesAs t) : t.DrivesAs s where
  drive := h.drive.symm
  air := h.air.symm
  applied := h.applied.symm
  active d hd := (h.active d hd).symm

theorem State.setIsolated_replanned (s : State) : s.replannedOnFall s.setIsolated :=
  State.replannedOnFall_congr (State.changeTake_replanned _ _)
    ((State.mapLine_drivesAs _ s).trans (State.raise_drivesAs rfl _)) (by simp) (by simp) (by simp) (State.DrivesAs.refl _)

theorem State.clearIsolated_replanned (s : State) : s.replannedOnFall s.clearIsolated :=
  State.replannedOnFall_congr (State.changeTake_replanned _ _)
    ((State.mapLine_drivesAs _ s).trans (State.lower_drivesAs rfl _)) (by simp) (by simp) (by simp) (State.DrivesAs.refl _)

/-- The take register when Isolated is set (R62). -/
theorem State.setIsolated_share (s : State) : s.setIsolated.share = { s.share with
    applied := min s.share.applied s.params.isolatedCap
    announced := min s.share.applied s.params.isolatedCap
    state := .steady } := by
  rw [State.setIsolated, State.changeTake_share]
  simp [ShareUnit.trimToCap, ShareUnit.steadyAt]

/-- The take register when Isolated is cleared (R63). -/
theorem State.clearIsolated_share (s : State) : s.clearIsolated.share = { s.share with
    applied := min s.share.applied s.share.lastCompleted
    announced := min s.share.applied s.share.lastCompleted
    state := .steady } := by
  rw [State.clearIsolated, State.changeTake_share]
  simp [ShareUnit.trimToCompleted, ShareUnit.steadyAt]

theorem State.setIsolated_active (s : State) (d : Condition) (h : d.ofDrive = false) :
    inSet s.setIsolated.cond.active d = (inSet s.cond.active d || decide (d = .isolated)) := by
  simp [State.setIsolated, h]

theorem State.clearIsolated_active (s : State) (d : Condition) (h : d.ofDrive = false) :
    inSet s.clearIsolated.cond.active d = (inSet s.cond.active d && !decide (d = .isolated)) := by
  simp [State.clearIsolated, h]

/-! ### Silence -/

/-- The end of an event without a test of Parking leaves the conditions alone. -/
theorem State.finish_cond_of_steady {u s : State}
    (h : u.node.state = .parking → s.node.state = .parking ∧ s.drive.fresh.state = u.drive.fresh.state) :
    (u.finish s).cond = u.cond := by
  rw [State.finish_of_steady h]
  simp

theorem State.finish_drivesAs {u s : State}
    (h : u.node.state = .parking → s.node.state = .parking ∧ s.drive.fresh.state = u.drive.fresh.state) :
    u.DrivesAs (u.finish s) := by
  rw [State.finish_of_steady h]
  exact ⟨by simp, by simp, by simp, fun _ _ => by simp⟩

/-- Settles O22: in Running the event is the setting of Isolated, with no test of Parking at its end. -/
theorem silenceIsolates : Obligations.SilenceIsolates := by
  intro s running peers silence
  set u := (s.mapLine fun l => { l with silence := .expired }).setIsolated
  have run : exec .silenceTimerExpiry s = .next (u.finish s) := by
    simp [exec, execSilenceTimerExpiry, State.silenceCounts, running, peers, silence, u]
  have awake : u.node.state = .parking → s.node.state = .parking ∧ s.drive.fresh.state = u.drive.fresh.state := by
    simp [u, running]
  obtain ⟨blocks, same⟩ := State.finish_steady_frame awake
  have after := State.finish_drivesAs awake
  refine ⟨_, run, ?_, ?_, ?_, ?_, State.sameExcept_trans (u := u) (by simp [State.sameExcept, u]) blocks (by simp)⟩
  · refine LineInterface.sameOutsideSlots_trans (m := u.line) (LineInterface.sameOutsideSlots_of_unmarked ?_) same
    exact State.setIsolated_unmarked _
  · rw [(State.finish_frame s u).2.1]
    exact State.setIsolated_share _
  · rw [State.finish_cond_of_steady awake, State.setIsolated_active _ _ rfl]
    simp
  · exact State.replannedOnFall_congr (State.setIsolated_replanned _) (State.mapLine_drivesAs _ s) rfl rfl rfl after.symm

end Sys2Proof.Machine
end

section
/-! What the receiver does with any frame: the error window, the silence timer and Isolated; frames that no block uses, and conflicts
(R2, R12 to R14). -/

namespace Sys2Proof.Machine

/-! ### The error window -/

theorem State.countReception_unmarked (bad : Bool) (s : State) : (s.countReception bad).line.unmarked =
    (s.line.countReception s.params.errorLimit bad).unmarked := by
  simp [State.countReception]

/-- LineDegraded follows the flag, and no other condition changes (R12). -/
theorem State.countReception_active (bad : Bool) (s : State) (d : Condition) : inSet (s.countReception bad).cond.active d =
    if d = .lineDegraded then (s.line.countReception s.params.errorLimit bad).degraded else inSet s.cond.active d := by
  simp [State.countReception]

theorem State.countReception_drivesAs (bad : Bool) (s : State) : s.DrivesAs (s.countReception bad) :=
  ⟨by simp, by simp, by simp, fun d hd => by
    have other : d ≠ .lineDegraded := (Condition.ne_of_ofDrive rfl hd).symm
    simp [State.countReception_active, other]⟩

/-! ### A well-formed frame -/

/-- A well-formed frame clears Isolated unless Listen-only holds, and restarts the silence timer in any case (R13). -/
theorem State.heardWellFormed_eq (s : State) : s.heardWellFormed =
    (s.mapLine (LineInterface.restartSilence s.params)).when (s.line.isolated && !s.line.listenOnly) State.clearIsolated := rfl

theorem State.heardWellFormed_unmarked (s : State) : s.heardWellFormed.line.unmarked = ({ s.line with
    silence := if s.params.expectedPeers = 0 then .stopped else .running 0
    isolated := s.line.isolated && s.line.listenOnly } : LineInterface).unmarked := by
  rw [State.heardWellFormed_eq]
  cases cleared : s.line.isolated && !s.line.listenOnly with
  | true =>
    have hears : (s.line.isolated && s.line.listenOnly) = false := by
      rw [Bool.and_eq_true, Bool.not_eq_true'] at cleared
      rw [cleared.2, Bool.and_false]
    rw [State.when_true, State.clearIsolated_unmarked, hears]
    rfl
  | false =>
    have kept : (s.line.isolated && s.line.listenOnly) = s.line.isolated := by
      revert cleared
      cases s.line.isolated <;> cases s.line.listenOnly <;> simp
    rw [kept]
    rfl

theorem State.heardWellFormed_share (s : State) : s.heardWellFormed.share =
    (if s.line.isolated && !s.line.listenOnly then
      { s.share with
        applied := min s.share.applied s.share.lastCompleted
        announced := min s.share.applied s.share.lastCompleted
        state := .steady }
     else s.share) := by
  rw [State.heardWellFormed_eq]
  cases s.line.isolated && !s.line.listenOnly
  · rfl
  · exact State.clearIsolated_share _

theorem State.heardWellFormed_active (s : State) {d : Condition} (h : d.ofDrive = false) :
    inSet s.heardWellFormed.cond.active d =
      (inSet s.cond.active d && !(decide (d = .isolated) && (s.line.isolated && !s.line.listenOnly))) := by
  rw [State.heardWellFormed_eq]
  cases s.line.isolated && !s.line.listenOnly
  · simp
  · simp [State.clearIsolated_active _ _ h]

/-- What leaves the drives and the take alone has made no plan. -/
theorem State.DrivesAs.replannedOnFall {s t : State} (h : s.DrivesAs t) : s.replannedOnFall t :=
  have kept : s.changeTake id = s := if_neg (Nat.lt_irrefl _)
  have same : s.replannedOnFall s := by simpa only [kept] using State.changeTake_replanned id s
  State.replannedOnFall_congr same (State.DrivesAs.refl s) rfl rfl rfl h.symm

theorem State.heardWellFormed_replanned (s : State) : s.replannedOnFall s.heardWellFormed := by
  rw [State.heardWellFormed_eq]
  cases s.line.isolated && !s.line.listenOnly
  · exact (State.mapLine_drivesAs _ s).replannedOnFall
  · exact State.replannedOnFall_congr (State.clearIsolated_replanned _) (State.mapLine_drivesAs _ s) rfl rfl rfl
      (State.DrivesAs.refl _)

/-- Outside Running the applied take is 0 already, so that no plan is made (R65). -/
theorem State.replannedOnFall.still {s t : State} (h : s.replannedOnFall t) (take : s.takeLaws) (rests : s.node.state ≠ .running) :
    t.drive = s.drive ∧ t.air = s.air := by
  obtain ⟨-, applied, -⟩ := take.2.2.2.2.2.2.2.2 rests
  exact h.2.1 (by rw [applied]; exact Nat.zero_le _)

theorem State.heardGood_unmarked (s : State) : s.heardGood.line.unmarked = ({ s.line with
    receivedCount := if s.line.receivedCount < 255 then s.line.receivedCount + 1 else 0
    erroneousCount := if s.line.receivedCount < 255 then s.line.erroneousCount else 0
    degraded :=
      if s.line.receivedCount < 255 then s.line.degraded else decide (s.params.errorLimit ≤ s.line.erroneousCount)
    silence := if s.params.expectedPeers = 0 then .stopped else .running 0
    isolated := s.line.isolated && s.line.listenOnly } : LineInterface).unmarked := by
  have counted := s.countReception_unmarked false
  rw [LineInterface.countReception_eq] at counted
  rw [State.heardGood, State.heardWellFormed_unmarked, LineInterface.eq_of_unmarked counted]
  simp [LineInterface.unmarked]

theorem State.heardGood_share (s : State) : s.heardGood.share =
    (if s.line.isolated && !s.line.listenOnly then
      { s.share with
        applied := min s.share.applied s.share.lastCompleted
        announced := min s.share.applied s.share.lastCompleted
        state := .steady }
     else s.share) := by
  have counted := s.countReception_unmarked false
  rw [LineInterface.countReception_eq] at counted
  rw [State.heardGood, State.heardWellFormed_share, LineInterface.eq_of_unmarked counted]
  simp

theorem State.heardGood_active (s : State) {d : Condition} (h : d.ofDrive = false) : inSet s.heardGood.cond.active d =
    if d = .lineDegraded then (s.line.countReception s.params.errorLimit false).degraded
    else (inSet s.cond.active d && !(decide (d = .isolated) && (s.line.isolated && !s.line.listenOnly))) := by
  have counted := s.countReception_unmarked false
  rw [LineInterface.countReception_eq] at counted
  rw [State.heardGood, State.heardWellFormed_active _ h, LineInterface.eq_of_unmarked counted, State.countReception_active]
  by_cases degraded : d = .lineDegraded <;> simp [degraded]

theorem State.heardGood_replanned (s : State) : s.replannedOnFall s.heardGood :=
  State.replannedOnFall_congr (State.heardWellFormed_replanned _) (s.countReception_drivesAs false) (by simp) (by simp) (by simp)
    (State.DrivesAs.refl _)

/-- An event that makes at most the plan of a fall of the take leaves the fresh actuator alone in Parking. -/
theorem State.replannedOnFall.steady {s u : State} (h : s.replannedOnFall u) (take : s.takeLaws) (node : u.node = s.node) :
    u.node.state = .parking → s.node.state = .parking ∧ s.drive.fresh.state = u.drive.fresh.state := by
  rw [node]
  intro parking
  exact ⟨parking, by rw [(h.still take (by rw [parking]; decide)).1]⟩

theorem State.replannedOnFall.finish {s u : State} (h : s.replannedOnFall u) (take : s.takeLaws) (node : u.node = s.node) :
    s.replannedOnFall (u.finish s) ∧ (u.finish s).cond = u.cond ∧ u.sameExcept [.line] (u.finish s) ∧
    u.line.sameOutsideSlots (u.finish s).line := by
  have steady := h.steady take node
  obtain ⟨blocks, same⟩ := State.finish_steady_frame steady
  exact ⟨State.replannedOnFall_congr h (State.DrivesAs.refl s) rfl rfl rfl (State.finish_drivesAs steady).symm,
    State.finish_cond_of_steady steady, blocks, same⟩

/-! ### Frames that no block uses -/

/-- Settles O14: an ignored frame is what every good frame is, one outside the Exchange a well-formed frame, and neither ends the wait
of Parking. -/
theorem wellFormedFrameHeard : Obligations.WellFormedFrameHeard := by
  refine ⟨fun f s => by simp [exec, execOutsideExchangeFrame], fun c good s inv states frame => ?_⟩
  have receives : s.node.state.receives = true := by rcases states with h | h | h | h <;> simp [h, NodeState.receives]
  obtain ⟨-, -, -, degraded, isolated, -⟩ := inv.owners
  cases good with
  | true =>
    obtain ⟨f, rfl, sorted⟩ := frame
    obtain ⟨replanned, cond, blocks, same⟩ := s.heardGood_replanned.finish inv.take (by simp)
    have line := LineInterface.sameOutsideSlots_trans (LineInterface.sameOutsideSlots_of_unmarked s.heardGood_unmarked) same
    refine ⟨s.heardGood.finish s, by simp [exec, execIgnoredFrame, sorted, State.reception, receives, State.hears],
      by rw [line.1], by rw [line.1], ?_, by rw [line.1]; rfl, ?_, ?_, ?_, ?_, replanned, ?_, fun _ => ⟨same, blocks⟩,
      State.sameExcept_trans (by simp [State.sameExcept]) blocks (by simp)⟩
    · rw [cond, State.heardGood_active s rfl, line.1]
      simp only [if_neg (show Condition.isolated ≠ .lineDegraded by decide), decide_true, Bool.true_and, isolated]
      cases s.line.isolated <;> cases s.line.listenOnly <;> rfl
    · rintro (no | below)
      · exact absurd no (by decide)
      · rw [line.1]; simp [below]
    · intro _ last
      rw [line.1]; simp [last]
    · rw [cond, State.heardGood_active s rfl, if_pos rfl, LineInterface.countReception_eq, line.1]
      rfl
    · exact (State.finish_frame s _).2.1.trans s.heardGood_share
    · exact ⟨by rw [line.1], line.2⟩
  | false =>
    obtain ⟨f, rfl, sorted⟩ := frame
    obtain ⟨replanned, cond, blocks, same⟩ := s.heardWellFormed_replanned.finish inv.take (by simp)
    have line := LineInterface.sameOutsideSlots_trans (LineInterface.sameOutsideSlots_of_unmarked s.heardWellFormed_unmarked) same
    refine ⟨s.heardWellFormed.finish s, by simp [exec, execOutsideExchangeFrame, sorted, State.reception, receives, State.hears],
      by rw [line.1], by rw [line.1], ?_, by rw [line.1]; rfl, ?_, ?_, ?_, ?_, replanned, ?_, by simp,
      State.sameExcept_trans (by simp [State.sameExcept]) blocks (by simp)⟩
    · rw [cond, State.heardWellFormed_active s rfl, line.1]
      simp only [decide_true, Bool.true_and, isolated]
      cases s.line.isolated <;> cases s.line.listenOnly <;> rfl
    · exact fun _ => by rw [line.1]; exact ⟨rfl, rfl⟩
    · exact fun yes => absurd yes (by decide)
    · rw [cond, State.heardWellFormed_active s rfl, line.1]
      simpa using degraded
    · exact (State.finish_frame s _).2.1.trans s.heardWellFormed_share
    · exact ⟨by rw [line.1], line.2⟩

end Sys2Proof.Machine
end

section
/-! A frame bearing the own node number (R14, R62). -/

namespace Sys2Proof.Machine

/-! ### Listen-only -/

theorem State.handDemand_of_silent {u : State} (h : u.line.listenOnly = true) : u.handDemand = u := by
  rw [State.handDemand, State.mapLine, LineInterface.handDemand_of_listenOnly h]

/-- In Listen-only the Demand timing hands nothing (R5). -/
theorem State.settleDemand_of_silent {u : State} (h : u.line.listenOnly = true) (before : Demand) :
    u.settleDemand before = u := by
  rcases u.settleDemand_cases before with ⟨handed, -⟩ | ⟨still, -⟩
  · rw [handed, State.handDemand_of_silent h]
  · exact still

/-- The line as any conflict frame leaves it before Listen-only: counted as good, the silence timer restarted (R12, R13). -/
def LineInterface.conflictHeard (p : Params) (l : LineInterface) : LineInterface :=
  { l with
    receivedCount := if l.receivedCount < 255 then l.receivedCount + 1 else 0
    erroneousCount := if l.receivedCount < 255 then l.erroneousCount else 0
    degraded := if l.receivedCount < 255 then l.degraded else decide (p.errorLimit ≤ l.erroneousCount)
    silence := if p.expectedPeers = 0 then .stopped else .running 0 }

/-- The state as any conflict frame leaves it before Listen-only. -/
def State.conflictCounted (s : State) : State :=
  (s.countReception false).mapLine (LineInterface.restartSilence s.params)

@[simp] theorem State.conflictCounted_frame (s : State) :
    s.conflictCounted.params = s.params ∧ s.conflictCounted.node = s.node ∧ s.conflictCounted.peers = s.peers ∧
    s.conflictCounted.allowance = s.allowance ∧ s.conflictCounted.share = s.share ∧ s.conflictCounted.air = s.air ∧
    s.conflictCounted.input = s.input ∧ s.conflictCounted.drive = s.drive ∧ s.conflictCounted.pending = s.pending ∧
    s.conflictCounted.choices = s.choices := by
  simp [State.conflictCounted]

theorem State.heardConflict_eq (s : State) : s.heardConflict =
    if s.line.listenOnly then s.conflictCounted else s.conflictCounted.enterListenOnly := by
  have counted := s.countReception_unmarked false
  rw [LineInterface.countReception_eq] at counted
  have listenOnly : s.conflictCounted.line.listenOnly = s.line.listenOnly := by
    rw [State.conflictCounted, State.mapLine_line, LineInterface.eq_of_unmarked counted]
    rfl
  rw [← listenOnly]
  rfl

theorem State.conflictCounted_unmarked (s : State) :
    s.conflictCounted.line.unmarked = (s.line.conflictHeard s.params).unmarked := by
  have counted := s.countReception_unmarked false
  rw [LineInterface.countReception_eq] at counted
  rw [State.conflictCounted, State.mapLine_line, LineInterface.eq_of_unmarked counted]
  rfl

theorem State.conflictCounted_drivesAs (s : State) : s.DrivesAs s.conflictCounted :=
  (s.countReception_drivesAs false).trans (State.mapLine_drivesAs _ _)

theorem State.conflictCounted_cond (s : State) : s.conflictCounted.cond =
    (s.setCond (s.line.conflictHeard s.params).degraded .lineDegraded).cond := by
  have degraded : (s.line.countReception s.params.errorLimit false).degraded = (s.line.conflictHeard s.params).degraded := by
    rw [LineInterface.countReception_eq]; rfl
  rw [← degraded]
  exact State.setCond_cond_congr (s := s) (t := s.mapLine (LineInterface.countReception s.params.errorLimit false)) rfl _ _

/-- The entry into Listen-only makes at most the plan of a fall of the take (R62, R64). -/
theorem State.enterListenOnly_replanned (s : State) : s.replannedOnFall s.enterListenOnly :=
  State.replannedOnFall_congr (State.setIsolated_replanned _) (State.raise_drivesAs rfl s) (by simp) (by simp) (by simp)
    (State.mapLine_drivesAs _ _).symm

theorem State.enterListenOnly_line (s : State) :
    s.enterListenOnly.line = ({ s.line.unmarked with isolated := true } : LineInterface).enterListenOnly := by
  have set : (s.raise .addressConflict).setIsolated.line.unmarked = { s.line.unmarked with isolated := true } := by simp
  have forgets (l : LineInterface) : l.enterListenOnly = l.unmarked.enterListenOnly := rfl
  exact (forgets _).trans (congrArg LineInterface.enterListenOnly set)

theorem State.enterListenOnly_active (s : State) {d : Condition} (h : d.ofDrive = false) :
    inSet s.enterListenOnly.cond.active d = (inSet s.cond.active d || decide (d = .addressConflict) || decide (d = .isolated)) := by
  rw [State.enterListenOnly, State.mapLine_cond, State.setIsolated_active _ _ h, State.raise_active]

/-- The entry into Listen-only hands nothing at the end of its event. -/
theorem State.finish_of_emptied {s u : State}
    (steady : u.node.state = .parking → s.node.state = .parking ∧ s.drive.fresh.state = u.drive.fresh.state)
    (silent : u.line.listenOnly = true) (marks : (u.line.aOwed || u.line.bOwed || u.line.bChangeOwed) = false) :
    u.finish s = u := by
  have nothing : u.line.statusDue = false := LineInterface.statusDue_eq_false (.inr marks)
  rw [State.finish_of_steady steady, State.settleDemand_of_silent silent,
    State.settleStatus_of_not_due (by rw [nothing, Bool.and_false])]

/-- Settles O15, with Listen-only in force and without. -/
theorem conflictEntersListenOnly : Obligations.ConflictEntersListenOnly := by
  intro f s inv receives sorted
  obtain ⟨-, conflict, -, -, isolated, -⟩ := inv.owners
  have heard := s.heardConflict_eq
  have run : exec (.addressConflict f) s = .next (s.heardConflict.finish s) := by
    simp [exec, execAddressConflict, sorted, State.reception, receives, State.hears]
  have counted := LineInterface.eq_of_unmarked s.conflictCounted_unmarked
  cases silent : s.line.listenOnly with
  | true =>
    rw [silent, if_pos rfl] at heard
    have stays : s.conflictCounted.line.listenOnly = true := by rw [counted]; exact silent
    have ended : s.conflictCounted.finish s = s.conflictCounted.settleStatus :=
      State.finish_of_content (by simp) (by simp)
        (demandContent_congr (by simp) (by simp) (by simp)
          (by simp) (by rw [counted]; rfl) (by simp) (by simp))
    rw [heard, ended] at run
    have line : s.conflictCounted.settleStatus.line = { s.line.conflictHeard s.params with
        aOwed := s.conflictCounted.settleStatus.line.aOwed
        bOwed := s.conflictCounted.settleStatus.line.bOwed
        bChangeOwed := s.conflictCounted.settleStatus.line.bChangeOwed } := by
      rw [State.settleStatus_of_listenOnly stays, counted]
    obtain ⟨demand, status, report, flag⟩ := inv.waiting.2.2 silent
    have cond : s.conflictCounted.settleStatus.cond =
        (s.setCond (s.line.conflictHeard s.params).degraded .lineDegraded).cond := by
      rw [← State.conflictCounted_cond]; simp
    have blocks : s.sameExcept [.line, .cond] s.conflictCounted.settleStatus := by
      simp [State.sameExcept]
    refine ⟨_, run, ?_, by simp, by simp, ?_, ?_, ?_, fun _ => ⟨?_, blocks⟩, ?_⟩
    · refine line.trans ?_
      simp [LineInterface.conflictHeard, silent, demand, status, report, flag]
    · rw [cond, State.setCond_active, if_neg (by decide)]
      exact conflict.trans silent
    · rw [cond, State.setCond_active, if_neg (by decide)]
      exact isolated.trans flag
    · refine State.DrivesAs.replannedOnFall ⟨by simp, by simp,
        by simp, fun d hd => ?_⟩
      have other : d ≠ .lineDegraded := (Condition.ne_of_ofDrive rfl hd).symm
      rw [cond, State.setCond_active, if_neg other]
    · rw [cond, line]
    · simp [State.sameExcept]
  | false =>
    rw [silent, if_neg Bool.false_ne_true] at heard
    have replanned : s.replannedOnFall s.conflictCounted.enterListenOnly :=
      State.replannedOnFall_congr (State.enterListenOnly_replanned _) s.conflictCounted_drivesAs (by simp)
        (by simp) (by simp) (State.DrivesAs.refl _)
    have node : s.conflictCounted.enterListenOnly.node = s.node := by simp
    rw [heard, State.finish_of_emptied (replanned.steady inv.take node) rfl rfl] at run
    have share : s.conflictCounted.enterListenOnly.share = _ := State.setIsolated_share (s.conflictCounted.raise .addressConflict)
    refine ⟨_, run, ?_, fun _ => ⟨rfl, rfl, rfl⟩, ?_, ?_, ?_, replanned, by simp, ?_⟩
    · rw [State.enterListenOnly_line, State.conflictCounted_unmarked]
      simp [LineInterface.enterListenOnly, LineInterface.conflictHeard, LineInterface.unmarked]
    · rw [share]
      simp
    · rw [State.enterListenOnly_active _ rfl]; simp
    · rw [State.enterListenOnly_active _ rfl]; simp
    · simp [State.sameExcept]

end Sys2Proof.Machine
end

section
/-! The error window through the receptions of every kind (R2, R12, R15; log entries 11 to 13). -/

namespace Sys2Proof.Machine

/-! ### The window after a counted reception -/

/-- Two states alike in the error window and its condition, the configuration, the queue and the own node. -/
structure State.SameWindow (s t : State) : Prop where
  receivedCount : t.line.receivedCount = s.line.receivedCount
  erroneousCount : t.line.erroneousCount = s.line.erroneousCount
  degraded : t.line.degraded = s.line.degraded
  active : inSet t.cond.active .lineDegraded = inSet s.cond.active .lineDegraded
  params : t.params = s.params
  pending : t.pending = s.pending
  choices : t.choices = s.choices
  own : t.node.own = s.node.own

theorem State.SameWindow.refl (s : State) : s.SameWindow s := ⟨rfl, rfl, rfl, rfl, rfl, rfl, rfl, rfl⟩

theorem State.SameWindow.trans {s t u : State} (h : s.SameWindow t) (k : t.SameWindow u) : s.SameWindow u where
  receivedCount := k.receivedCount.trans h.receivedCount
  erroneousCount := k.erroneousCount.trans h.erroneousCount
  degraded := k.degraded.trans h.degraded
  active := k.active.trans h.active
  params := k.params.trans h.params
  pending := k.pending.trans h.pending
  choices := k.choices.trans h.choices
  own := k.own.trans h.own

/-- What writes no more than the mark in the Line Interface and leaves LineDegraded alone keeps the window. -/
theorem State.SameWindow.of_unmarked {s t : State} (line : t.line.unmarked = s.line.unmarked)
    (active : inSet t.cond.active .lineDegraded = inSet s.cond.active .lineDegraded) (params : t.params = s.params)
    (pending : t.pending = s.pending) (choices : t.choices = s.choices) (own : t.node.own = s.node.own) : s.SameWindow t := by
  have e := LineInterface.eq_of_unmarked line
  exact ⟨by rw [e], by rw [e], by rw [e], active, params, pending, choices, own⟩

/-- What changes no more than the slots and the marks keeps the window. -/
theorem State.SameWindow.of_same {s t : State} (line : s.line.sameOutsideSlots t.line) (cond : t.cond = s.cond)
    (params : t.params = s.params) (pending : t.pending = s.pending) (choices : t.choices = s.choices)
    (own : t.node.own = s.node.own) : s.SameWindow t :=
  ⟨by rw [line.1], by rw [line.1], by rw [line.1], by rw [cond], params, pending, choices, own⟩

theorem State.heardWellFormed_window (s : State) : s.SameWindow s.heardWellFormed := by
  have e := LineInterface.eq_of_unmarked s.heardWellFormed_unmarked
  exact ⟨by rw [e], by rw [e], by rw [e], by simp [s.heardWellFormed_active (d := .lineDegraded) rfl], by simp, by simp,
    by simp, by simp⟩

theorem State.enterListenOnly_window (s : State) : s.SameWindow s.enterListenOnly := by
  have e := s.enterListenOnly_line
  exact ⟨by rw [e]; rfl, by rw [e]; rfl, by rw [e]; rfl, by simp [s.enterListenOnly_active (d := .lineDegraded) rfl],
    by simp, by simp, by simp, by simp⟩

theorem State.heardConflict_window (s : State) : (s.countReception false).SameWindow s.heardConflict := by
  have restarted : (s.countReception false).SameWindow s.conflictCounted := ⟨rfl, rfl, rfl, rfl, rfl, rfl, rfl, rfl⟩
  rw [s.heardConflict_eq]
  split
  · exact restarted
  · exact restarted.trans (State.enterListenOnly_window _)

/-- The frame counts as erroneous: its length is wrong (R2, R12). -/
def Sorted.bad : Sorted → Bool
  | .badLength => true
  | _ => false

theorem Sorted.bad_toNat (o : Sorted) : o.bad.toNat = if o = .badLength then 1 else 0 := by
  cases o <;> simp [Sorted.bad]

/-- A frame of the Exchange counts in the window, and what its block does leaves the window alone (R12). -/
theorem State.hears_window {o : Sorted} (inside : o ≠ .outside) (s : State) : (s.countReception o.bad).SameWindow (s.hears o) := by
  have window : Condition.lineDegraded.ofDrive = false := rfl
  have good : (s.countReception false).SameWindow s.heardGood := State.heardWellFormed_window _
  have after {u : State} (line : u.line.unmarked = s.heardGood.line.unmarked)
      (active : inSet u.cond.active .lineDegraded = inSet s.heardGood.cond.active .lineDegraded)
      (params : u.params = s.heardGood.params) (pending : u.pending = s.heardGood.pending)
      (choices : u.choices = s.heardGood.choices) (node : u.node = s.heardGood.node) : (s.countReception false).SameWindow u :=
    good.trans (State.SameWindow.of_unmarked line active params pending choices (by rw [node]))
  cases o with
  | outside => exact absurd rfl inside
  | conflict => exact s.heardConflict_window
  | badLength => exact State.SameWindow.refl _
  | ignored => exact good
  | allowance b0 b1 b2 => refine after ?_ ?_ ?_ ?_ ?_ ?_ <;> simp [State.hears, State.allowanceArrives]
  | demand n d => exact after rfl rfl rfl rfl rfl rfl
  | panel d => refine after ?_ ?_ ?_ ?_ ?_ ?_ <;> simp only [State.hears, State.panelArrives] <;> split <;> simp [window]
  | conditionRead =>
    have line : (s.hears .conditionRead).line =
      s.heardGood.line.handReport (reportContent (s.heardGood.mapCond ConditionUnit.freeze)) := rfl
    rw [LineInterface.handReport_eq] at line
    exact good.trans ⟨by rw [line], by rw [line], by rw [line], rfl, rfl, rfl, rfl, rfl⟩
  | conditionClear b1 b2 b3 => exact after rfl rfl rfl rfl rfl rfl
  | conditionRelease =>
    refine after rfl ?_ rfl rfl rfl rfl
    simp only [State.hears, State.conditionReleases, State.mapCond_cond, ConditionUnit.release]
    split <;> rfl
  | channelUnlock b1 =>
    refine after ?_ ?_ ?_ ?_ ?_ ?_ <;> simp only [State.hears, State.channelsUnlock, State.when] <;> (repeat' split) <;>
      simp [window]
  | rehome => refine after ?_ ?_ ?_ ?_ ?_ ?_ <;> simp [State.hears, State.dampersRehome, State.rehome, window]

/-! ### The wait of Parking through a reception -/

theorem State.channelTakesPlan_fresh (c : Channel) (s : State) :
    (State.channelTakesPlan c s).drive.fresh = s.drive.fresh := by
  cases c with
  | blower => rw [State.channelTakesPlan, State.settleHeater_drive, State.blowerTakesPlan_drive]
  | heater => rw [State.channelTakesPlan, State.settleHeater_drive]
  | clutch => rw [State.channelTakesPlan, State.clutchTakesPlan_drive]

theorem State.unlockChannel_fresh (c : Channel) (s : State) : (s.unlockChannel c).drive.fresh = s.drive.fresh := by
  unfold State.unlockChannel
  split
  · simp only [State.channelEntersOff, State.channelTakesPlan_fresh, State.when]
    split <;> cases c <;> simp [DriveUnit.setChannel]
  · rfl

/-- A Rehome request takes the fresh actuator out of rest (R139, R159). -/
theorem State.dampersRehome_unrested (s : State) : s.dampersRehome.freshRests = false := by
  have fresh : s.dampersRehome.drive.fresh = (s.drive.fresh.rehome s.drive.plan.held).act := by
    simp only [State.dampersRehome, State.rehome, State.applyActuator_drive]
    rfl
  rw [State.freshRests, fresh, Actuator.rehome]
  dsimp only
  split <;> simp [Actuator.enterHoming]

theorem State.hears_node (o : Sorted) (s : State) : (s.hears o).node = s.node := by
  cases o with
  | panel d => simp only [State.hears, State.panelArrives]; split <;> simp
  | channelUnlock b1 => simp only [State.hears, State.channelsUnlock, State.when]; (repeat' split) <;> simp
  | allowance b0 b1 b2 => simp [State.hears, State.allowanceArrives]
  | demand n d => simp [State.hears, State.demandArrives]
  | conditionRead => simp [State.hears, State.conditionReads]
  | conditionClear b1 b2 b3 => simp [State.hears, State.conditionClears]
  | conditionRelease => simp [State.hears, State.conditionReleases]
  | rehome => simp [State.hears, State.dampersRehome, State.rehome]
  | _ => simp [State.hears]

/-- In Parking a reception makes no plan, so that the fresh actuator is as it was found, or a Rehome has taken it out of rest. -/
theorem State.hears_parked (o : Sorted) {s : State} (take : s.takeLaws) (parking : s.node.state = .parking) :
    (s.hears o).drive.fresh.state = s.drive.fresh.state ∨ (s.hears o).freshRests = false := by
  have rests : s.node.state ≠ .running := by rw [parking]; decide
  have good : s.heardGood.drive = s.drive := (s.heardGood_replanned.still take rests).1
  have kept {u : State} (h : u.drive.fresh = s.heardGood.drive.fresh) :
      u.drive.fresh.state = s.drive.fresh.state ∨ u.freshRests = false := .inl (by rw [h, good])
  cases o with
  | outside => exact .inl (by rw [State.hears, (s.heardWellFormed_replanned.still take rests).1])
  | conflict =>
    have replanned : s.replannedOnFall s.heardConflict := by
      rw [s.heardConflict_eq]
      split
      · exact s.conflictCounted_drivesAs.replannedOnFall
      · exact State.replannedOnFall_congr (State.enterListenOnly_replanned _) s.conflictCounted_drivesAs
          (by simp) (by simp) (by simp) (State.DrivesAs.refl _)
    exact .inl (by rw [State.hears, (replanned.still take rests).1])
  | badLength => exact .inl (by simp [State.hears])
  | ignored => exact kept rfl
  | allowance b0 b1 b2 => exact kept (by simp [State.hears, State.allowanceArrives])
  | demand n d => exact kept rfl
  | panel d =>
    have state : (s.heardGood.mapAir (AirUnit.takeSettings d)).node.state ≠ .running := by simpa using rests
    exact kept (by simp only [State.hears, State.panelArrives, if_neg state]; rfl)
  | conditionRead => exact kept rfl
  | conditionClear b1 b2 b3 => exact kept rfl
  | conditionRelease => exact kept rfl
  | channelUnlock b1 =>
    refine kept ?_
    simp only [State.hears, State.channelsUnlock, State.when]
    (repeat' split) <;> simp [State.unlockChannel_fresh]
  | rehome => exact .inr (State.dampersRehome_unrested _)

/-- The end of an event in which no wait of Parking has ended keeps the window. -/
theorem State.finish_window {s u : State}
    (waits : u.node.state = .parking →
      s.node.state = .parking ∧ (u.drive.fresh.state = s.drive.fresh.state ∨ u.freshRests = false)) :
    u.SameWindow (u.finish s) := by
  have still : u.settleParking s = u := by
    by_cases parking : u.node.state = .parking
    · obtain ⟨before, fresh | unrested⟩ := waits parking
      · exact State.settleParking_of_steady fun _ => ⟨before, fresh.symm⟩
      · simp [State.settleParking, unrested]
    · exact State.settleParking_of_not_waiting u s (.inl parking)
  rw [State.finish, still]
  exact State.SameWindow.of_same
    (LineInterface.sameOutsideSlots_trans (State.settleDemand_same _ u) (State.settleStatus_same _)) (by simp) (by simp) (by simp)
    (by simp) (by simp)

/-! ### Receptions as rows -/

/-- A Demand bearing the own node number is sorted as a conflict (R2). -/
theorem sortFrame_demand_ne {own n : Node} {f : Frame} {d : DemandBytes} (h : sortFrame own f = .demand n d) : n ≠ own := by
  unfold sortFrame at h
  split at h
  · cases h
  · split at h
    · unfold sortAllowance at h
      split at h <;> cases h
    · unfold sortDemand at h
      (repeat' split at h) <;> cases h
      assumption
    · unfold sortPanel at h
      (repeat' split at h) <;> cases h
    · unfold sortService at h
      (repeat' split at h) <;> cases h
    all_goals (repeat' split at h) <;> cases h

/-- The row that a counted reception is takes it in (R2, Table 1-2). -/
theorem Reception.exec_row {r : Reception} {s : State} (counts : r.counts s.node.own = true) :
    exec (r.row s.node.own) s = .next (s.reception (State.receives r)) := by
  cases r with
  | error => rfl
  | frame f =>
    have receives : State.receives (.frame f) s = s.hears (sortFrame s.node.own f) := rfl
    have taken : s.reception (State.receives (.frame f)) = s.reception (State.hears (sortFrame s.node.own f)) := by
      simp only [State.reception, receives]
    rw [taken, Reception.row]
    cases sorted : sortFrame s.node.own f with
    | outside => simp [Reception.counts, sorted] at counts
    | conflict => simp [Sorted.row, exec, execAddressConflict, sorted]
    | badLength => simp [Sorted.row, exec, execFrameDiscardedForLength, sorted]
    | ignored => simp [Sorted.row, exec, execIgnoredFrame, sorted]
    | demand n d => simp [Sorted.row, exec, execDemandArrival, sortFrame_demand_ne sorted]
    | _ => rfl

theorem Reception.exec_errorWindowClose {r : Reception} {s : State} (counts : r.counts s.node.own = true)
    (last : s.line.receivedCount = 255) : exec (.errorWindowClose r) s = exec (r.row s.node.own) s := by
  rw [Reception.exec_row counts]
  simp [exec, execErrorWindowClose, last, counts]

/-- A reception counted as erroneous (R12). -/
def Reception.bad (own : Node) : Reception → Bool
  | .error => true
  | .frame f => (sortFrame own f).bad

/-- A counted reception, at the end of its event (R12). -/
theorem Reception.window {r : Reception} {s : State} (take : s.takeLaws) (counts : r.counts s.node.own = true) :
    (s.countReception (r.bad s.node.own)).SameWindow ((State.receives r s).finish s) := by
  cases r with
  | error =>
    refine (State.SameWindow.refl _).trans (State.finish_window fun parking => ⟨?_, .inl ?_⟩)
    · simpa using parking
    · simp
  | frame f =>
    have inside : sortFrame s.node.own f ≠ .outside := by simpa [Reception.counts] using counts
    refine (State.hears_window inside s).trans (State.finish_window fun parking => ?_)
    have parking : s.node.state = .parking := by rw [← s.hears_node (sortFrame s.node.own f)]; exact parking
    exact ⟨parking, State.hears_parked _ take parking⟩

/-- Settles O13: every row of a counted reception counts it first, and neither its block nor the end of its event touches
the window. -/
theorem errorWindowCounts : Obligations.ErrorWindowCounts := by
  refine ⟨?_, ?_, fun r s last counts => Reception.exec_errorWindowClose counts last,
    fun n => by cases n <;> simp [NodeState.receives]⟩
  · intro c s receives frame
    have run : exec c s = .next ((s.countReception true).finish s) := by
      rcases frame with rfl | ⟨f, rfl, sorted⟩
      · simp [exec, execReceiveError, State.reception, receives, State.hearsError]
      · simp [exec, execFrameDiscardedForLength, sorted, State.reception, receives, State.hears]
    have counted := s.countReception_unmarked true
    rw [LineInterface.countReception_eq] at counted
    obtain ⟨blocks, cond, same, -⟩ := State.finish_still (s := s) (u := s.countReception true) (by simp) (by simp)
      (demandContent_congr (by simp) (by simp) (by simp) (by simp) (LineInterface.isolated_of_unmarked counted :) (by simp)
        (by simp))
    refine ⟨_, run, ⟨?_, ?_⟩, State.sameExcept_trans (by simp [State.sameExcept]) blocks (by simp)⟩
    · exact LineInterface.sameOutsideSlots_trans (LineInterface.sameOutsideSlots_of_unmarked counted) same
    · have degraded : (s.line.countReception s.params.errorLimit true).degraded =
          if s.line.receivedCount < 255 then s.line.degraded else decide (s.params.errorLimit ≤ s.line.erroneousCount + 1) := by
        rw [LineInterface.countReception_eq]; rfl
      rw [cond, ← degraded]
      exact State.setCond_cond_congr (s := s) (t := s.mapLine (LineInterface.countReception s.params.errorLimit true)) rfl _ _
  · intro r c s inv receives counts row
    have run : exec c s = .next ((State.receives r s).finish s) := by
      have taken : exec (r.row s.node.own) s = .next ((State.receives r s).finish s) := by
        rw [Reception.exec_row counts, State.reception, if_pos receives]
      rcases row with rfl | ⟨rfl, last⟩
      · exact taken
      · exact (Reception.exec_errorWindowClose counts last).trans taken
    have window := Reception.window inv.take counts
    have counted := s.countReception_unmarked (r.bad s.node.own)
    rw [LineInterface.countReception_eq] at counted
    have line := LineInterface.eq_of_unmarked counted
    refine ⟨_, run, ⟨?_, ?_, ?_⟩, ?_, ?_, ?_, ?_, ?_⟩
    · rw [window.receivedCount, line]
    · rw [window.erroneousCount, line]
      cases r with
      | error => rfl
      | frame f => simp only [Reception.bad, Sorted.bad_toNat]
    · rw [window.degraded, line]
      cases r with
      | error => rfl
      | frame f => simp only [Reception.bad, Sorted.bad_toNat]
    · rw [window.active, window.degraded, State.countReception_active, if_pos rfl, line, LineInterface.countReception_eq]
    · exact window.params.trans (by simp)
    · exact window.pending.trans (by simp)
    · exact window.choices.trans (by simp)
    · exact window.own.trans (by simp)

end Sys2Proof.Machine
end

section
/-! The take register and its announcement through an event: the laws of R49, R51, R52 and R65 with the ranges they rest on, what an
event may change without touching them, and what the end of an event makes of them. -/

namespace Sys2Proof.Machine

/-! ### The laws -/

/-- The laws of the invariant that the take register's keeping rests on: its own, and those of the configuration, the Peer Table,
Loading and Parking. -/
structure State.TakeSound (s : State) : Prop where
  take : s.takeLaws
  announced : s.announcedLaw
  peers : s.peersInRange
  params : s.params.inRange
  loading : s.loadingAtRest
  node : s.nodeLaws

theorem State.Inv.takeSound {s : State} (h : s.Inv) : s.TakeSound :=
  ⟨h.take, h.announced, h.peers, h.params, h.loading, h.node⟩

/-- What a step leaves of the first law of R51: without Isolated, T stays at most Lc and comes to be so where Isolated held, but for
the completion of a Demand that carries less than T (log entry 27). -/
def State.completedLaw (s t : State) : Prop :=
  t.line.isolated = false → (s.line.isolated = true ∨ s.share.applied ≤ s.share.lastCompleted) →
    t.share.applied ≤ t.share.lastCompleted ∨
    (∃ (o : OnLine) (c : Demand), s.line.onLine = some o ∧ o.frame = .demand c ∧ o.void = false ∧
      t.share = { s.share with lastCompleted := c.take, state := t.share.state } ∧ c.take < s.share.applied)

/-- An event that found `s` has come to `t` with the laws kept. -/
structure State.TakeKept (s t : State) : Prop where
  sound : t.TakeSound
  completed : s.completedLaw t

/-- The grant and the register at 0, Steady, with the share timer stopped, as they stand outside Running (R49, R65). -/
abbrev ShareUnit.resting (u : ShareUnit) : Prop :=
  u.grant = 0 ∧ u.applied = 0 ∧ u.announced = 0 ∧ u.state = .steady ∧ u.timer = .stopped

theorem State.takeLaws.resting {s : State} (h : s.takeLaws) (rests : s.node.state ≠ .running) : s.share.resting := by
  obtain ⟨-, -, -, -, -, -, -, -, resting⟩ := h
  exact resting rests

theorem State.takeLaws.request {s : State} (h : s.takeLaws) : s.air.request ≤ 600 := by
  obtain ⟨-, -, -, -, -, request, -⟩ := h
  exact request

/-- The outputs and the dampers as they stand in Loading. -/
abbrev DriveUnit.atRest (d : DriveUnit) : Prop :=
  d.fresh = Actuator.cold ∧ d.blend = Actuator.cold ∧ d.plan = Plan.cold ∧ d.blower.state.atRest = true ∧
  d.heater.state.atRest = true ∧ d.clutch.state.atRest = true ∧ d.duty = 0 ∧ d.stages = 0

theorem State.loadingAtRest_iff (s : State) : s.loadingAtRest ↔ (s.node.state = .loading → s.drive.atRest) := Iff.rfl

/-- The announced law at rest: the register is Steady. -/
theorem State.announcedLaw_of_steady {s : State} (h : s.share.state = .steady) : s.announcedLaw := fun k =>
  absurd (h.symm.trans k) (by decide)

theorem State.announcedLaw_of_announcing {s : State} (h : s.share.state ≠ .announced) : s.announcedLaw := fun k => absurd k h

theorem State.completedLaw_of_le {s t : State} (h : t.share.applied ≤ t.share.lastCompleted) : s.completedLaw t :=
  fun _ _ => .inl h

/-- An entry into a state other than Running, the register at rest there. -/
theorem State.TakeKept.of_resting {s t : State} (resting : t.share.resting) (rests : t.node.state ≠ .running)
    (request : t.air.request ≤ 600) (peers : t.peersInRange) (params : t.params.inRange) (loading : t.loadingAtRest)
    (node : t.nodeLaws) : s.TakeKept t := by
  obtain ⟨grant, applied, announced, steady, timer⟩ := resting
  refine ⟨⟨?_, State.announcedLaw_of_steady steady, peers, params, loading, node⟩, State.completedLaw_of_le (by omega)⟩
  exact ⟨fun _ => by omega, fun h => absurd steady h, by omega, by omega, by omega, request, fun _ => by omega,
    fun h => absurd h rests, fun _ => ⟨grant, applied, announced, steady, timer⟩⟩

/-- An entry into Running, the register at rest until then and the share timer started (R35). -/
theorem State.TakeKept.of_entering {s t : State} (resting : ({ t.share with timer := .stopped } : ShareUnit).resting)
    (running : t.node.state = .running) (timer : t.share.timer = .running 0) (request : t.air.request ≤ 600)
    (peers : t.peersInRange) (params : t.params.inRange) (node : t.nodeLaws) : s.TakeKept t := by
  obtain ⟨grant, applied, announced, steady, -⟩ := resting
  dsimp only at grant applied announced steady
  refine ⟨⟨?_, State.announcedLaw_of_steady steady, peers, params, fun k => ?_, node⟩, State.completedLaw_of_le (by omega)⟩
  · exact ⟨fun _ => by omega, fun h => absurd steady h, by omega, by omega, by omega, request, fun _ => by omega,
      fun _ => by rw [timer]; rfl, fun h => absurd running h⟩
  · exact absurd (running.symm.trans k) (by decide)

/-! ### What leaves the take alone -/

/-- An offer of the same frame, void if the other is, carries as much. -/
theorem OnLine.carries_of_frame {o p : OnLine} {take : Nat} (frame : p.frame = o.frame) (void : p.void = true → o.void = true)
    (h : p.carries take = true) : o.carries take = true := by
  rw [OnLine.carries, frame] at h
  rw [OnLine.carries]
  cases f : o.frame with
  | demand c =>
    simp only [f, Bool.or_eq_true, decide_eq_true_eq] at h ⊢
    exact h.imp_left void
  | status c => rfl
  | report c => rfl

/-- Between `s` and `u` nothing has touched the take register, the Isolated flag, the node state or the configuration, and the ranges
of the request, of the Peer Table and of the outputs in Loading have been kept; the frame on the line is the one that was there. -/
structure State.TakeStill (s u : State) : Prop where
  params : u.params = s.params
  state : u.node.state = s.node.state
  leaving : u.node.leaving = s.node.leaving
  share : u.share = s.share
  isolated : u.line.isolated = s.line.isolated
  onLine : ∀ o ∈ u.line.onLine, ∃ p ∈ s.line.onLine, p.frame = o.frame ∧ (p.void = true → o.void = true)
  request : s.air.request ≤ 600 → u.air.request ≤ 600
  peers : s.peersInRange → u.peersInRange
  loading : s.loadingAtRest → u.loadingAtRest

theorem State.TakeStill.refl (s : State) : s.TakeStill s :=
  ⟨rfl, rfl, rfl, rfl, rfl, fun o ho => ⟨o, ho, rfl, id⟩, id, id, id⟩

theorem State.TakeStill.trans {s u v : State} (h : s.TakeStill u) (k : u.TakeStill v) : s.TakeStill v where
  params := k.params.trans h.params
  state := k.state.trans h.state
  leaving := k.leaving.trans h.leaving
  share := k.share.trans h.share
  isolated := k.isolated.trans h.isolated
  onLine o ho := by
    obtain ⟨p, hp, frame, void⟩ := k.onLine o ho
    obtain ⟨q, hq, frame', void'⟩ := h.onLine p hp
    exact ⟨q, hq, frame'.trans frame, void ∘ void'⟩
  request := k.request ∘ h.request
  peers := k.peers ∘ h.peers
  loading := k.loading ∘ h.loading

/-- What leaves the take alone keeps its laws. -/
theorem State.TakeStill.sound {s u : State} (h : s.TakeStill u) (k : s.TakeSound) : u.TakeSound where
  take := by
    obtain ⟨steady, raised, grant, grantCap, announcedCap, request, isolated, running, resting⟩ := k.take
    rw [State.takeLaws, h.share, h.isolated, h.params, h.state]
    exact ⟨steady, raised, grant, grantCap, announcedCap, h.request request, isolated, running, resting⟩
  announced announced := by
    rw [h.share] at announced ⊢
    obtain ⟨completed, carries⟩ := k.announced announced
    refine ⟨completed, fun o ho => ?_⟩
    obtain ⟨p, hp, frame, void⟩ := h.onLine o ho
    exact OnLine.carries_of_frame frame void (carries p hp)
  peers := h.peers k.peers
  params := h.params ▸ k.params
  loading := h.loading k.loading
  node := by rw [State.nodeLaws, h.state, h.leaving]; exact k.node

theorem State.TakeKept.still {s u v : State} (h : s.TakeKept u) (k : u.TakeStill v) : s.TakeKept v where
  sound := k.sound h.sound
  completed := by rw [State.completedLaw, k.isolated, k.share]; exact h.completed

/-- Nothing has happened. -/
theorem State.TakeSound.kept {s : State} (h : s.TakeSound) : s.TakeKept s where
  sound := h
  completed clear before := .inl (before.elim (fun set => absurd (clear.symm.trans set) (by decide)) id)

theorem State.TakeStill.kept {s u : State} (h : s.TakeStill u) (k : s.TakeSound) : s.TakeKept u := k.kept.still h

theorem State.peersInRange_congr {s u : State} (own : u.node.own = s.node.own) (peers : u.peers = s.peers) (h : s.peersInRange) :
    u.peersInRange := by
  rw [State.peersInRange, own, peers]
  exact h

/-- An event that writes no more than the mark in the Line Interface, and neither Node Control, the Peer Table, the configuration, the
take nor the request. -/
theorem State.TakeStill.of_frame {s u : State} (params : u.params = s.params) (node : u.node = s.node) (peers : u.peers = s.peers)
    (share : u.share = s.share) (request : u.air.request = s.air.request) (line : u.line.unmarked = s.line.unmarked)
    (loading : s.loadingAtRest → u.loadingAtRest) : s.TakeStill u := by
  have same := LineInterface.eq_of_unmarked line
  exact ⟨params, by rw [node], by rw [node], share, by rw [same], fun o ho => ⟨o, by rw [same] at ho; exact ho, rfl, id⟩,
    fun h => by rw [request]; exact h, State.peersInRange_congr (by rw [node]) peers, loading⟩

theorem State.loadingAtRest_of_awake {u : State} (h : u.node.state ≠ .loading) : u.loadingAtRest := fun k => absurd k h

theorem State.loadingAtRest_congr {s u : State} (state : u.node.state = s.node.state) (drive : u.drive = s.drive)
    (h : s.loadingAtRest) : u.loadingAtRest := by
  rw [State.loadingAtRest, state, drive]
  exact h

/-- An event that changes no more than the slots and the marks of the line. -/
theorem State.TakeStill.of_slots {s u : State} (line : s.line.sameOutsideSlots u.line) (blocks : s.sameExcept [.line] u) :
    s.TakeStill u := by
  obtain ⟨params, node, -, peers, -, share, air, -, drive, -⟩ := blocks
  simp only [List.mem_singleton, reduceCtorEq, false_or] at params node peers share air drive
  refine ⟨params, by rw [node], by rw [node], share, LineInterface.isolated_of_same line, fun o ho => ?_, fun h => by rw [air]; exact h,
    State.peersInRange_congr (by rw [node]) peers, State.loadingAtRest_congr (by rw [node]) drive⟩
  have bare := line.2
  rw [Option.mem_def] at ho
  rw [ho, Option.map_some, eq_comm, Option.map_eq_some_iff] at bare
  obtain ⟨p, hp, same⟩ := bare
  obtain ⟨frame, void⟩ := Prod.mk.inj same
  exact ⟨p, hp, frame, fun h => void ▸ h⟩

/-! ### The request under what the drives do -/

@[simp] theorem State.tripChannel_request (c : Channel) (k : TripCause) (s : State) :
    (s.tripChannel c k).air.request = s.air.request := by
  unfold State.tripChannel State.when
  dsimp only
  (repeat' split) <;> simp [AirUnit.clutchReleased]

@[simp] theorem State.clutchTakesPlan_request (s : State) : s.clutchTakesPlan.air.request = s.air.request := by
  obtain ⟨-, air⟩ := s.clutchTakesPlan_reported
  rw [air]

@[simp] theorem State.channelTakesPlan_request (c : Channel) (s : State) :
    (State.channelTakesPlan c s).air.request = s.air.request := by
  cases c <;> simp [State.channelTakesPlan]

@[simp] theorem State.channelsTakePlan_request (s : State) : s.channelsTakePlan.air.request = s.air.request := by
  simp [State.channelsTakePlan]

@[simp] theorem State.trip_request (c : Channel) (k : TripCause) (s : State) : (s.trip c k).air.request = s.air.request := by
  simp [State.trip]

@[simp] theorem State.channelEntersOff_request (c : Channel) (s : State) :
    (s.channelEntersOff c).air.request = s.air.request := by
  unfold State.channelEntersOff State.when
  dsimp only
  split <;> simp

@[simp] theorem State.unlockChannel_request (c : Channel) (s : State) : (s.unlockChannel c).air.request = s.air.request := by
  unfold State.unlockChannel
  split <;> simp

@[simp] theorem State.handPlan_request (q : Plan) (s : State) : (s.handPlan q).air.request = s.air.request := by
  obtain ⟨-, air⟩ := s.handPlan_reported q
  rw [air]

@[simp] theorem State.makePlan_request (s : State) : s.makePlan.air.request = s.air.request := by
  simp [State.makePlan]

@[simp] theorem State.changeTake_request (f : ShareUnit → ShareUnit) (s : State) :
    (s.changeTake f).air.request = s.air.request := by
  unfold State.changeTake
  dsimp only
  split <;> simp

/-! ### The end of an event -/

theorem State.settleDemand_still (c : Demand) (s : State) : s.TakeStill (s.settleDemand c) :=
  .of_slots (s.settleDemand_same c) (by simp [State.sameExcept])

theorem State.settleStatus_still (s : State) : s.TakeStill s.settleStatus :=
  .of_slots s.settleStatus_same (by simp [State.sameExcept])

theorem State.handDemand_still (s : State) : s.TakeStill s.handDemand :=
  .of_slots s.handDemand_same (by simp [State.sameExcept])

theorem PeerSlot.cleared_inRange (own : Bool) (x : PeerSlot) (h : x.inRange own = true) : x.cleared.inRange own = true := by
  cases x with
  | own => exact h
  | empty => exact h
  | entry e =>
    simp only [PeerSlot.inRange, Bool.and_eq_true] at h
    exact h.1

theorem State.enterSleep_node (s : State) : s.enterSleep.node = s.node.sleep := by simp [State.enterSleep]

theorem State.enterSleep_peers (s : State) : s.enterSleep.peers = s.peers.emptied := by simp [State.enterSleep]

theorem State.enterSleep_request (s : State) : s.enterSleep.air.request = s.air.request := by
  simp [State.enterSleep, AirUnit.sleep, AirUnit.lapse]

theorem PeerTable.emptied_inRange {s : State} (h : s.peersInRange) (n : Node) :
    (s.peers.emptied[n]).inRange (decide (n = s.node.own)) = true := by
  have slot : s.peers.emptied[n] = (s.peers[n]).cleared := by simp [PeerTable.emptied]
  rw [slot]
  exact PeerSlot.cleared_inRange _ _ (h n)

/-- An entry into Sleep from a state at rest (R25, R159). -/
theorem State.TakeKept.enterSleep {s u : State} (h : u.TakeSound) (rests : u.node.state ≠ .running) : s.TakeKept u.enterSleep := by
  have node := u.enterSleep_node
  have asleep : u.enterSleep.node.state = .sleep := u.enterSleep_state
  refine .of_resting ?_ (by rw [asleep]; decide) ?_ (fun n => ?_) ?_ (State.loadingAtRest_of_awake (by rw [asleep]; decide)) ?_
  · rw [u.enterSleep_frame.2.1]; exact h.take.resting rests
  · rw [u.enterSleep_request]; exact h.take.request
  · rw [u.enterSleep_peers, node]; exact PeerTable.emptied_inRange h.peers n
  · rw [u.enterSleep_frame.1]; exact h.params
  · rw [State.nodeLaws, node]; exact fun _ => rfl

/-- The end of the wait of Parking: the leaving phase begins, or in Listen-only the node sleeps (R159). -/
theorem State.TakeKept.beginLeaving {s u : State} (h : u.TakeSound) (parking : u.node.state = .parking) :
    s.TakeKept u.beginLeaving := by
  have rests : u.node.state ≠ .running := by rw [parking]; decide
  let v := u.mapNode fun n => { n with leaving := true }
  have left (f : NodeControl → NodeControl) (state : (f u.node).state = .parking) (own : (f u.node).own = u.node.own) :
      s.TakeKept (u.mapNode f) := by
    refine .of_resting (h.take.resting rests) (by simp [state]) h.take.request
      (State.peersInRange_congr (s := u) own rfl h.peers) h.params
      (State.loadingAtRest_of_awake (by simp [state])) (fun k => absurd state k)
  unfold State.beginLeaving
  dsimp only
  split
  · exact State.TakeKept.enterSleep (left (fun n => { n with leaving := true }) parking rfl).sound (by simpa using rests)
  · exact (left (fun n => { n with leaving := true, leavingTimer := Timer.start }) parking rfl).still (State.handDemand_still _)

theorem State.TakeKept.settleParking {s u : State} (h : s.TakeKept u) (b : State) : s.TakeKept (u.settleParking b) := by
  unfold State.settleParking
  split
  next waits =>
    simp only [Bool.and_eq_true, decide_eq_true_eq] at waits
    obtain ⟨⟨⟨parking, -⟩, -⟩, -⟩ := waits
    exact State.TakeKept.beginLeaving h.sound parking
  next => exact h

/-- The end of an event keeps the laws. -/
theorem State.TakeKept.finish {s u : State} (h : s.TakeKept u) (b : State) : s.TakeKept (u.finish b) :=
  ((h.settleParking b).still (State.settleDemand_still _ _)).still (State.settleStatus_still _)

end Sys2Proof.Machine
end

section
/-! The changes of the take: the grant of a share expiry and the register's acts on it, Isolated set and cleared, and the entries into
and out of Running (R35 to R65). -/

namespace Sys2Proof.Machine

/-! ### The grant -/

/-- No claim is allotted more than its request (R40 to R42). -/
theorem serveClass_le {stage pool : Nat} {cs : List Claim} {a : Allotment} (h : a ∈ (serveClass stage pool cs).1) :
    ∃ c ∈ cs, a.amount ≤ c.request := by
  have least (c : Claim) : counted stage c ≤ c.request := by
    unfold counted
    split <;> omega
  unfold serveClass at h
  dsimp only at h
  split at h
  · obtain ⟨c, hc, rfl⟩ := List.mem_map.1 h
    exact ⟨c, hc, Nat.zero_le _⟩
  · split at h
    · obtain ⟨c, hc, rfl⟩ := List.mem_map.1 h
      exact ⟨c, hc, least c⟩
    next exceeds =>
      obtain ⟨c, hc, rfl⟩ := List.mem_map.1 h
      refine ⟨c, hc, (Nat.div_le_of_le_mul ?_).trans (least c)⟩
      rw [Nat.mul_comm]
      exact Nat.mul_le_mul_right _ (Nat.le_of_lt (Nat.not_le.1 exceeds))

theorem divide_le {stage : Nat} {claims : List Claim} {a : Allotment} :
    ∀ {ks : List ZoneClass} {pool : Nat}, a ∈ divide stage claims ks pool → ∃ c ∈ claims, a.amount ≤ c.request
  | [], _, h => absurd h List.not_mem_nil
  | k :: ks, pool, h => by
    rcases List.mem_append.1 h with served | later
    · obtain ⟨c, hc, le⟩ := serveClass_le served
      exact ⟨c, List.mem_of_mem_filter hc, le⟩
    · exact divide_le later

theorem allottedTo_le {n : Node} {most : Nat} : ∀ {as : List Allotment}, (∀ a ∈ as, a.amount ≤ most) → allottedTo n as ≤ most
  | [], _ => Nat.zero_le _
  | a :: as, h => by
    unfold allottedTo
    split
    · exact h a List.mem_cons_self
    · exact allottedTo_le fun b hb => h b (List.mem_cons_of_mem a hb)

/-- A claim of the list is the claim of its node (R27). -/
theorem mem_claimsList {s : State} {c : Claim} : c ∈ claimsList s ↔ ∃ n, claimOf s n = some c := by
  have every (n : Node) : n ∈ allNodes := by revert n; decide
  have order (k : ZoneClass) : k ∈ classOrder := by cases k <;> decide
  simp [claimsList, claimsByNode, every, order]

theorem claim_request_le {s : State} (peers : s.peersInRange) (request : s.air.request ≤ 600) {c : Claim}
    (h : c ∈ claimsList s) : c.request ≤ 600 := by
  obtain ⟨n, claim⟩ := mem_claimsList.1 h
  have slot := peers n
  unfold claimOf at claim
  split at claim
  · cases claim; exact request
  · cases claim
  next e he =>
    split at claim
    · cases claim
      simp only [he, PeerSlot.inRange, Bool.and_eq_true, decide_eq_true_eq] at slot
      exact slot.2.1
    · cases claim

/-- The grant of a share expiry lies in 0 to 600 (R44, R46). -/
theorem grantOf_le {s : State} (peers : s.peersInRange) (request : s.air.request ≤ 600) : grantOf s ≤ 600 := by
  unfold grantOf
  split
  · exact (Nat.min_le_left _ _).trans request
  · refine allottedTo_le fun a ha => ?_
    obtain ⟨c, hc, le⟩ := divide_le ha
    exact le.trans (claim_request_le peers request hc)

/-! ### The register at a share expiry -/

/-- The laws of the register alone, within a bound on the grant (R49, R51, R52). -/
structure ShareUnit.Sound (u : ShareUnit) : Prop where
  steady : u.state = .steady → u.announced = u.applied
  raised : u.state ≠ .steady → u.applied < u.announced
  granted : u.applied ≤ u.grant
  announced : u.announced ≤ 600

theorem ShareUnit.steadyAt_sound {t : Nat} {u : ShareUnit} (granted : t ≤ u.grant) (grant : u.grant ≤ 600) :
    (u.steadyAt t).Sound :=
  ⟨fun _ => rfl, fun h => absurd rfl h, granted, granted.trans grant⟩

/-- A raise begun announces more than T, or the register stands Steady (R55). -/
theorem ShareUnit.beginRaise_spec {step : Nat} {lineOn : Bool} {u : ShareUnit} (positive : 0 < step) (granted : u.applied ≤ u.grant)
    (grant : u.grant ≤ 600) : (u.beginRaise step lineOn).Sound ∧ (u.beginRaise step lineOn).state ≠ .announced ∧
    (u.beginRaise step lineOn).applied = u.applied := by
  unfold ShareUnit.beginRaise
  split
  next raise =>
    simp only [Bool.and_eq_true, decide_eq_true_eq] at raise
    exact ⟨⟨fun h => absurd h (by simp), fun _ => by dsimp only; omega, granted, by dsimp only; omega⟩, by simp, rfl⟩
  next => exact ⟨ShareUnit.steadyAt_sound granted grant, by simp [ShareUnit.steadyAt], rfl⟩

/-- A raise revised keeps T, and goes on announcing more than T or stands Steady (R54, R57, R60). -/
theorem ShareUnit.reviseRaise_spec {step : Nat} {lineOn : Bool} {u : ShareUnit} (positive : 0 < step) (granted : u.applied ≤ u.grant)
    (grant : u.grant ≤ 600) (announcing : u.state = .announcing) (raised : u.applied < u.announced) (announced : u.announced ≤ 600) :
    (u.reviseRaise step lineOn).Sound ∧ (u.reviseRaise step lineOn).state ≠ .announced ∧
    (u.reviseRaise step lineOn).applied = u.applied := by
  unfold ShareUnit.reviseRaise
  split
  next => exact ⟨ShareUnit.steadyAt_sound granted grant, by simp [ShareUnit.steadyAt], rfl⟩
  next differs =>
    have still : ∀ a, u.applied < a → a ≤ 600 → ({ u with announced := a } : ShareUnit).Sound := fun a more most =>
      ⟨fun h => absurd (announcing.symm.trans h) (by decide), fun _ => more, granted, most⟩
    split
    · exact ⟨still _ (by omega) grant, by simp [announcing], rfl⟩
    · split
      · exact ⟨still _ (by omega) (by omega), by simp [announcing], rfl⟩
      · exact ⟨still _ raised announced, by simp [announcing], rfl⟩

/-- The register at a shared expiry: sound, Steady or Announcing, T raised at most to A and that from Announced alone (R53 to R58). -/
theorem ShareUnit.sharedTake_spec {step : Nat} {lineOn : Bool} {u : ShareUnit} (positive : 0 < step) (grant : u.grant ≤ 600)
    (raised : u.state ≠ .steady → u.applied < u.announced) (announced : u.announced ≤ 600) :
    (u.sharedTake step lineOn).Sound ∧ (u.sharedTake step lineOn).state ≠ .announced ∧
    ((u.sharedTake step lineOn).applied ≤ u.applied ∨
      u.state = .announced ∧ (u.sharedTake step lineOn).applied ≤ u.announced) := by
  unfold ShareUnit.sharedTake
  split
  next cut =>
    exact ⟨ShareUnit.steadyAt_sound le_rfl grant, by simp [ShareUnit.steadyAt], .inl (Nat.le_of_lt cut)⟩
  next =>
    have granted : u.applied ≤ u.grant := by omega
    split
    case h_1 =>
      obtain ⟨sound, state, applied⟩ := ShareUnit.beginRaise_spec (lineOn := lineOn) positive granted grant
      exact ⟨sound, state, .inl applied.le⟩
    case h_2 announcing =>
      obtain ⟨sound, state, applied⟩ := ShareUnit.reviseRaise_spec (lineOn := lineOn) positive granted grant announcing
        (raised (by rw [announcing]; decide)) announced
      exact ⟨sound, state, .inl applied.le⟩
    case h_3 state =>
      obtain ⟨sound, left, applied⟩ := ShareUnit.beginRaise_spec (lineOn := lineOn)
        (u := { u with applied := min u.announced u.grant }) positive (Nat.min_le_right _ _) grant
      exact ⟨sound, left, .inr ⟨state, applied.le.trans (Nat.min_le_left _ _)⟩⟩

theorem ShareUnit.sharedTake_frame (step : Nat) (lineOn : Bool) (u : ShareUnit) :
    (u.sharedTake step lineOn).grant = u.grant ∧ (u.sharedTake step lineOn).timer = u.timer ∧
    (u.sharedTake step lineOn).lastCompleted = u.lastCompleted := by
  unfold ShareUnit.sharedTake ShareUnit.beginRaise ShareUnit.reviseRaise ShareUnit.steadyAt
  dsimp only
  (repeat' split) <;> exact ⟨rfl, rfl, rfl⟩

/-- The laws of the register, in Running. -/
theorem State.takeLaws_of_running {s : State} (sound : s.share.Sound) (grant : s.share.grant ≤ 600) (request : s.air.request ≤ 600)
    (isolated : s.line.isolated = true → s.share.applied ≤ s.params.isolatedCap) (running : s.node.state = .running)
    (timer : s.share.timer.isRunning = true) : s.takeLaws :=
  ⟨sound.steady, sound.raised, sound.granted, grant, sound.announced, request, isolated, fun _ => timer,
    fun h => absurd running h⟩

/-! ### The events of the take -/

theorem State.awake_of_running {s : State} (h : s.node.state = .running) : s.node.state ≠ .loading := by rw [h]; decide

/-- A share expiry keeps the laws: an isolated one stands at the grant within the cap, a shared one raises T at most to an A that a
completed Demand carried (R51, R52, R61). -/
theorem State.TakeSound.shareExpiry {s : State} (h : s.TakeSound) (running : s.node.state = .running) :
    s.TakeKept (s.changeTake (ShareUnit.expiry s.params s.line.isolated s.line.lineOn (grantOf s))) := by
  set f := ShareUnit.expiry s.params s.line.isolated s.line.lineOn (grantOf s) with hf
  obtain ⟨-, raised, -, -, announced, request, -, -, -⟩ := h.take
  have grant : grantOf s ≤ 600 := grantOf_le h.peers request
  have positive : 0 < s.params.raiseStep := by
    obtain ⟨-, ⟨-, -, ⟨step, -⟩, -⟩, -⟩ := h.params
    omega
  have line := LineInterface.eq_of_unmarked (State.changeTake_unmarked f s)
  have register : (f s.share).Sound ∧ (f s.share).grant = grantOf s ∧ (f s.share).timer = .running 0 ∧
      (f s.share).state ≠ .announced ∧ (s.line.isolated = true → (f s.share).applied ≤ s.params.isolatedCap) ∧
      (s.line.isolated = false → (f s.share).lastCompleted = s.share.lastCompleted ∧
        ((f s.share).applied ≤ s.share.applied ∨
          s.share.state = .announced ∧ (f s.share).applied ≤ s.share.announced)) := by
    simp only [hf, ShareUnit.expiry]
    cases isolated : s.line.isolated with
    | true =>
      refine ⟨ShareUnit.steadyAt_sound le_rfl grant, rfl, rfl, by simp [ShareUnit.isolatedTake, ShareUnit.steadyAt], fun _ => ?_,
        fun no => absurd no (by decide)⟩
      simp only [if_true, ShareUnit.isolatedTake, ShareUnit.steadyAt, grantOf, isolated, isolatedGrant]
      exact Nat.min_le_right _ _
    | false =>
      simp only [Bool.false_eq_true, if_false]
      obtain ⟨sound, state, applied⟩ := ShareUnit.sharedTake_spec (lineOn := s.line.lineOn)
        (u := { s.share with grant := grantOf s, timer := Timer.start }) positive grant raised announced
      obtain ⟨grant', timer, completed⟩ := ShareUnit.sharedTake_frame s.params.raiseStep s.line.lineOn
        { s.share with grant := grantOf s, timer := Timer.start }
      exact ⟨sound, grant', timer, state, fun no => no.elim, fun _ => ⟨completed, applied⟩⟩
  obtain ⟨sound, grant', timer, state, cap, shared⟩ := register
  refine ⟨⟨State.takeLaws_of_running ?_ ?_ ?_ ?_ ?_ ?_, ?_, ?_, ?_, ?_, ?_⟩, ?_⟩
  · rw [State.changeTake_share]; exact sound
  · rw [State.changeTake_share, grant']; exact grant
  · rw [State.changeTake_request]; exact request
  · rw [line, State.changeTake_share, (s.changeTake_frame f).1]; exact cap
  · simpa using running
  · rw [State.changeTake_share, timer]; rfl
  · exact State.announcedLaw_of_announcing (by rw [State.changeTake_share]; exact state)
  · exact State.peersInRange_congr (by simp) (by simp) h.peers
  · rw [(s.changeTake_frame f).1]; exact h.params
  · exact State.loadingAtRest_of_awake (by simpa using State.awake_of_running running)
  · rw [State.nodeLaws, (s.changeTake_frame f).2.1]; exact h.node
  · intro clear before
    rw [line] at clear
    obtain ⟨completed, applied⟩ := shared clear
    have before : s.share.applied ≤ s.share.lastCompleted := before.resolve_left (by simpa using clear)
    rw [State.changeTake_share, completed]
    rcases applied with kept | ⟨state, raised⟩
    · exact .inl (kept.trans before)
    · exact .inl (raised.trans (h.announced state).1)

/-- The register trimmed and Steady: the laws hold of it in Running, and outside it the register was at rest and stays so (R62, R63). -/
theorem State.TakeSound.trimmed {s u : State} (h : s.TakeSound) {t : Nat} (trim : t ≤ s.share.applied)
    (share : u.share = s.share.steadyAt t) (frame : u.params = s.params ∧ u.node = s.node ∧ u.peers = s.peers)
    (request : u.air.request = s.air.request) (awake : s.node.state ≠ .loading)
    (cap : u.line.isolated = true → t ≤ u.params.isolatedCap) (completed : u.line.isolated = false → t ≤ s.share.lastCompleted) :
    s.TakeKept u := by
  obtain ⟨params, node, peers⟩ := frame
  have peersKept : u.peersInRange := State.peersInRange_congr (by rw [node]) peers h.peers
  have paramsKept : u.params.inRange := params ▸ h.params
  have nodeKept : u.nodeLaws := by rw [State.nodeLaws, node]; exact h.node
  have asleep : u.loadingAtRest := State.loadingAtRest_of_awake (by rw [node]; exact awake)
  obtain ⟨-, -, granted, grant, -, within, -, timer, -⟩ := h.take
  by_cases running : s.node.state = .running
  · refine ⟨⟨State.takeLaws_of_running ?_ ?_ (request ▸ within) ?_ (by rw [node]; exact running) ?_, ?_, peersKept, paramsKept,
      asleep, nodeKept⟩, fun clear _ => .inl ?_⟩
    · rw [share]; exact ShareUnit.steadyAt_sound (trim.trans granted) grant
    · rw [share]; exact grant
    · rw [share]; exact cap
    · rw [share]; exact timer running
    · exact State.announcedLaw_of_steady (by rw [share]; rfl)
    · rw [share]; exact completed clear
  · obtain ⟨grant0, applied0, -, -, timer0⟩ := h.take.resting running
    refine .of_resting ?_ (by rw [node]; exact running) (request ▸ within) peersKept paramsKept asleep nodeKept
    rw [share]
    exact ⟨grant0, by simp only [ShareUnit.steadyAt]; omega, by simp only [ShareUnit.steadyAt]; omega, rfl, timer0⟩

theorem State.TakeSound.setIsolated {s : State} (h : s.TakeSound) (awake : s.node.state ≠ .loading) : s.TakeKept s.setIsolated := by
  have isolated : s.setIsolated.line.isolated = true := congrArg LineInterface.isolated s.setIsolated_unmarked
  refine h.trimmed (Nat.min_le_left _ s.params.isolatedCap) s.setIsolated_share (by simp) (by simp [State.setIsolated]) awake
    (fun _ => ?_) fun clear => absurd (isolated.symm.trans clear) (by decide)
  rw [s.setIsolated_frame.1]
  exact Nat.min_le_right _ _

theorem State.TakeSound.clearIsolated {s : State} (h : s.TakeSound) (awake : s.node.state ≠ .loading) :
    s.TakeKept s.clearIsolated := by
  have isolated : s.clearIsolated.line.isolated = false := congrArg LineInterface.isolated s.clearIsolated_unmarked
  exact h.trimmed (Nat.min_le_left _ s.share.lastCompleted) s.clearIsolated_share (by simp) (by simp [State.clearIsolated]) awake
    (fun set => absurd (isolated.symm.trans set) (by decide)) fun _ => Nat.min_le_right _ _

end Sys2Proof.Machine
end

section
/-! The laws of the take through the changes of the node state and the receptions (R14, R19 to R25, R49, R65, R155 to R159). -/

namespace Sys2Proof.Machine

/-- What leaves the take alone before an event that keeps its laws. -/
theorem State.TakeStill.before {s u v : State} (h : s.TakeStill u) (k : u.TakeKept v) : s.TakeKept v where
  sound := k.sound
  completed clear before := by
    rcases k.completed clear (by rw [h.isolated, h.share]; exact before) with le | ⟨o, c, on, frame, void, share, less⟩
    · exact .inl le
    · obtain ⟨p, hp, frame', void'⟩ := h.onLine o on
      refine .inr ⟨p, c, hp, frame'.trans frame, ?_, by rw [← h.share]; exact share, by rw [← h.share]; exact less⟩
      exact Bool.eq_false_iff.2 fun set => absurd (void.symm.trans (void' set)) (by decide)

/-! ### Node Control -/

theorem State.settleFresh_request (s : State) : s.settleFresh.air.request = s.air.request := by simp [State.settleFresh]

/-- A state other than Running whose ranges are those of the state the event found, itself at rest. -/
theorem State.TakeSound.rested {b s u : State} (h : s.TakeSound) (rests : s.node.state ≠ .running) (rests' : u.node.state ≠ .running)
    (awake : u.node.state ≠ .loading) (share : u.share = s.share) (request : u.air.request = s.air.request)
    (own : u.node.own = s.node.own) (peers : u.peers = s.peers) (params : u.params.inRange) (node : u.nodeLaws) : b.TakeKept u :=
  .of_resting (share ▸ h.take.resting rests) rests' (request ▸ h.take.request) (State.peersInRange_congr own peers h.peers) params
    (State.loadingAtRest_of_awake awake) node

/-- An entry into Running from another state (R35, R156). -/
theorem State.TakeSound.enterRunning {b s : State} (h : s.TakeSound) (rests : s.node.state ≠ .running) (fromListening : Bool) :
    b.TakeKept (s.enterRunning fromListening) := by
  obtain ⟨grant, applied, announced, steady, -⟩ := h.take.resting rests
  unfold State.enterRunning State.startSleepDelay State.when
  dsimp only
  refine State.TakeKept.still (.of_entering ?_ ?_ ?_ ?_ (State.peersInRange_congr (s := s) ?_ ?_ h.peers) ?_ ?_)
    (State.handDemand_still _)
  case refine_1 => split <;> exact ⟨by simpa using grant, by simpa using applied, by simpa using announced, by simpa using steady, rfl⟩
  case refine_4 => split <;> simpa [State.settleFresh_request] using h.take.request
  case refine_7 => split <;> simpa using h.params
  case refine_8 => split <;> simp [State.nodeLaws]
  all_goals split <;> simp [Timer.start]

/-- A leaving of Running: the grant and the take become 0, and no request is left (R49, R65, R101). -/
theorem State.TakeSound.leaveRunning {b s : State} (h : s.TakeSound) (running : s.node.state = .running) {dest : NodeState}
    (rests : dest ≠ .running) (awake : dest ≠ .loading) : b.TakeKept (s.leaveRunning dest) := by
  have still : s.node.leaving = false := h.node (by rw [running]; decide)
  refine .of_resting ?_ (by simpa using rests) ?_ (State.peersInRange_congr (s := s) (by simp) (by simp) h.peers) (by simpa using h.params)
    (State.loadingAtRest_of_awake (by simpa using awake)) (fun _ => by simpa using still)
  · simp [State.leaveRunning, State.composeClass, ShareUnit.leave, ShareUnit.steadyAt]
  · simp [State.leaveRunning, State.composeClass, State.settleFresh_request, AirUnit.clearWants]

/-- A change of Node Control outside Running that leaves the share and the tables alone. -/
theorem State.TakeSound.mapNode {b s : State} (h : s.TakeSound) {f : NodeControl → NodeControl} (rests : s.node.state ≠ .running)
    (rests' : (f s.node).state ≠ .running) (awake : (f s.node).state ≠ .loading) (own : (f s.node).own = s.node.own)
    (node : (f s.node).state ≠ .parking → (f s.node).leaving = false) : b.TakeKept (s.mapNode f) :=
  h.rested rests rests' awake rfl rfl own rfl h.params node

/-- A timer of Node Control changes nothing the take rests on. -/
theorem State.TakeStill.mapNode {s : State} {f : NodeControl → NodeControl} (state : (f s.node).state = s.node.state)
    (leaving : (f s.node).leaving = s.node.leaving) (own : (f s.node).own = s.node.own) : s.TakeStill (s.mapNode f) :=
  ⟨rfl, state, leaving, rfl, rfl, fun o ho => ⟨o, ho, rfl, id⟩, id, State.peersInRange_congr own rfl,
    State.loadingAtRest_congr state rfl⟩

/-- An entry into Parking (R158). -/
theorem State.TakeSound.enterParking {s : State} (h : s.TakeSound) : s.TakeKept s.enterParking := by
  unfold State.enterParking
  split
  next running =>
    have left := h.leaveRunning (b := s) running (dest := .parking) (by decide) (by decide)
    refine .of_resting ?_ (by simp [NodeControl.startParking]) left.sound.take.request
      (State.peersInRange_congr (s := s) (by simp [NodeControl.startParking]) (by simp) h.peers) (by simpa using h.params)
      (State.loadingAtRest_of_awake (by simp [NodeControl.startParking])) (by simp [State.nodeLaws, NodeControl.startParking])
    simpa using left.sound.take.resting (by simp)
  next rests =>
    refine h.rested rests ?_ ?_ ?_ ?_ ?_ ?_ ?_ ?_
    case refine_5 => simp [State.endSupplyLow, NodeControl.startParking]
    case refine_7 => simpa [State.endSupplyLow] using h.params
    all_goals simp [State.endSupplyLow, State.settleFresh_request, AirUnit.lapse, NodeControl.startParking, State.nodeLaws]

/-- The return of the supply (R157). -/
theorem State.TakeSound.supplyReturns {s : State} (h : s.TakeSound) : s.TakeKept s.supplyReturns := by
  unfold State.supplyReturns
  split
  case h_1 low =>
    have ended : s.TakeStill s.endSupplyLow := .of_frame (by simp [State.endSupplyLow]) (by simp [State.endSupplyLow])
      (by simp [State.endSupplyLow]) (by simp [State.endSupplyLow]) (by simp [State.endSupplyLow]) (by simp [State.endSupplyLow])
      (State.loadingAtRest_congr (by simp [State.endSupplyLow]) (by simp [State.endSupplyLow]))
    exact ended.before ((ended.sound h).enterRunning (by rw [ended.state, low]; decide) false)
  case h_2 listening =>
    split
    · exact h.enterRunning (by rw [listening]; decide) true
    · exact h.kept
  all_goals exact h.kept

theorem State.raise_still (c : Condition) (s : State) : s.TakeStill (s.raise c) :=
  .of_frame (by simp) (by simp) (by simp) (by simp) (by simp) (by simp) (State.loadingAtRest_congr (by simp) (by simp))

theorem State.lower_still (c : Condition) (s : State) : s.TakeStill (s.lower c) :=
  .of_frame (by simp) (by simp) (by simp) (by simp) (by simp) (by simp) (State.loadingAtRest_congr (by simp) (by simp))

theorem State.setCond_still (b : Bool) (c : Condition) (s : State) : s.TakeStill (s.setCond b c) :=
  .of_frame (by simp) (by simp) (by simp) (by simp) (by simp) (by simp) (State.loadingAtRest_congr (by simp) (by simp))

/-- The loss of the supply (R157). -/
theorem State.TakeSound.supplyFails {s : State} (h : s.TakeSound) : s.TakeKept s.supplyFails := by
  unfold State.supplyFails
  split
  next running => exact (h.leaveRunning running (by decide) (by decide)).still (State.raise_still _ _)
  next => exact h.kept

/-- The return from Parking (R159). -/
theorem State.TakeSound.unpark {b s : State} (h : s.TakeSound) (parking : s.node.state = .parking) : b.TakeKept s.unpark := by
  have rests : s.node.state ≠ .running := by rw [parking]; decide
  have stopped : b.TakeKept (s.mapNode fun n => { n with parking := .stopped, leavingTimer := .stopped, leaving := false }) :=
    h.mapNode rests rests (by rw [parking]; decide) rfl fun _ => rfl
  unfold State.unpark
  dsimp only
  split
  · exact stopped.sound.enterRunning rests false
  · refine h.rested rests ?_ ?_ ?_ ?_ ?_ ?_ ?_ ?_
    case refine_7 => simpa using h.params
    all_goals simp [State.settleFresh_request, State.nodeLaws]

/-- The entry into Listening (R156). -/
theorem State.TakeSound.enterListening {b s : State} (h : s.TakeSound) (rests : s.node.state ≠ .running)
    (still : s.node.leaving = false) : b.TakeKept s.enterListening :=
  h.rested rests (by simp [State.enterListening]) (by simp [State.enterListening]) rfl rfl rfl rfl h.params fun _ => still

/-- The ignition's going off and coming on (R158, R159). -/
theorem State.ignitionOff_still (s : State) : s.TakeStill s.ignitionOff := by
  unfold State.ignitionOff State.when
  split
  · exact .mapNode rfl rfl rfl
  · exact .refl s

theorem State.TakeSound.ignitionOn {s : State} (h : s.TakeSound) : s.TakeKept s.ignitionOn := by
  have stopped : s.TakeStill (s.mapNode fun n => { n with sleepDelay := .stopped }) := .mapNode rfl rfl rfl
  unfold State.ignitionOn
  dsimp only
  split
  case h_1 parking => exact (stopped.sound h).unpark parking
  case h_2 asleep =>
    exact (stopped.sound h).enterListening (by simp [asleep]) (h.node (by rw [asleep]; decide))
  all_goals exact stopped.kept h

/-! ### Receptions -/

theorem State.countReception_still (bad : Bool) (s : State) : s.TakeStill (s.countReception bad) := by
  have counted : s.TakeStill (s.mapLine (LineInterface.countReception s.params.errorLimit bad)) := by
    have line := LineInterface.countReception_eq s.params.errorLimit bad s.line
    refine ⟨rfl, rfl, rfl, rfl, by rw [State.mapLine_line, line], fun o ho => ⟨o, ?_, rfl, id⟩, id, id, id⟩
    rw [State.mapLine_line, line] at ho
    exact ho
  exact counted.trans (State.setCond_still _ _ _)

theorem State.restartSilence_still (s : State) : s.TakeStill (s.mapLine (LineInterface.restartSilence s.params)) :=
  ⟨rfl, rfl, rfl, rfl, rfl, fun o ho => ⟨o, ho, rfl, id⟩, id, id, id⟩

theorem State.TakeSound.heardWellFormed {s : State} (h : s.TakeSound) (awake : s.node.state ≠ .loading) :
    s.TakeKept s.heardWellFormed := by
  have restarted := s.restartSilence_still
  rw [State.heardWellFormed_eq]
  unfold State.when
  split
  · exact restarted.before ((restarted.sound h).clearIsolated awake)
  · exact restarted.kept h

theorem State.TakeSound.heardGood {s : State} (h : s.TakeSound) (awake : s.node.state ≠ .loading) : s.TakeKept s.heardGood := by
  have counted := s.countReception_still false
  exact counted.before ((counted.sound h).heardWellFormed (by rw [counted.state]; exact awake))

theorem State.enterListenOnly_still (s : State) : s.TakeStill (s.mapLine LineInterface.enterListenOnly) := by
  refine ⟨rfl, rfl, rfl, rfl, rfl, fun o ho => ?_, id, id, id⟩
  simp only [State.mapLine_line, LineInterface.enterListenOnly, Option.mem_def, Option.map_eq_some_iff] at ho
  obtain ⟨p, hp, rfl⟩ := ho
  exact ⟨p, hp, rfl, fun _ => rfl⟩

theorem State.TakeSound.heardConflict {s : State} (h : s.TakeSound) (awake : s.node.state ≠ .loading) :
    s.TakeKept s.heardConflict := by
  have counted : s.TakeStill ((s.countReception false).mapLine (LineInterface.restartSilence s.params)) := by
    have restarted := (s.countReception false).restartSilence_still
    rw [(s.countReception_frame false).1] at restarted
    exact (s.countReception_still false).trans restarted
  unfold State.heardConflict
  dsimp only
  split
  · exact counted.kept h
  · have raised := counted.trans (State.raise_still .addressConflict _)
    exact (raised.before ((raised.sound h).setIsolated (by rw [raised.state]; exact awake))).still (State.enterListenOnly_still _)

theorem PeerEntry.live_iff (e : PeerEntry) : e.live = true ↔ e.freshness = .fresh ∨ e.freshness = .aging := by
  unfold PeerEntry.live
  cases e.freshness <;> simp

/-- A received record brought into range (R19). -/
theorem DemandBytes.entry_inRange (d : DemandBytes) : d.entry.inRange := by
  have space : d.b0.toNat / 64 + 1 ≤ 4 := by have := d.b0.isLt; omega
  refine ⟨Nat.min_le_left _ _, Nat.min_le_left _ _, ?_, ⟨Nat.le_add_left _ _, space⟩, by simp [DemandBytes.entry], Nat.zero_le _⟩
  simp only [DemandBytes.entry, clampNat]
  (repeat' split) <;> omega

/-- One slot rewritten, read by node. -/
theorem PeerTable.slot_set (t : PeerTable) (n m : Node) (x : PeerSlot) : (t.set n x)[m] = if m = n then x else t[m] := by
  split
  next e => subst e; simp
  next e => simp [Vector.getElem_set_ne, Fin.val_ne_of_ne (Ne.symm e)]

/-- One slot rewritten within its range. -/
theorem State.setPeer_still (n : Node) {x : PeerSlot} {s : State}
    (h : s.peersInRange → x.inRange (decide (n = s.node.own)) = true) : s.TakeStill (s.mapPeers fun t => t.set n x) := by
  refine ⟨rfl, rfl, rfl, rfl, rfl, fun o ho => ⟨o, ho, rfl, id⟩, id, fun peers m => ?_, id⟩
  rw [State.mapPeers_peers, PeerTable.slot_set]
  split
  next e => exact e ▸ h peers
  next => exact peers m

theorem State.demandArrives_still {n : Node} {d : DemandBytes} {s : State} (peer : n ≠ s.node.own) :
    s.TakeStill (s.demandArrives n d) := by
  refine State.setPeer_still n fun _ => ?_
  split <;> simp [PeerSlot.inRange, peer, DemandBytes.entry_inRange]

end Sys2Proof.Machine
end

section
/-! Every command and every step keeps the laws of the take register, of the Peer Table, of the configuration and of Loading. -/

namespace Sys2Proof.Machine

/-! ### Receptions -/

/-- What the Drive Unit or the Air Unit does out of Loading, the request apart, leaves the take alone. -/
theorem State.TakeStill.of_awake {s u : State} (awake : s.node.state ≠ .loading) (params : u.params = s.params)
    (node : u.node = s.node) (peers : u.peers = s.peers) (share : u.share = s.share) (request : u.air.request = s.air.request)
    (line : u.line.unmarked = s.line.unmarked) : s.TakeStill u :=
  .of_frame params node peers share request line fun _ => State.loadingAtRest_of_awake (by rw [node]; exact awake)

theorem State.conditionReads_still (s : State) : s.TakeStill s.conditionReads := by
  have line : s.conditionReads.line = _ :=
    LineInterface.handReport_eq (reportContent (s.mapCond ConditionUnit.freeze)) s.line
  refine ⟨rfl, rfl, rfl, rfl, by rw [line], fun o ho => ?_, id, id, id⟩
  · rw [line, Option.mem_def, Option.map_eq_some_iff] at ho
    obtain ⟨p, hp, rfl⟩ := ho
    exact ⟨p, hp, rfl, id⟩

/-- A frame taken in keeps the laws, one of the own node's Demand number being a conflict (R2). -/
theorem State.TakeSound.hears {s : State} (h : s.TakeSound) (awake : s.node.state ≠ .loading) {o : Sorted}
    (peer : ∀ n d, o = .demand n d → n ≠ s.node.own) : s.TakeKept (s.hears o) := by
  have good := h.heardGood awake
  have awake' : s.heardGood.node.state ≠ .loading := by simpa using awake
  cases o with
  | outside => exact h.heardWellFormed awake
  | conflict => exact h.heardConflict awake
  | badLength => exact (s.countReception_still true).kept h
  | ignored => exact good
  | allowance b0 b1 b2 =>
    refine good.still (.of_awake awake' ?_ ?_ ?_ ?_ ?_ ?_) <;> simp [State.hears, State.allowanceArrives]
  | demand n d => exact good.still (State.demandArrives_still (by simpa using peer n d rfl))
  | panel d =>
    refine good.still (.of_awake awake' ?_ ?_ ?_ ?_ ?_ ?_) <;> simp only [State.hears, State.panelArrives] <;> split <;>
      simp [State.settleFresh_request, AirUnit.takeSettings, AirUnit.takeOverrides]
    split <;> rfl
  | conditionRead => exact good.still (State.conditionReads_still _)
  | conditionClear b1 b2 b3 => exact good.still (.of_awake awake' rfl rfl rfl rfl rfl rfl)
  | conditionRelease => exact good.still (.of_awake awake' rfl rfl rfl rfl rfl rfl)
  | channelUnlock b1 =>
    refine good.still (.of_awake awake' ?_ ?_ ?_ ?_ ?_ ?_) <;> simp only [State.hears, State.channelsUnlock, State.when] <;>
      (repeat' split) <;> simp
  | rehome =>
    refine good.still (.of_awake awake' ?_ ?_ ?_ ?_ ?_ ?_) <;> simp [State.hears, State.dampersRehome, State.rehome]

/-! ### Answers -/

/-- A command's answer keeps the laws. -/
def State.Keeps (s : State) (o : Host.Outcome State Fault Refusal) : Prop := ∀ t, o = .next t → s.TakeKept t

theorem State.TakeKept.keeps {s u : State} (h : s.TakeKept u) : s.Keeps (.next u) := fun _ e => Host.Outcome.next.inj e ▸ h

/-- An event that may not be under way. -/
theorem State.TakeSound.keeps_ite {s u : State} (h : s.TakeSound) {p : Prop} [Decidable p] (k : p → s.TakeKept u) :
    s.Keeps (.next (if p then u else s)) := by
  refine State.TakeKept.keeps ?_
  split
  next hp => exact k hp
  next => exact h.kept

theorem State.accept_still (l : SlowLine) (b : Bool) (s : State) : s.TakeStill (s.accept l b) :=
  .of_frame rfl rfl rfl rfl rfl rfl id

/-- A level commanded on a slow line. -/
theorem State.TakeSound.keeps_onSlowEvent {s : State} (h : s.TakeSound) {l : SlowLine} {b : Bool} {f : State → State}
    (k : (s.accept l b).TakeKept (f (s.accept l b))) : s.Keeps (.next (s.onSlowEvent l b f)) := by
  have accepted := s.accept_still l b
  rcases s.onSlowEvent_cases l b f with ⟨-, e⟩ | ⟨-, e⟩ | ⟨-, e⟩ <;> rw [e]
  · exact ((accepted.before k).finish s).keeps
  · exact (accepted.kept h).keeps
  · exact h.kept.keeps

/-- An event at the receiver, which takes in nothing in Loading (R15). -/
theorem State.TakeSound.keeps_reception {s : State} (h : s.TakeSound) {f : State → State}
    (k : s.node.state ≠ .loading → s.TakeKept (f s)) : s.Keeps (.next (s.reception f)) := by
  refine h.keeps_ite fun receives => (k fun loading => ?_).finish s
  rw [loading] at receives
  exact absurd receives (by decide)

theorem State.TakeSound.keeps_hears {s : State} (h : s.TakeSound) {o : Sorted}
    (peer : ∀ n d, o = .demand n d → n ≠ s.node.own) : s.Keeps (.next (s.reception (State.hears o))) :=
  h.keeps_reception fun awake => h.hears awake peer

/-- An accepted edge on a fast input. -/
theorem State.TakeSound.onEdge {s : State} (h : s.TakeSound) (x : FastInput) (rising : Bool) {f : State → State}
    (k : (s.acceptFast x rising).TakeSound → s.TakeStill (s.acceptFast x rising) → s.TakeKept (f (s.acceptFast x rising))) :
    s.TakeKept (s.onEdge x rising f) := by
  have accepted : s.TakeStill (s.acceptFast x rising) := .of_frame rfl rfl rfl rfl rfl rfl id
  rcases s.onEdge_cases x rising f with ⟨-, e⟩ | ⟨-, e⟩ | ⟨-, -, e⟩ <;> rw [e]
  · exact k (accepted.sound h) accepted
  · exact accepted.kept h
  · exact h.kept

theorem State.mapInput_still (f : InputUnit → InputUnit) (s : State) : s.TakeStill (s.mapInput f) :=
  .of_frame rfl rfl rfl rfl rfl rfl id

/-! ### Start-up -/

theorem defaultParams_inRange : defaultParams.inRange := by
  refine ⟨?_, ?_, ?_⟩ <;> decide

theorem le_clampNat {lo hi : Nat} (h : lo ≤ hi) (x : Nat) : lo ≤ clampNat lo hi x := by
  unfold clampNat
  (repeat' split) <;> omega

theorem clampNat_le {lo hi : Nat} (h : lo ≤ hi) (x : Nat) : clampNat lo hi x ≤ hi := by
  unfold clampNat
  (repeat' split) <;> omega

/-- Every figure taken lies in its range (R155). -/
theorem takeParams_inRange (r : Params) : (takeParams r).inRange := by
  have period : clampNat 100 1000 (r.controlPeriod / 50 * 50) % 50 = 0 := by
    unfold clampNat
    (repeat' split) <;> omega
  refine ⟨?_, ?_, ?_⟩ <;>
    simp [takeParams, Params.timingInRange, Params.loadsInRange, Params.airInRange, le_clampNat, clampNat_le, period]

theorem takeImage_inRange (cfgm : Bool) (image : Vector Byte 83) : (takeImage cfgm image).1.inRange := by
  unfold takeImage
  split
  · exact takeParams_inRange _
  · exact defaultParams_inRange

theorem execColdStart_keeps (straps : Straps) (s : State) : s.Keeps (execColdStart straps s) := by
  refine (State.TakeKept.of_resting ⟨rfl, rfl, rfl, rfl, rfl⟩ (by simp [State.cold, NodeControl.cold]) (Nat.zero_le _) (fun n => ?_)
    defaultParams_inRange (fun _ => ?_) fun _ => rfl).keeps
  · have slot : (coldPeers (strapNode straps))[n] = if n = strapNode straps then .own else .empty := by
      rw [coldPeers, PeerTable.slot_set]
      simp
    rw [show (State.cold straps s.input.pins s.pending s.choices).peers[n] = _ from slot]
    split <;> simp_all [PeerSlot.inRange, State.cold, NodeControl.cold]
  · refine ⟨rfl, rfl, rfl, rfl, rfl, ?_, rfl, rfl⟩
    cases h : straps.hold <;> simp [State.cold, DriveUnit.cold, OutputChannel.cold, ChannelState.atRest, h]

theorem State.raiseConfig_still (how : ConfigSource) (s : State) : s.TakeStill (s.raiseConfig how) := by
  cases how with
  | image => exact .refl s
  | clampedImage => exact State.raise_still _ s
  | defaults => exact State.raise_still _ s

/-- The configuration put in force out of Loading is in its range (R155). -/
theorem execLoadingComplete_keeps {s : State} (h : s.TakeSound) (image : Vector Byte 83) : s.Keeps (execLoadingComplete image s) := by
  refine h.keeps_ite fun loading => State.TakeKept.finish ?_ s
  have rests : s.node.state ≠ .running := by rw [loading]; decide
  have still : s.node.leaving = false := h.node (by rw [loading]; decide)
  obtain ⟨params, state, leaving, share, -, -, request, peers, -⟩ :=
    (s.applyConfig (takeImage s.node.cfgm image).1).raiseConfig_still (takeImage s.node.cfgm image).2
  refine .of_resting ?_ ?_ (request h.take.request) (peers h.peers) ?_ (State.loadingAtRest_of_awake ?_) fun _ => leaving.trans still
  · exact share ▸ h.take.resting rests
  · simp [State.enterListening]
  · exact params ▸ takeImage_inRange _ _
  · simp [State.enterListening]

theorem execListeningTimerExpiry_keeps {s : State} (h : s.TakeSound) : s.Keeps (execListeningTimerExpiry s) := by
  refine h.keeps_ite fun ⟨listening, _⟩ => State.TakeKept.finish ?_ s
  have expired : s.TakeStill (s.mapNode fun n => { n with listening := .expired }) := .mapNode rfl rfl rfl
  split
  · exact (expired.sound h).enterRunning (by simp [listening]) true
  · exact expired.kept h

theorem execParkingTimerExpiry_keeps {s : State} (h : s.TakeSound) : s.Keeps (execParkingTimerExpiry s) := by
  refine h.keeps_ite fun ⟨parking, _⟩ => State.TakeKept.finish ?_ s
  have expired : s.TakeStill (s.mapNode fun n => { n with parking := .expired }) := .mapNode rfl rfl rfl
  split
  · exact expired.kept h
  · exact State.TakeKept.beginLeaving (expired.sound h) parking

/-! ### The transmitter -/

theorem State.freed_still (s : State) : s.TakeStill (s.mapLine fun l => { l with onLine := none }) :=
  ⟨rfl, rfl, rfl, rfl, rfl, fun _ ho => absurd ho (by simp), id, id, id⟩

/-- A change of the line that leaves the offer and Isolated as they are. -/
theorem State.TakeStill.mapLine {s : State} {f : LineInterface → LineInterface} (isolated : (f s.line).isolated = s.line.isolated)
    (onLine : (f s.line).onLine = s.line.onLine) : s.TakeStill (s.mapLine f) :=
  ⟨rfl, rfl, rfl, rfl, isolated, fun o ho => ⟨o, onLine ▸ ho, rfl, id⟩, id, id, id⟩

theorem State.failOffer_still (s : State) : s.TakeStill s.failOffer := by
  unfold State.failOffer
  split
  · exact .refl s
  · dsimp only
    split
    · exact s.freed_still
    · have line := LineInterface.countFailure_eq { s.line with onLine := none }
      have counted := s.freed_still.trans (.mapLine (f := LineInterface.countFailure) (by rw [State.mapLine_line, line])
        (by rw [State.mapLine_line, line]))
      unfold State.when
      split
      · exact counted.trans (State.raise_still _ _)
      · exact counted

/-- The Demand on offer is the one that waited, which carries A while one is announced (R4, R6). -/
theorem State.Inv.offer_kept {s : State} (inv : s.Inv) : s.TakeKept s.offer := by
  unfold State.offer
  split
  next permitted =>
    split
    next => exact inv.takeSound.kept
    next f waits =>
      refine ⟨⟨inv.take, fun announced => ⟨(inv.announced announced).1, fun o ho => ?_⟩, inv.peers, inv.params, inv.loading,
        inv.node⟩, inv.takeSound.kept.completed⟩
      obtain rfl : o = ⟨f, false, false⟩ := by simpa using ho.symm
      cases f with
      | status _ => rfl
      | report _ => rfl
      | demand c =>
        have slot : s.line.demandSlot = some c := by
          unfold LineInterface.lowestWaiting at waits
          split at waits <;> simp_all
        have current : c = demandContent s := by
          rcases inv.waiting.1 with none | some
          · rw [slot] at none; cases none
          · rw [slot] at some; exact Option.some.inj some
        have running : s.node.state = .running := by
          by_contra rests
          obtain ⟨-, -, -, steady, -⟩ := inv.take.resting rests
          exact absurd (steady.symm.trans announced) (by decide)
        have speaking : s.node.leaving = false := inv.node (by rw [running]; decide)
        simp [OnLine.carries, current, demandContent, speaking]
  next => exact inv.takeSound.kept

/-- A completed Demand makes its take the last completed one, and where it carries A or more the raise is announced (R56). -/
theorem State.TakeSound.demandCompletes {s : State} (h : s.TakeSound) {o : OnLine} {c : Demand} (on : s.line.onLine = some o)
    (frame : o.frame = .demand c) (void : o.void = false) : s.TakeKept (s.demandCompletes c o.replaced) := by
  have completed : s.TakeKept
      ((s.mapLine (LineInterface.demandCompleted c o.replaced)).mapShare (ShareUnit.complete c.take)) := by
    obtain ⟨steady, raised, granted, grant, most, request, cap, running, resting⟩ := h.take
    have state : ∀ x : TakeState, x = (s.share.complete c.take).state →
        (x = .steady ↔ s.share.state = .steady) ∧
        (x = .announced → s.share.announced ≤ c.take ∨ s.share.state = .announced) := by
      rintro x rfl
      unfold ShareUnit.complete
      dsimp only
      split
      next announces => exact ⟨by simp [announces.1], fun _ => .inl announces.2⟩
      next => exact ⟨Iff.rfl, .inr⟩
    obtain ⟨kept, announces⟩ := state _ rfl
    refine ⟨⟨?_, fun announced => ?_, h.peers, h.params, h.loading, h.node⟩, fun _ _ => ?_⟩
    · exact ⟨fun k => steady (kept.1 k), fun k => raised (fun e => k (kept.2 e)), granted, grant, most, request, cap, running,
        fun k => let ⟨a, b, d, e, f⟩ := resting k; ⟨a, b, d, kept.2 e, f⟩⟩
    · refine ⟨?_, fun p hp => absurd hp (by simp [LineInterface.demandCompleted, LineInterface.completed])⟩
      rcases announces announced with carried | before
      · exact carried
      · have carries := (h.announced before).2 o on
        rw [OnLine.carries, frame] at carries
        simpa [void, ShareUnit.complete] using carries
    · rcases Nat.lt_or_ge c.take s.share.applied with less | carried
      · exact .inr ⟨o, c, on, frame, void, rfl, less⟩
      · exact .inl carried
  unfold State.demandCompletes State.when
  dsimp only
  split
  next leaves =>
    simp only [Bool.and_eq_true, decide_eq_true_eq] at leaves
    exact State.TakeKept.enterSleep completed.sound (by rw [leaves.1.2]; decide)
  next => exact completed

theorem execDemandCompletion_keeps {s : State} (h : s.TakeSound) : s.Keeps (execDemandCompletion s) := by
  refine State.TakeKept.keeps ?_
  split
  case h_1 => exact h.kept
  case h_2 o on =>
    split
    case h_1 c frame =>
      split
      next => exact s.freed_still.kept h
      next void => exact (h.demandCompletes on frame (by simpa using void)).finish s
    all_goals exact h.kept

theorem State.completed_still {s : State} {f : LineInterface → LineInterface} (isolated : (f s.line).isolated = s.line.isolated)
    (free : (f s.line).onLine = none) : s.TakeStill (s.mapLine f) :=
  ⟨rfl, rfl, rfl, rfl, isolated, fun o ho => absurd (free.symm.trans ho) (by simp), id, id, id⟩

theorem execFrameCompletion_keeps {s : State} (h : s.TakeSound) : s.Keeps (execFrameCompletion s) := by
  refine State.TakeKept.keeps ?_
  split
  case h_1 => exact h.kept
  case h_2 o on =>
    split
    case h_1 => exact h.kept
    all_goals
      split
      · exact s.freed_still.kept h
      · exact ((State.completed_still rfl rfl).kept h).finish s

end Sys2Proof.Machine
end

section
/-! Every command and every step keeps the laws of the take register, of the Peer Table, of the configuration and of Loading: the
dispatch. -/

namespace Sys2Proof.Machine

/-! ### Loading -/

/-- An actuator away from its cold-start values is out of Loading. -/
theorem State.loadingAtRest.awake_of_actuator {s : State} (h : s.loadingAtRest) {d : Damper}
    (moved : s.drive.actuator d ≠ Actuator.cold) : s.node.state ≠ .loading := fun loading => by
  obtain ⟨fresh, blend, -⟩ := h loading
  cases d with
  | fresh => exact moved fresh
  | blend => exact moved blend

/-- A channel that has been driven or tripped is out of Loading. -/
theorem State.loadingAtRest.awake_of_channel {s : State} (h : s.loadingAtRest) {c : Channel}
    (left : (s.drive.channel c).state.atRest = false) : s.node.state ≠ .loading := fun loading => by
  obtain ⟨-, -, -, blower, heater, clutch, -⟩ := h loading
  cases c with
  | blower => exact absurd (blower.symm.trans left) (by decide)
  | heater => exact absurd (heater.symm.trans left) (by decide)
  | clutch => exact absurd (clutch.symm.trans left) (by decide)

theorem OutputChannel.atRest_of_driving {c : OutputChannel} (h : c.driving = true) : c.state.atRest = false := by
  unfold OutputChannel.driving at h
  cases hs : c.state <;> simp_all [ChannelState.atRest]

/-- A changed channel that rests where it rested. -/
theorem State.setChannel_loading {s : State} {c : Channel} {x : OutputChannel}
    (rests : (s.drive.channel c).state.atRest = true → x.state.atRest = true) (h : s.loadingAtRest) :
    (s.mapDrive fun d => d.setChannel x c).loadingAtRest := fun loading => by
  obtain ⟨fresh, blend, plan, blower, heater, clutch, duty, stages⟩ := h loading
  cases c with
  | blower => exact ⟨fresh, blend, plan, rests blower, heater, clutch, duty, stages⟩
  | heater => exact ⟨fresh, blend, plan, blower, rests heater, clutch, duty, stages⟩
  | clutch => exact ⟨fresh, blend, plan, blower, heater, rests clutch, duty, stages⟩

theorem State.setChannel_still {s : State} {c : Channel} {x : OutputChannel}
    (rests : (s.drive.channel c).state.atRest = true → x.state.atRest = true) :
    s.TakeStill (s.mapDrive fun d => d.setChannel x c) :=
  .of_frame rfl rfl rfl rfl rfl rfl (State.setChannel_loading rests)

/-- An act of an actuator out of Loading. -/
theorem State.applyActuator_still {s : State} (awake : s.node.state ≠ .loading) (d : Damper) (r : ActuatorStep) :
    s.TakeStill (s.applyActuator d r) :=
  .of_awake awake (by simp) (by simp) (by simp) (by simp) (by simp) (by simp)

/-- In Loading a hall edge finds the drive stopped and the actuator not coasting (R132). -/
theorem State.hallEdge_still (d : Damper) {s : State} (h : s.loadingAtRest) : s.TakeStill (s.hallEdge d) := by
  by_cases loading : s.node.state = .loading
  · obtain ⟨fresh, blend, -⟩ := h loading
    have cold : s.drive.actuator d = Actuator.cold := by
      cases d with
      | fresh => exact fresh
      | blend => exact blend
    have still : (Actuator.cold.edge (s.params.travel d) s.drive.plan.held s.asleep) = ⟨Actuator.cold, none⟩ := rfl
    have drive : (s.hallEdge d).drive = s.drive := by
      rw [State.hallEdge, State.applyActuator_drive, cold, still, ← cold]
      cases d <;> rfl
    exact .of_frame (by simp [State.hallEdge]) (by simp [State.hallEdge]) (by simp [State.hallEdge]) (by simp [State.hallEdge])
      (by simp [State.hallEdge]) (by simp [State.hallEdge]) (State.loadingAtRest_congr (by simp [State.hallEdge]) drive)
  · exact State.applyActuator_still loading d _

/-! ### The Air Unit and the inputs -/

theorem State.settleFresh_still {s : State} (awake : s.node.state ≠ .loading) : s.TakeStill s.settleFresh :=
  .of_awake awake (by simp) (by simp) (by simp) (by simp) s.settleFresh_request (by simp)

theorem State.mapAir_still {s : State} {f : AirUnit → AirUnit} (request : (f s.air).request = s.air.request) :
    s.TakeStill (s.mapAir f) :=
  .of_frame rfl rfl rfl rfl request rfl id

theorem State.sourceChanged_still {s : State} (awake : s.node.state ≠ .loading) : s.TakeStill s.sourceChanged :=
  State.TakeStill.trans (State.mapAir_still rfl) (State.settleFresh_still awake)

/-- The request of an air expiry is at most 600 (R97). -/
theorem State.airWork_request (s : State) : s.airWork.air.request ≤ 600 := by
  simp only [State.airWork, State.makePlan_request, State.airWants, State.composeRequest, State.mapAir_air]
  exact Nat.min_le_left _ _

theorem State.airWork_still {s : State} (running : s.node.state = .running) : s.TakeStill s.airWork := by
  have line := LineInterface.eq_of_unmarked s.airWork_unmarked
  obtain ⟨params, node, peers, -, share, -⟩ := s.airWork_frame
  exact ⟨params, by rw [node], by rw [node], share, by rw [line], fun o ho => ⟨o, by rw [line] at ho; exact ho, rfl, id⟩,
    fun _ => s.airWork_request, State.peersInRange_congr (by rw [node]) peers,
    fun _ => State.loadingAtRest_of_awake (by rw [node]; exact State.awake_of_running running)⟩

/-- Out of Running no boost, purge or override is under way (R84, R146). -/
theorem State.Inv.awake_of_timers {s : State} (inv : s.Inv) (h : s.air.boost.isRunning = true ∨ s.air.purge.isRunning = true ∨
    s.air.overrideTimer.isRunning = true) : s.node.state ≠ .loading := fun loading => by
  have rests : s.node.state ≠ .running := by rw [loading]; decide
  obtain ⟨boost, purge, -, -, -, -, -, outside, -⟩ := inv.source
  obtain ⟨noBoost, noPurge⟩ := outside rests
  rcases h with h | h | h
  · exact noBoost (boost.1 h)
  · exact noPurge (purge.1 h)
  · rw [(inv.override.2 rests).2] at h
    exact absurd h (by decide)

theorem State.closeSensor_still (x : Sensor) (s : State) : s.TakeStill (s.closeSensor x) := by
  unfold State.closeSensor
  dsimp only
  split
  · exact State.TakeStill.trans (s.mapInput_still _) (State.setCond_still _ _ _)
  · exact s.mapInput_still _

theorem State.TakeStill.foldl {α : Type} {f : State → α → State} (step : ∀ (s : State) (a : α), s.TakeStill (f s a)) :
    ∀ (l : List α) (s : State), s.TakeStill (l.foldl f s)
  | [], s => .refl s
  | a :: l, s => (step s a).trans (State.TakeStill.foldl step l (f s a))

theorem State.closeSensors_still (s : State) : s.TakeStill s.closeSensors :=
  .foldl (fun t x => t.closeSensor_still x) allSensors s

theorem State.handTach_still (s : State) : s.TakeStill s.handTach := by
  unfold State.handTach
  split
  · exact .refl s
  next rpm _ =>
    refine .of_frame rfl rfl rfl rfl rfl rfl fun h loading => ?_
    have judged : (s.drive.judgeTach rpm) = { s.drive with stall := (s.drive.judgeTach rpm).stall } := by
      unfold DriveUnit.judgeTach
      (repeat' split) <;> rfl
    rw [State.mapDrive_drive, judged]
    exact h loading

/-! ### The ages of the Peer Table -/

theorem PeerSlot.mapEntry_inRange {f : PeerEntry → PeerEntry} (kept : ∀ e : PeerEntry, e.inRange → (f e).inRange) {own : Bool}
    {x : PeerSlot} (h : x.inRange own = true) : (x.mapEntry f).inRange own = true := by
  cases x with
  | own => exact h
  | empty => exact h
  | entry e =>
    simp only [PeerSlot.mapEntry, PeerSlot.inRange, Bool.and_eq_true, decide_eq_true_eq] at h ⊢
    exact ⟨h.1, kept e h.2⟩

theorem PeerEntry.toAging_inRange {e : PeerEntry} (h : e.inRange) : e.toAging.inRange := by
  unfold PeerEntry.toAging
  split
  next fresh =>
    obtain ⟨request, take, refresh, space, held, most⟩ := h
    exact ⟨request, take, refresh, space, by simpa [fresh] using held, most⟩
  next => exact h

theorem PeerEntry.toStale_inRange {e : PeerEntry} (h : e.inRange) : e.toStale.inRange := by
  unfold PeerEntry.toStale
  split
  · obtain ⟨request, take, refresh, space, -, -⟩ := h
    exact ⟨request, take, refresh, space, by simp, take⟩
  · exact h

theorem PeerSlot.toForgotten_inRange {own : Bool} {x : PeerSlot} (h : x.inRange own = true) :
    x.toForgotten.inRange own = true := by
  cases x with
  | own => exact h
  | empty => exact h
  | entry e =>
    simp only [PeerSlot.toForgotten]
    split
    · simp only [PeerSlot.inRange, Bool.and_eq_true] at h
      exact h.1
    · exact h

/-- A threshold passed by one slot (R22, R23). -/
theorem State.TakeSound.keeps_threshold {s : State} (h : s.TakeSound) (n : Node) {f : PeerSlot → PeerSlot}
    (kept : ∀ {own : Bool} {x : PeerSlot}, x.inRange own = true → (f x).inRange own = true) :
    s.Keeps (.next (if s.node.state.receives then (s.mapPeers fun t => t.set n (f t[n])).finish s else s)) :=
  h.keeps_ite fun _ => ((State.setPeer_still n (x := f s.peers[n]) fun peers => kept (peers n)).kept h).finish s

/-! ### One microsecond -/

theorem ShareUnit.tick_resting {u : ShareUnit} (h : u.resting) : ({ u with timer := u.timer.tick } : ShareUnit).resting := by
  obtain ⟨grant, applied, announced, steady, timer⟩ := h
  exact ⟨grant, applied, announced, steady, by rw [timer]; rfl⟩

/-- A microsecond on every timer keeps the laws. -/
theorem State.TakeSound.advance {s : State} (h : s.TakeSound) : s.TakeKept s.advance := by
  obtain ⟨steady, raised, granted, grant, most, request, cap, running, resting⟩ := h.take
  refine ⟨⟨?_, h.announced, ?_, h.params, fun loading => ?_, h.node⟩, fun clear before => .inl ?_⟩
  · refine ⟨steady, raised, granted, grant, most, request, cap, fun k => ?_, fun k => ShareUnit.tick_resting (resting k)⟩
    rw [show s.advance.share.timer = s.share.timer.tick from rfl, Timer.isRunning_tick]
    exact running k
  · intro n
    have older : s.advance.peers[n] = if s.node.state.receives then (s.peers[n]).mapEntry PeerEntry.older else s.peers[n] := by
      simp only [State.advance, PeerTable.tick]
      split <;> simp
    rw [older]
    split
    · exact PeerSlot.mapEntry_inRange (f := PeerEntry.older) (fun _ he => he) (h.peers n)
    · exact h.peers n
  · obtain ⟨fresh, blend, plan, blower, heater, clutch, duty, stages⟩ := h.loading loading
    refine ⟨?_, ?_, plan, blower, heater, clutch, duty, stages⟩
    · exact (congrArg Actuator.tick fresh).trans rfl
    · exact (congrArg Actuator.tick blend).trans rfl
  · exact before.resolve_left fun set => absurd (clear.symm.trans set) (by decide)

theorem State.sample_still (s : State) : s.TakeStill s.sample := by
  have fast : s.TakeStill s.sampleFastInputs := .foldl (fun t x => by
    unfold State.sampleFastInput
    dsimp only
    split <;> exact .of_frame rfl rfl rfl rfl rfl rfl id) allFastInputs s
  unfold State.sample
  dsimp only
  split
  · refine fast.trans (.foldl (fun t l => ?_) allSlowLines _)
    unfold State.sampleSlowLine
    dsimp only
    split <;> exact .of_frame rfl rfl rfl rfl rfl rfl id
  · exact fast

end Sys2Proof.Machine
end

section
/-! Every command and every step keeps the laws of the take register, of the Peer Table, of the configuration and of Loading. -/

namespace Sys2Proof.Machine

/-- What the Drive Unit does out of Loading, with the end of its event. -/
theorem State.TakeStill.finished {s u : State} (h : s.TakeStill u) (k : s.TakeSound) : s.TakeKept (u.finish s) :=
  (h.kept k).finish s

theorem execBoostTimerExpiry_keeps {s : State} (inv : s.Inv) : s.Keeps (execBoostTimerExpiry s) :=
  inv.takeSound.keeps_ite fun ⟨boost, _⟩ => State.TakeStill.finished
    ((State.mapAir_still rfl).trans (State.sourceChanged_still (inv.awake_of_timers (.inl boost)))) inv.takeSound

theorem execPurgeTimerExpiry_keeps {s : State} (inv : s.Inv) : s.Keeps (execPurgeTimerExpiry s) :=
  inv.takeSound.keeps_ite fun ⟨purge, _⟩ => State.TakeStill.finished (((s.raise_still .purgeTimeout).trans (State.mapAir_still rfl)).trans
    (State.sourceChanged_still (by simpa using inv.awake_of_timers (.inr (.inl purge))))) inv.takeSound

theorem execOverrideLifetimeExpiry_keeps {s : State} (inv : s.Inv) : s.Keeps (execOverrideLifetimeExpiry s) :=
  inv.takeSound.keeps_ite fun override => State.TakeStill.finished
    ((State.mapAir_still rfl).trans (State.settleFresh_still (inv.awake_of_timers (.inr (.inr override))))) inv.takeSound

theorem execLockoutTimerExpiry_keeps {s : State} (h : s.TakeSound) : s.Keeps (execLockoutTimerExpiry s) :=
  h.keeps_ite fun _ => ((State.mapAir_still rfl).trans (State.lower_still _ _)).finished h

theorem State.doorCloses_still (d : Door) (s : State) : s.TakeStill (s.doorCloses d) := by
  unfold State.doorCloses
  split
  next closes => exact (State.mapAir_still rfl).trans (State.sourceChanged_still (State.awake_of_running closes.1))
  next => exact .refl s

theorem State.doorOpens_still (d : Door) (s : State) : s.TakeStill (s.doorOpens d) := by
  unfold State.doorOpens
  split
  next opens => exact (State.mapAir_still rfl).trans (State.sourceChanged_still (State.awake_of_running opens.1))
  next => exact .refl s

theorem State.trip_still {s : State} (awake : s.node.state ≠ .loading) (c : Channel) (k : TripCause) : s.TakeStill (s.trip c k) :=
  .of_awake awake (by simp) (by simp) (by simp) (by simp) (by simp) (by simp)

theorem execOverCurrentAsserted_keeps {s : State} (h : s.TakeSound) (c : Channel) : s.Keeps (execOverCurrentAsserted c s) := by
  refine h.keeps_onSlowEvent (State.TakeStill.kept ?_ ((s.accept_still c.line true).sound h))
  unfold State.when
  split
  next driving =>
    have awake := h.loading.awake_of_channel (c := c) (OutputChannel.atRest_of_driving driving)
    exact State.trip_still (by simpa using awake) _ _
  next => exact .refl _

theorem execOverCurrentCleared_keeps {s : State} (h : s.TakeSound) (c : Channel) : s.Keeps (execOverCurrentCleared c s) := by
  refine h.keeps_onSlowEvent (State.TakeStill.kept ?_ ((s.accept_still c.line false).sound h))
  refine State.setChannel_still (c := c) (x := ((s.accept c.line false).drive.channel c).lineCleared) fun rests => ?_
  unfold OutputChannel.lineCleared
  split
  next tripped => rw [tripped] at rests; exact absurd rests (by decide)
  next => exact rests

theorem execChannelLock_keeps {s : State} (h : s.TakeSound) (c : Channel) (k : TripCause) : s.Keeps (execChannelLock c k s) := by
  refine h.keeps_ite fun ⟨trips, _⟩ => ?_
  cases k with
  | overCurrent =>
    simp only [State.tripsBy, Bool.and_eq_true] at trips
    have awake := h.loading.awake_of_channel (OutputChannel.atRest_of_driving trips.2)
    exact ((s.accept_still c.line true).trans (State.trip_still (by simpa using awake) c .overCurrent)).finished h
  | stall =>
    simp only [State.tripsBy, Bool.and_eq_true, decide_eq_true_eq] at trips
    have awake := h.loading.awake_of_channel (c := .blower) (by rw [show s.drive.channel .blower = s.drive.blower from rfl, trips.2]; rfl)
    exact (State.trip_still awake c .stall).finished h

theorem execRampTimerExpiry_keeps {s : State} (h : s.TakeSound) : s.Keeps (execRampTimerExpiry s) := by
  refine h.keeps_ite fun ⟨_, driving⟩ => State.TakeStill.finished ?_ h
  have awake := h.loading.awake_of_channel (c := .blower) (OutputChannel.atRest_of_driving driving)
  exact .of_awake awake (by simp) (by simp) (by simp) (by simp) (by simp) (by simp)

theorem execBlowerStallExpiry_keeps {s : State} (h : s.TakeSound) : s.Keeps (execBlowerStallExpiry s) := by
  refine h.keeps_ite fun ⟨_, running⟩ => (State.trip_still ?_ _ _).finished h
  exact h.loading.awake_of_channel (c := .blower) (by rw [show s.drive.channel .blower = s.drive.blower from rfl, running]; rfl)

theorem execCooldownTimerExpiry_keeps {s : State} (h : s.TakeSound) (c : Channel) : s.Keeps (execCooldownTimerExpiry c s) := by
  refine h.keeps_ite fun ⟨cooldown, _⟩ => State.TakeStill.finished ?_ h
  have awake := h.loading.awake_of_channel (c := c) (by rw [cooldown]; rfl)
  exact .of_awake awake (by simp) (by simp) (by simp) (by simp) (by simp) (by simp)

theorem execCleanRunExpiry_keeps {s : State} (h : s.TakeSound) (c : Channel) : s.Keeps (execCleanRunExpiry c s) :=
  h.keeps_ite fun _ => State.TakeStill.kept
    (State.setChannel_still (c := c) (x := { s.drive.channel c with trips := 0, cleanRun := .expired }) id) h

/-- An expiry at an actuator that has left its cold-start values. -/
theorem State.TakeSound.keeps_actuator {s : State} (h : s.TakeSound) (d : Damper) {p : Prop} [Decidable p] {r : ActuatorStep}
    (moved : s.drive.actuator d = Actuator.cold → ¬ p) : s.Keeps (.next (if p then (s.applyActuator d r).finish s else s)) :=
  h.keeps_ite fun hp =>
    (State.applyActuator_still (h.loading.awake_of_actuator fun cold => moved cold hp) d r).finished h

theorem execHallEdge_keeps {s : State} (h : s.TakeSound) (d : Damper) : s.Keeps (execHallEdge d s) :=
  State.TakeKept.keeps <| h.onEdge d.line true fun sound still =>
    (still.trans (State.hallEdge_still d sound.loading)).finished h

/-- A coast timer runs only once a drive has stopped. -/
theorem execCoastTimerExpiry_keeps {s : State} (h : s.TakeSound) (d : Damper) : s.Keeps (execCoastTimerExpiry d s) := by
  refine h.keeps_ite fun coasts => State.TakeStill.kept (.of_awake ?_ rfl rfl rfl rfl rfl rfl) h
  refine h.loading.awake_of_actuator (d := d) fun cold => ?_
  rw [cold] at coasts
  exact absurd coasts (by decide)

theorem execWindowClose_keeps {s : State} (h : s.TakeSound) : s.Keeps (execWindowClose s) :=
  h.keeps_ite fun _ => State.TakeStill.finished ((((s.mapInput_still _).trans (State.closeSensors_still _)).trans
    (State.mapInput_still _ _)).trans (State.handTach_still _)) h

theorem State.TakeSound.onCapturedEdge {s : State} (h : s.TakeSound) (x : FastInput) (rising : Bool) (capture : BitVec 16)
    (f : InputUnit → InputUnit) : s.Keeps (.next (s.onCapturedEdge x rising capture (State.mapInput f))) := by
  refine State.TakeKept.keeps ?_
  unfold State.onCapturedEdge State.when
  split
  · exact h.onEdge x rising fun _ still => (still.trans (State.mapInput_still f _)).kept h
  · exact h.kept

theorem State.refreshStatus_still (s : State) : s.TakeStill s.refreshStatus :=
  .of_slots s.refreshStatus_same (by simp [State.sameExcept])

theorem State.TakeStill.when {s u : State} {b : Bool} {f : State → State} (h : s.TakeStill u) (k : u.TakeStill (f u)) :
    s.TakeStill (u.when b f) := by
  cases b with
  | false => exact h
  | true => exact h.trans k

theorem execSilenceTimerExpiry_keeps {s : State} (h : s.TakeSound) : s.Keeps (execSilenceTimerExpiry s) := by
  refine h.keeps_ite fun ⟨_, counts⟩ => State.TakeKept.finish ?_ s
  simp only [State.silenceCounts, Bool.and_eq_true, decide_eq_true_eq] at counts
  have expired : s.TakeStill (s.mapLine fun l => { l with silence := .expired }) := .mapLine rfl rfl
  exact expired.before ((expired.sound h).setIsolated (State.awake_of_running counts.1))

/-- The reception at which the error window closes, whatever its row (R12). -/
theorem execErrorWindowClose_keeps {s : State} (h : s.TakeSound) (r : Reception) : s.Keeps (execErrorWindowClose r s) := by
  refine State.TakeKept.keeps ?_
  have taken : s.Keeps (.next (s.reception (State.receives r))) := h.keeps_reception fun awake => by
    cases r with
    | error => exact (s.countReception_still true).kept h
    | frame f => exact h.hears awake fun n d sorted => sortFrame_demand_ne sorted
  split
  · exact taken _ rfl
  · exact h.kept

theorem execSleepDelayExpiry_keeps {s : State} (h : s.TakeSound) : s.Keeps (execSleepDelayExpiry s) :=
  h.keeps_ite fun _ => h.enterParking.finish s

theorem execLeavingTimerExpiry_keeps {s : State} (h : s.TakeSound) : s.Keeps (execLeavingTimerExpiry s) :=
  h.keeps_ite fun ⟨parking, _⟩ => (State.TakeKept.enterSleep h (by rw [parking]; decide)).finish s

theorem execAllowanceTimeout_keeps {s : State} (h : s.TakeSound) : s.Keeps (execAllowanceTimeout s) := by
  have lost : s.TakeStill (s.mapAllowance AllowanceStore.timeout) := .of_frame rfl rfl rfl rfl rfl rfl id
  exact h.keeps_ite fun _ => (lost.trans (State.raise_still _ _)).finished h

/-! ### Every command -/

/-- A reception that its own test of the frame admits. -/
theorem State.TakeSound.keeps_sorted {s : State} (h : s.TakeSound) {p : Prop} [Decidable p] {o : Sorted}
    (peer : ∀ n d, o = .demand n d → n ≠ s.node.own) :
    s.Keeps (.next (if p then s.reception (State.hears o) else s)) :=
  h.keeps_ite fun _ => h.keeps_hears peer _ rfl

/-- Every command keeps the laws. -/
theorem exec_keeps (c : Instr) {s : State} (inv : s.Inv) : s.Keeps (exec c s) := by
  have h := inv.takeSound
  cases c with
  | coldStart straps => exact execColdStart_keeps straps s
  | loadingComplete image => exact execLoadingComplete_keeps h image
  | listeningTimerExpiry => exact execListeningTimerExpiry_keeps h
  | supplyOkAsserted => exact h.keeps_onSlowEvent ((s.accept_still _ _).sound h).supplyReturns
  | supplyOkDeasserted => exact h.keeps_onSlowEvent ((s.accept_still _ _).sound h).supplyFails
  | ignAcceptedLow => exact h.keeps_onSlowEvent ((State.ignitionOff_still _).kept ((s.accept_still _ _).sound h))
  | ignAcceptedHigh => exact h.keeps_onSlowEvent ((s.accept_still _ _).sound h).ignitionOn
  | sleepDelayExpiry => exact execSleepDelayExpiry_keeps h
  | parkingTimerExpiry => exact execParkingTimerExpiry_keeps h
  | leavingTimerExpiry => exact execLeavingTimerExpiry_keeps h
  | allowanceArrival nodeField b0 b1 b2 => exact h.keeps_hears (by simp)
  | demandArrival sender data =>
    refine h.keeps_hears fun n d sorted => ?_
    split at sorted
    · cases sorted
    · cases sorted; assumption
  | panelArrival data => exact h.keeps_hears (by simp)
  | conditionRead => exact h.keeps_hears (by simp)
  | conditionClear b1 b2 b3 => exact h.keeps_hears (by simp)
  | conditionRelease => exact h.keeps_hears (by simp)
  | channelUnlock b1 => exact h.keeps_hears (by simp)
  | rehomeDampers => exact h.keeps_hears (by simp)
  | ignoredFrame f => exact h.keeps_sorted (by simp)
  | outsideExchangeFrame f b => exact h.keeps_sorted (by simp)
  | receiveError => exact h.keeps_reception fun _ => (s.countReception_still true).kept h
  | addressConflict f => exact h.keeps_sorted (by simp)
  | errorWindowClose r => exact execErrorWindowClose_keeps h r
  | offerFrame => exact inv.offer_kept.keeps
  | lostArbitration => exact (s.freed_still.kept h).keeps
  | transmitFailure => exact (s.failOffer_still.finished h).keeps
  | lineOff => exact h.keeps_ite fun _ => s.failOffer_still.finished h
  | demandCompletion => exact execDemandCompletion_keeps h
  | frameCompletion => exact execFrameCompletion_keeps h
  | lineOffTimerExpiry =>
    exact h.keeps_ite fun _ => ((State.TakeStill.mapLine rfl rfl).trans (State.lower_still _ _)).finished h
  | inhibitTimerExpiry =>
    exact h.keeps_ite fun _ => ((State.TakeStill.mapLine rfl rfl).when (State.handDemand_still _)).finished h
  | refreshTimerExpiry =>
    exact h.keeps_ite fun _ => ((State.TakeStill.mapLine rfl rfl).when (State.handDemand_still _)).finished h
  | statusTimerExpiry =>
    exact h.keeps_ite fun _ => ((State.TakeStill.mapLine rfl rfl).trans (State.refreshStatus_still _)).finished h
  | statusBGuardExpiry => exact h.keeps_ite fun _ => (State.TakeStill.mapLine rfl rfl).finished h
  | silenceTimerExpiry => exact execSilenceTimerExpiry_keeps h
  | peerAging n => exact h.keeps_threshold n (PeerSlot.mapEntry_inRange fun _ => PeerEntry.toAging_inRange)
  | peerStale n => exact h.keeps_threshold n (PeerSlot.mapEntry_inRange fun _ => PeerEntry.toStale_inRange)
  | peerHoldLimit n => exact h.keeps_threshold n PeerSlot.toForgotten_inRange
  | allowanceTimeout => exact execAllowanceTimeout_keeps h
  | shareExpiry => exact h.keeps_ite fun ⟨running, _⟩ => (h.shareExpiry running).finish s
  | airExpiry => exact h.keeps_ite fun ⟨running, _⟩ => (State.airWork_still running).finished h
  | clearingHoldComplete => exact h.keeps_ite fun ⟨running, _⟩ => (State.airWork_still running).finished h
  | doorCloseEvent d => exact h.keeps_onSlowEvent ((State.doorCloses_still d _).kept ((s.accept_still _ _).sound h))
  | doorOpenEvent d => exact h.keeps_onSlowEvent ((State.doorOpens_still d _).kept ((s.accept_still _ _).sound h))
  | boostTimerExpiry => exact execBoostTimerExpiry_keeps inv
  | purgeTimerExpiry => exact execPurgeTimerExpiry_keeps inv
  | lockoutTimerExpiry => exact execLockoutTimerExpiry_keeps h
  | minimumOnExpiry => exact h.keeps_ite fun _ => (State.mapAir_still rfl).kept h
  | minimumOffExpiry => exact h.keeps_ite fun _ => (State.mapAir_still rfl).kept h
  | overrideLifetimeExpiry => exact execOverrideLifetimeExpiry_keeps inv
  | temperatureEdge t rising capture => exact h.onCapturedEdge t.line rising capture _
  | smokeEdge k rising capture => exact h.onCapturedEdge k.line rising capture _
  | tachEdge => exact (h.onEdge .tach true fun _ still => (still.trans (State.mapInput_still _ _)).kept h).keeps
  | edgeTimeoutExpiry x => exact h.keeps_ite fun _ => (s.mapInput_still _).kept h
  | windowClose => exact execWindowClose_keeps h
  | hallEdge d => exact execHallEdge_keeps h d
  | overCurrentAsserted c => exact execOverCurrentAsserted_keeps h c
  | channelLock c cause => exact execChannelLock_keeps h c cause
  | overCurrentCleared c => exact execOverCurrentCleared_keeps h c
  | rampTimerExpiry => exact execRampTimerExpiry_keeps h
  | blowerStallExpiry => exact execBlowerStallExpiry_keeps h
  | cooldownTimerExpiry c => exact execCooldownTimerExpiry_keeps h c
  | cleanRunExpiry c => exact execCleanRunExpiry_keeps h c
  | damperStall d =>
    exact h.keeps_actuator d fun cold => by rw [cold]; decide
  | coastTimerExpiry d => exact execCoastTimerExpiry_keeps h d
  | reversalTimerExpiry d => exact h.keeps_actuator d fun cold => by rw [cold]; decide
  | homingTimerExpiry d => exact h.keeps_actuator d fun cold => by rw [cold]; decide
  | retryTimerExpiry d => exact h.keeps_actuator d fun cold => by rw [cold]; decide
  | autoReleaseExpiry =>
    have released : s.TakeStill (s.mapCond ConditionUnit.release) := .of_frame rfl rfl rfl rfl rfl rfl id
    exact h.keeps_ite fun _ => released.finished h
  | frameDiscardedForLength f => exact h.keeps_sorted (by simp)

/-! ### Every step -/

/-- The queue and the count of choices play no part in the invariant. -/
theorem State.Inv.with_queue {s : State} (inv : s.Inv) (pending : List Instr) (choices : Nat) :
    State.Inv { s with pending := pending, choices := choices } :=
  ⟨inv.params, inv.loading, inv.peers, inv.take, inv.announced, inv.source, inv.override, inv.freeze, inv.owners, inv.heater,
    inv.plan, inv.current, inv.travel, inv.waiting, inv.line, inv.offer, inv.outputs, inv.node, inv.samples⟩

theorem step_keeps_take {s t : State} (inv : s.Inv) (h : step s = .next t) : s.TakeKept t := by
  unfold step at h
  split at h
  case h_1 c rest _ =>
    have kept := exec_keeps c (inv.with_queue rest s.choices) t h
    exact ⟨kept.sound, kept.completed⟩
  case h_2 =>
    unfold idle at h
    split at h
    case h_1 =>
      cases h
      exact inv.takeSound.advance.still (State.sample_still _)
    case h_2 c _ =>
      have kept := exec_keeps c (inv.with_queue s.pending (s.choices + 1)) t h
      exact ⟨kept.sound, kept.completed⟩

/-- Settles O56: every command's event keeps the laws of the take up to its end, and the end of the event touches the take only where
the node has left Running. -/
theorem takeLawsKept : Obligations.TakeLawsKept := by
  intro s t inv h
  obtain ⟨sound, completed⟩ := step_keeps_take inv h
  exact ⟨sound.take, sound.announced, sound.peers, sound.params, sound.loading, sound.node, completed⟩

end Sys2Proof.Machine
end

section
/-! The Peer Table and the Allowance Store: arrivals, thresholds and timeouts, the claims list and the reserve (R18 to R33), and the
counted request, the pool and a class served whole (R38 to R41). -/

namespace Sys2Proof.Machine

/-! ### Events that touch neither Node Control nor the Drive Unit -/

/-- An event that leaves Node Control and the Drive Unit alone ends with the Demand and Status timing. -/
theorem State.finish_undriven {s u : State} (node : u.node = s.node) (drive : u.drive = s.drive) :
    u.sameExcept [.line] (u.finish s) ∧ u.line.sameOutsideSlots (u.finish s).line :=
  State.finish_steady_frame (by simp [node, drive])

/-- An arrival whose block touches neither the drives nor the take: every other block is as the good frame leaves it. -/
theorem State.arrival_finish {s u : State} (take : s.takeLaws) (node : u.node = s.node) (arrived : u.DrivesAs s.heardGood) :
    u.sameExcept [.line] (u.finish s) ∧ (u.finish s).cond = u.cond ∧ u.line.sameOutsideSlots (u.finish s).line := by
  obtain ⟨-, cond, blocks, same⟩ := (State.replannedOnFall_congr s.heardGood_replanned (State.DrivesAs.refl s) rfl rfl rfl
    arrived).finish take node
  exact ⟨blocks, cond, same⟩

/-! ### Arrivals and thresholds -/

theorem clampNat_eq {lo hi : Nat} (h : lo ≤ hi) (x : Nat) : clampNat lo hi x = max lo (min hi x) := by
  unfold clampNat
  (repeat' split) <;> omega

/-- Settles O26: the slot is rewritten in the state that the good frame leaves. -/
theorem demandArrivalStored : Obligations.DemandArrivalStored := by
  intro n d s inv receives peer
  set u := s.heardGood.demandArrives n d with hu
  have run : exec (.demandArrival n d) s = .next (u.finish s) := by
    simp [exec, execDemandArrival, State.reception, receives, peer, State.hears, hu]
  have node : u.node = s.node := s.heardGood_frame.2.1
  obtain ⟨blocks, -, same⟩ := State.arrival_finish (u := u) inv.take node ⟨rfl, rfl, rfl, fun _ _ => rfl⟩
  have peers : (u.finish s).peers = s.peers.arrive n d := by
    obtain ⟨-, -, -, peers, -⟩ := blocks
    rw [peers.resolve_left (by simp), hu, State.demandArrives, State.mapPeers_peers, s.heardGood_frame.2.2.1]
  refine ⟨_, run, fun m other => ?_, fun leaves => ?_, fun stays => ?_, same,
    State.sameExcept_trans (u := u) (by simp [State.sameExcept, hu, State.demandArrives]) blocks (by simp)⟩ <;>
    rw [peers, PeerTable.arrive, PeerTable.slot_set]
  · rw [if_neg other]
  · rw [if_pos rfl, DemandBytes.leaving, if_pos leaves]
  · rw [if_pos rfl, DemandBytes.leaving, stays, if_neg Bool.false_ne_true, DemandBytes.entry, clampNat_eq (by decide)]
    rfl

/-- One slot rewritten, with the end of the event. -/
theorem State.setPeer_finish (n : Node) (x : PeerSlot) (s : State) :
    ((s.mapPeers fun t => t.set n x).finish s).peers[n] = x ∧
    (∀ m : Node, m ≠ n → ((s.mapPeers fun t => t.set n x).finish s).peers[m] = s.peers[m]) ∧
    s.line.sameOutsideSlots ((s.mapPeers fun t => t.set n x).finish s).line ∧
    s.sameExcept [.peers, .line] ((s.mapPeers fun t => t.set n x).finish s) := by
  obtain ⟨blocks, same⟩ := State.finish_undriven (s := s) (u := s.mapPeers fun t => t.set n x) rfl rfl
  have peers : ((s.mapPeers fun t => t.set n x).finish s).peers = s.peers.set n x := by
    obtain ⟨-, -, -, peers, -⟩ := blocks
    exact peers.resolve_left (by simp)
  refine ⟨?_, fun m other => ?_, same, State.sameExcept_trans (by simp [State.sameExcept]) blocks (by simp)⟩ <;>
    rw [peers, PeerTable.slot_set]
  · rw [if_pos rfl]
  · rw [if_neg other]

/-- Settles O27, threshold by threshold. -/
theorem peerThresholdsPassed : Obligations.PeerThresholdsPassed := by
  intro n e s receives slot
  have run {v : State} : (Host.Outcome.next (if s.node.state.receives then v else s) : Host.Outcome State Fault Refusal) =
      .next v := by rw [if_pos receives]
  refine ⟨fun fresh => ⟨_, run, ?_⟩, fun aging => ⟨_, run, ?_⟩, fun stale => ⟨_, run, ?_⟩⟩
  · obtain ⟨here, there⟩ := s.setPeer_finish n ((s.peers[n]).mapEntry PeerEntry.toAging)
    refine ⟨here.trans ?_, there⟩
    rw [slot, PeerSlot.mapEntry, PeerEntry.toAging, if_pos fresh]
    rfl
  · obtain ⟨here, there⟩ := s.setPeer_finish n ((s.peers[n]).mapEntry PeerEntry.toStale)
    refine ⟨here.trans ?_, there⟩
    rw [slot, PeerSlot.mapEntry, PeerEntry.toStale, if_pos aging]
    rfl
  · obtain ⟨here, there⟩ := s.setPeer_finish n (s.peers[n]).toForgotten
    refine ⟨here.trans ?_, there⟩
    rw [slot, PeerSlot.toForgotten, if_pos stale]

/-- The figures in use while the store is Current, and in any other state (R33). -/
theorem allowanceInUse_spec (s : State) :
    (s.allowance.state = .current → allowanceInUse s = s.allowance.allowance ∧ stageInUse s = s.allowance.stage) ∧
    (s.allowance.state ≠ .current → allowanceInUse s = s.params.fallbackAllowance ∧ stageInUse s = 0) :=
  ⟨fun h => ⟨if_pos h, if_pos h⟩, fun h => ⟨if_neg h, if_neg h⟩⟩

/-- Settles O28: the arrival in the state that the good frame leaves, and the timeout with its condition. -/
theorem allowanceStoreActs : Obligations.AllowanceStoreActs := by
  refine ⟨fun nf b0 b1 b2 s inv receives => ?_, fun s runs => ?_, fun s => (allowanceInUse_spec s).2⟩
  · set u := s.heardGood.allowanceArrives b0 b1 b2 with hu
    have run : exec (.allowanceArrival nf b0 b1 b2) s = .next (u.finish s) := by
      simp [exec, execAllowanceArrival, State.reception, receives, State.hears, hu]
    obtain ⟨drive, air, applied, active⟩ := State.lower_drivesAs (c := .allowanceLost) rfl
      (s.heardGood.mapAllowance (AllowanceStore.arrive b0 b1 b2))
    have arrived : u.DrivesAs s.heardGood := (State.DrivesAs.mk (s := s.heardGood) (t := u) drive air applied active).symm
    obtain ⟨blocks, cond, same⟩ := State.arrival_finish inv.take (by simp [hu, State.allowanceArrives]) arrived
    have store : (u.finish s).allowance = AllowanceStore.arrive b0 b1 b2 s.allowance := by
      obtain ⟨-, -, -, -, allowance, -⟩ := blocks
      rw [allowance.resolve_left (by simp), hu, State.allowanceArrives]
      simp [AllowanceStore.arrive]
    obtain ⟨inUse, stage⟩ := (allowanceInUse_spec (u.finish s)).1 (by rw [store]; rfl)
    refine ⟨_, run, store, inUse, stage, ?_, LineInterface.sameOutsideSlots_trans (m := u.line) (State.lower_same .allowanceLost _) same,
      State.sameExcept_trans (u := u) (by simp [State.sameExcept, hu, State.allowanceArrives]) blocks (by simp)⟩
    rw [cond, hu, State.allowanceArrives, State.lower_cond, State.lower_cond]
    rfl
  · set u := (s.mapAllowance AllowanceStore.timeout).raise .allowanceLost with hu
    have run : exec .allowanceTimeout s = .next (u.finish s) := by simp [exec, execAllowanceTimeout, runs, hu]
    have steady : u.node = s.node ∧ u.drive = s.drive := by simp [hu]
    obtain ⟨blocks, same⟩ := State.finish_undriven steady.1 steady.2
    have whole := State.sameExcept_trans (s := s) (bs := [.allowance, .cond, .line]) (u := u) (by simp [State.sameExcept, hu]) blocks
      (by simp)
    have store : (u.finish s).allowance = { s.allowance with state := .lost, age := .expired } := by
      obtain ⟨-, -, -, -, allowance, -⟩ := blocks
      rw [allowance.resolve_left (by simp), hu]
      simp [AllowanceStore.timeout]
    obtain ⟨inUse, stage⟩ := (allowanceInUse_spec (u.finish s)).2 (by rw [store]; exact nofun)
    refine ⟨_, run, store, ?_, stage, ?_, LineInterface.sameOutsideSlots_trans (m := u.line) (State.raise_same .allowanceLost _) same,
      whole⟩
    · rw [inUse, (State.finish_frame s u).1]
      simp [hu]
    · rw [State.finish_cond_of_steady (by simp [steady]), hu, State.raise_cond, State.raise_cond]
      rfl

/-! ### The claims list -/

/-- The own slot is the one marked so (R18). -/
theorem State.peersInRange.slot_own {s : State} (h : s.peersInRange) : s.peers[s.node.own] = .own := by
  have slot := h s.node.own
  cases e : s.peers[s.node.own] <;> simp_all [PeerSlot.inRange]

theorem State.peersInRange.entry {s : State} (h : s.peersInRange) {n : Node} {e : PeerEntry} (slot : s.peers[n] = .entry e) :
    e.inRange := by
  have inRange := h n
  rw [slot, PeerSlot.inRange, Bool.and_eq_true, decide_eq_true_eq] at inRange
  exact inRange.2

/-- A claim carries the number of its slot (R27). -/
theorem claimOf_node {s : State} {n : Node} {c : Claim} (h : claimOf s n = some c) : c.node = n := by
  unfold claimOf at h
  split at h
  · cases h; rfl
  · cases h
  · split at h <;> cases h
    rfl

theorem mem_claimsList_iff {s : State} {c : Claim} : c ∈ claimsList s ↔ claimOf s c.node = some c := by
  rw [mem_claimsList]
  exact ⟨fun ⟨n, h⟩ => (claimOf_node h).symm ▸ h, fun h => ⟨_, h⟩⟩

theorem claimOf_entry {s : State} {n : Node} {e : PeerEntry} (slot : s.peers[n] = .entry e) :
    claimOf s n = if (e.freshness = .fresh ∨ e.freshness = .aging) ∧ e.isolated = false then some ⟨n, e.cls, e.request⟩ else none := by
  have live : (e.live && !e.isolated) = true ↔ (e.freshness = .fresh ∨ e.freshness = .aging) ∧ e.isolated = false := by
    rw [Bool.and_eq_true, PeerEntry.live_iff, Bool.not_eq_true']
  simp only [claimOf, slot, live]

/-- The claims by node number stand in its order. -/
theorem claimsByNode_pairwise (s : State) : (claimsByNode s).Pairwise fun a b => a.node < b.node := by
  have rising : allNodes.Pairwise (· < ·) := by decide
  refine List.Pairwise.filterMap _ (fun m n less a ha b hb => ?_) rising
  rw [claimOf_node ha, claimOf_node hb]
  exact less

/-- The claims list rises by class and within a class by node number (R27). -/
theorem claimsList_pairwise (s : State) :
    (claimsList s).Pairwise fun a b => a.cls.code < b.cls.code ∨ (a.cls = b.cls ∧ a.node < b.node) := by
  have falling : classOrder.Pairwise fun j k => j.code < k.code := by decide
  refine List.pairwise_flatMap.2 ⟨fun k _ => ?_, falling.imp fun less a ha b hb => .inl ?_⟩
  · refine ((claimsByNode_pairwise s).filter _).imp_of_mem fun ha hb less => .inr ⟨?_, less⟩
    simp only [List.mem_filter, decide_eq_true_eq] at ha hb
    exact ha.2.trans hb.2.symm
  · simp only [List.mem_filter, decide_eq_true_eq] at ha hb
    rw [ha.2, hb.2]
    exact less

theorem claimsList_nodes_nodup (s : State) : ((claimsList s).map Claim.node).Nodup := by
  have nodup : (claimsList s).Nodup := (claimsList_pairwise s).imp fun {a b} less same => by
    subst same
    rcases less with less | ⟨-, less⟩ <;> exact absurd less (lt_irrefl _)
  refine nodup.map_on fun a ha b hb same => ?_
  rw [mem_claimsList_iff] at ha hb
  rw [same] at ha
  exact Option.some.inj (ha.symm.trans hb)

/-! ### The reserve -/

theorem PeerSlot.reserve_eq (x : PeerSlot) : x.reserve =
    match x with
    | .own => 0
    | .empty => 0
    | .entry e => if e.freshness = .stale then e.held.getD 0 else if e.isolated then e.take else 0 := by
  cases x with
  | own => rfl
  | empty => rfl
  | entry e => cases h : e.freshness <;> simp [PeerSlot.reserve, PeerEntry.live, h]

/-- One slot holds back at most 600, and the own one nothing (R28). -/
theorem State.peersInRange.reserve_le {s : State} (h : s.peersInRange) (n : Node) :
    (s.peers[n]).reserve ≤ if n = s.node.own then 0 else 600 := by
  cases slot : s.peers[n] with
  | own => exact Nat.zero_le _
  | empty => exact Nat.zero_le _
  | entry e =>
    have peer : n ≠ s.node.own := by
      rintro rfl
      rw [h.slot_own] at slot
      cases slot
    obtain ⟨-, take, -, -, -, held⟩ := h.entry slot
    rw [if_neg peer, PeerSlot.reserve]
    (repeat' split) <;> omega

/-- Settles O29: a claim of the list is its node's own, read off its slot. -/
theorem claimsAndReserveByRule : Obligations.ClaimsAndReserveByRule := by
  refine ⟨fun s peers => ?_, fun s peers => ⟨?_, ?_⟩⟩
  · have own : claimOf s s.node.own = some ⟨s.node.own, s.air.cls, s.air.request⟩ := by
      simp only [claimOf, peers.slot_own]
    refine ⟨mem_claimsList_iff.2 own, fun k q mem => ?_, fun n e slot => ?_, fun n e k q slot mem => ?_, fun n k q slot mem => ?_,
      claimsList_pairwise s, claimsList_nodes_nodup s, ?_⟩
    · have claim := own.symm.trans (mem_claimsList_iff.1 mem)
      simp_all
    · simp only [mem_claimsList_iff, claimOf_entry slot]
      split <;> simp_all
    · have claim := mem_claimsList_iff.1 mem
      simp only [claimOf_entry slot] at claim
      split at claim <;> simp_all
    · have claim := mem_claimsList_iff.1 mem
      simp [claimOf, slot] at claim
    · simpa using (claimsList_nodes_nodup s).length_le_card
  · exact congrArg List.sum (List.map_congr_left fun n _ => PeerSlot.reserve_eq _)
  · have others : ∀ own : Node, (allNodes.map fun n => if n = own then 0 else 600).sum = 4200 := by decide
    exact (List.sum_le_sum fun n _ => peers.reserve_le n).trans (others s.node.own).le

/-! ### The counted request and a class served whole -/

theorem serveClass_of_zero {stage pool : Nat} {cs : List Claim} (h : classTotal stage cs = 0) :
    serveClass stage pool cs = (cs.map fun c => ⟨c.node, 0⟩, pool) := by
  simp [serveClass, h]

theorem serveClass_of_whole {stage pool : Nat} {cs : List Claim} (h : 0 < classTotal stage cs) (k : classTotal stage cs ≤ pool) :
    serveClass stage pool cs = (cs.map fun c => ⟨c.node, counted stage c⟩, pool - classTotal stage cs) := by
  simp [serveClass, k, Nat.ne_of_gt h]

/-- Stage 0 strikes no class (Table 3-2). -/
theorem counted_zero (c : Claim) : counted 0 c = c.request := by
  cases h : c.cls <;> simp [counted, struck, h]

/-- Settles O30, class by class and case by case. -/
theorem countedAndServedWhole : Obligations.CountedAndServedWhole := by
  refine ⟨⟨fun stage c most => ?_, fun s rests => ?_, fun w h => ⟨fun less => if_pos less, fun more => if_neg (by omega)⟩⟩,
    fun stage pool cs => ⟨serveClass_of_zero, serveClass_of_whole⟩⟩
  · have third : 3 ≤ stage ↔ stage = 3 := by omega
    cases h : c.cls <;> simp [counted, struck, h, third]
  · have none := ((allowanceInUse_spec s).2 rests).2
    exact ⟨none, fun c => by rw [none, counted_zero]⟩

end Sys2Proof.Machine
end

section
/-! The fresh damper target settled and handed, the entry into Running, and the ignition's acceptances (R34, R81, R108, R131, R135,
R156, R158, R159). -/

namespace Sys2Proof.Machine

/-! ### A handed target -/

/-- The start test of an Idle actuator that has just taken a target (R135). -/
theorem Actuator.startTest_taken (held asleep : Bool) {a : Actuator} (idle : a.state = .idle) :
    if asleep = true ∨ a.near then a.startTest held asleep = a
    else if held then a.startTest held asleep = { a with state := .held, resume := some .idle }
    else a.started (a.startTest held asleep) := by
  have rests : ({ a with state := .idle } : Actuator) = a := by rw [← idle]
  cases asleep with
  | true => simp [Actuator.startTest]
  | false =>
    by_cases near : a.near
    · rw [if_pos (.inr near), Actuator.startTest, (Actuator.atTarget_iff a).2 near]
      simp
    · rw [if_neg (by simpa using near)]
      cases held with
      | true =>
        have away : a.atTarget = false := Bool.eq_false_iff.2 fun h => near ((Actuator.atTarget_iff a).1 h)
        simp [Actuator.startTest, away]
      | false => simpa only [Bool.false_eq_true, if_false, rests] using Actuator.started_startTest near

/-- A Moving actuator whose target came within the deadband completes its move (R131, R135). -/
theorem Actuator.completedMove_of_near (held asleep : Bool) {c : Actuator} (near : c.near) :
    (c.stopDrive.completedMove held asleep).act = { c.halted with state := .idle, stalls := 0 } := by
  have stopped : ({ c.stopDrive with state := .idle, stalls := 0 } : Actuator).atTarget = true := by
    rw [← c.halted_eq]
    exact (Actuator.atTarget_iff c).2 near
  rw [c.halted_eq]
  simp only [Actuator.completedMove, Actuator.startTest, stopped, Bool.or_true, if_true]

/-- What a handed target does at an actuator, and to its stall condition (R131, R135, R136, R138). -/
theorem Actuator.handTarget_taken (travel : Nat) (held asleep : Bool) (target : Nat) (a : Actuator) :
    a.targetTaken travel held asleep target (a.handTarget travel held asleep target).act ∧
    (a.handTarget travel held asleep target).cond = if a.targetCompletes travel target then some false else none := by
  by_cases same : target * travel / 1000 = a.target
  · simp [Actuator.targetTaken, Actuator.targetCompletes, Actuator.handTarget, same, Actuator.quietly]
  obtain ⟨state, position, count, drive, last, resume, stalls, stallTimer, coast, reversal, homing, retry⟩ := a
  cases state with
  | idle =>
    unfold Actuator.targetTaken Actuator.targetCompletes Actuator.handTarget
    simp only [if_neg same, if_true, reduceCtorEq, false_and, and_false, if_false]
    exact ⟨Actuator.startTest_taken held asleep rfl, rfl⟩
  | moving =>
    unfold Actuator.targetTaken Actuator.targetCompletes Actuator.handTarget
    simp only [if_true, reduceCtorEq, if_false, ne_eq, same, not_false_eq_true, true_and]
    generalize hc : (⟨.moving, position, target * travel / 1000, drive, last, resume, stalls, stallTimer, coast, reversal, homing,
      retry⟩ : Actuator) = c
    have onward : drive = c.drive := by rw [← hc]
    have halted : c.halted = c.stopDrive := c.halted_eq
    by_cases near : c.near
    · rw [if_pos near, if_pos ((Actuator.atTarget_iff c).2 near), if_pos near, Actuator.completedMove_of_near held asleep near,
        ← hc]
      exact ⟨rfl, rfl⟩
    · have away : c.atTarget = false := Bool.eq_false_iff.2 fun h => near ((Actuator.atTarget_iff c).1 h)
      rw [if_neg near, if_neg near, away, if_neg Bool.false_ne_true, onward]
      have towards : c.wanted = c.towards := rfl
      by_cases heads : c.drive = some c.towards
      · simp only [towards, heads, if_true, Actuator.quietly, and_self]
      · rw [if_neg heads, towards, if_neg heads, ← halted, ← hc]
        exact ⟨rfl, rfl⟩
  | _ => simp [Actuator.targetTaken, Actuator.targetCompletes, Actuator.handTarget, same, Actuator.quietly]

/-! ### The fresh damper target -/

/-- A handed target can end the actuator's stall condition, and does nothing else to the Condition Unit (R138). -/
theorem State.handTarget_conds (x : Damper) (v : Nat) (s : State) :
    s.condsSameBut [x.stallCondition] (s.handTarget x v) ∧
    inSet (s.handTarget x v).cond.active x.stallCondition =
      (inSet s.cond.active x.stallCondition && !decide ((s.drive.actuator x).targetCompletes (s.params.travel x) v)) := by
  have outcome := ((s.drive.actuator x).handTarget_taken (s.params.travel x) s.drive.plan.held s.asleep v).2
  unfold State.handTarget
  refine ⟨⟨?_, fun c other => ?_⟩, ?_⟩
  · rw [State.applyActuator]
    dsimp only
    rw [outcome]
    split
    · rfl
    · next h =>
      split at h
      · obtain rfl := Option.some.inj h
        simp only [State.setCond, Bool.false_eq_true, if_false, State.lower_cond]
        split <;> rfl
      · exact absurd h (by simp)
  · rw [State.applyActuator_active, if_neg (by simpa using other)]
  · rw [State.applyActuator_active, if_pos rfl, outcome]
    by_cases completes : (s.drive.actuator x).targetCompletes (s.params.travel x) v
    · rw [if_pos completes]; simp [completes]
    · rw [if_neg completes]; simp [completes]

/-- The fresh damper target settled (R81, Table 5-3). -/
theorem State.settleFresh_settled (s : State) :
    s.freshSettled s.settleFresh ∧ s.condsSameBut [.freshDamperStall] s.settleFresh ∧
    s.settleFresh.air = { s.air with freshTarget := s.settleFresh.air.freshTarget } := by
  let u := s.mapAir fun a => { a with freshTarget := freshTargetOf s.node.state s.air }
  have conds := u.handTarget_conds .fresh (freshTargetOf s.node.state s.air)
  have air : s.settleFresh.air = u.air := (State.handTarget_frame _ _ _).2.2.2.2.2.1
  have target : s.settleFresh.air.freshTarget = freshTargetOf s.node.state s.air := by rw [air]; rfl
  have node : s.settleFresh.node = s.node := s.settleFresh_frame.2.1
  have asleep : s.settleFresh.asleep = s.asleep := by rw [State.asleep, node]; rfl
  have drive : s.settleFresh.drive = s.drive.setActuator
      (s.drive.fresh.handTarget s.params.freshTravel s.drive.plan.held s.asleep (freshTargetOf s.node.state s.air)).act .fresh :=
    State.applyActuator_drive _ _ _
  refine ⟨⟨?_, by rw [drive]; rfl, ?_, ?_⟩, conds.1, by rw [air]; rfl⟩
  · rw [target, node, air]
    unfold freshTargetOf
    split
    · rfl
    · have overrides : u.air.overrides = s.air.overrides := rfl
      have source : u.air.source = s.air.source := rfl
      rw [overrides, source]
      cases s.air.overrides.fresh with
      | some forced => cases forced <;> rfl
      | none => cases s.air.source <;> rfl
  · rw [target, asleep, drive]
    exact (Actuator.handTarget_taken _ _ _ _ _).1
  · rw [target]
    exact conds.2

/-- What settling the fresh damper target says rests on the drives and the condition found and on the blocks left. -/
theorem State.freshSettled_congr {s u v t : State} (h : u.freshSettled v) (params : u.params = s.params)
    (drive : u.drive = s.drive) (stall : inSet u.cond.active .freshDamperStall = inSet s.cond.active .freshDamperStall)
    (node : t.node.state = v.node.state) (air : t.air = v.air) (drive' : t.drive = v.drive) (cond' : t.cond = v.cond) :
    s.freshSettled t := by
  have asleep : t.asleep = v.asleep := by rw [State.asleep, node]; rfl
  simpa only [State.freshSettled, params, drive, stall, node, air, drive', cond', asleep] using h

/-! ### The entry into Running -/

theorem State.startSleepDelay_eq (fromListening : Bool) (s : State) : s.startSleepDelay fromListening =
    s.mapNode fun n => { n with
      sleepDelay := if fromListening ∧ s.lineLevel .ign = false then .running 0 else n.sleepDelay } := by
  unfold State.startSleepDelay State.when
  cases fromListening <;> cases s.lineLevel .ign <;> rfl

/-- The Line Interface at an entry into Running (R8, R9, R13). -/
theorem LineInterface.enterRunning_eq (p : Params) (fromListening : Bool) (l : LineInterface) : l.enterRunning p fromListening =
    { l with
      silence := if p.expectedPeers = 0 then .stopped else .running 0
      inhibit := if fromListening then .stopped else l.inhibit
      refresh := if fromListening then .stopped else l.refresh
      statusTimer := if fromListening then .running 0 else l.statusTimer } := by
  cases fromListening <;> rfl

/-- A Demand just handed waits, as the content at the event's end, whatever the end of the event hands once more (R5, R8). -/
theorem State.handDemand_finish_slot (w : State) {b : State} (steady : w.node.state ≠ .parking) :
    (w.handDemand.finish b).line.demandSlot =
      if w.line.listenOnly then w.line.demandSlot else some (demandContent (w.handDemand.finish b)) := by
  rw [State.finish_of_steady (by simp [steady]), State.settleStatus_demandSlot, State.settleStatus_content,
    State.settleDemand_content]
  by_cases silent : w.line.listenOnly = true
  · rw [if_pos silent, State.handDemand_of_silent silent, State.settleDemand_of_silent silent]
  · rcases w.handDemand.settleDemand_cases (demandContent b) with ⟨handed, -⟩ | ⟨still, -⟩
    · simp only [handed, State.handDemand_line, if_neg silent]
    · rw [still, State.handDemand_content, State.handDemand_line]

/-- The blocks at an entry into Running before the fresh damper target is settled: the node in Running, the share and air timers
and the line's own started (R8, R9, R13, R35, R67, R156). -/
def State.startRunning (fromListening : Bool) (s : State) : State :=
  { s with
    node.state := .running, node.leaving := false, share.timer := .running 0, air.timer := .running 0
    line := s.line.enterRunning s.params fromListening }

theorem State.enterRunning_eq (fromListening : Bool) (s : State) : s.enterRunning fromListening =
    (((s.startRunning fromListening).settleFresh).startSleepDelay fromListening).handDemand := rfl

/-- What an entry into Running does, to the end of its event (R8, R9, R13, R35, R67, R81, R156). -/
theorem State.enterRunning_finish (fromListening : Bool) (s b : State) :
    s.enteredRunning fromListening ((s.enterRunning fromListening).finish b) ∧
    ((s.enterRunning fromListening).finish b).node =
      { s.node with
        state := .running, leaving := false
        sleepDelay := if fromListening ∧ s.lineLevel .ign = false then .running 0 else s.node.sleepDelay } ∧
    ((s.enterRunning fromListening).finish b).input = s.input ∧
    s.condsSameBut [.freshDamperStall] ((s.enterRunning fromListening).finish b) := by
  rw [State.enterRunning_eq, State.startSleepDelay_eq]
  obtain ⟨settled, conds, air⟩ := (s.startRunning fromListening).settleFresh_settled
  obtain ⟨params, node, peers, allowance, share, input, pending, choices⟩ := (s.startRunning fromListening).settleFresh_frame
  have unmarked := (s.startRunning fromListening).settleFresh_unmarked
  generalize (s.startRunning fromListening).settleFresh = v at *
  have ign : v.lineLevel .ign = s.lineLevel .ign := by rw [State.lineLevel, input]; rfl
  rw [ign]
  let w := v.mapNode fun n => { n with
    sleepDelay := if fromListening ∧ s.lineLevel .ign = false then .running 0 else n.sleepDelay }
  have steady : w.node.state ≠ .parking := by rw [show w.node.state = v.node.state from rfl, node]; exact fun h => nomatch h
  have slot := w.handDemand_finish_slot (b := b) steady
  obtain ⟨ends, same⟩ := State.finish_of_not_waiting w.handDemand b (.inl (by simpa using steady))
  have ends := State.sameExcept_trans (show w.sameExcept [.line] w.handDemand by simp [State.sameExcept]) ends (by simp)
  have same := LineInterface.sameOutsideSlots_trans (LineInterface.sameOutsideSlots_of_unmarked unmarked)
    (LineInterface.sameOutsideSlots_trans w.handDemand_same same)
  change s.enteredRunning fromListening (w.handDemand.finish b) ∧ (w.handDemand.finish b).node = _ ∧
    (w.handDemand.finish b).input = _ ∧ s.condsSameBut [.freshDamperStall] (w.handDemand.finish b)
  generalize w.handDemand.finish b = t at *
  simp only [State.sameExcept, List.mem_singleton, reduceCtorEq, false_or, true_or, true_and] at ends
  obtain ⟨tParams, tNode, tPeers, tAllowance, tShare, tAir, tInput, tDrive, tCond, tPending, tChoices⟩ := ends
  have fresh : s.freshSettled t := State.freshSettled_congr settled rfl rfl rfl (by rw [tNode]; rfl) tAir tDrive tCond
  have found : v.line.listenOnly = s.line.listenOnly ∧ v.line.demandSlot = s.line.demandSlot := by
    rw [LineInterface.eq_of_unmarked unmarked]
    exact ⟨by rw [State.startRunning, LineInterface.enterRunning_eq], by rw [State.startRunning, LineInterface.enterRunning_eq]⟩
  refine ⟨⟨tShare.trans share, ?_, fresh, ?_, ?_, ?_⟩, ?_, tInput.trans input, ?_, ?_⟩
  · rw [tAir]; exact air
  · rw [← LineInterface.enterRunning_eq]; exact same
  · rw [slot, ← found.1, ← found.2]; rfl
  · simp [State.sameExcept, tParams, tPeers, tAllowance, tPending, tChoices, params, peers, allowance, pending, choices,
      State.startRunning, State.mapNode, w]
  · simp only [tNode, w, State.mapNode, node]; rfl
  · rw [tCond]; exact conds.1
  · rw [tCond]; exact conds.2

/-- An entry into Running as seen from a state that differs in the node and the inputs alone. -/
theorem State.enteredRunning_congr {s v t : State} {fromListening : Bool} (same : s.sameExcept [.node, .input] v)
    (h : v.enteredRunning fromListening t) : s.enteredRunning fromListening t := by
  simp only [State.sameExcept, List.mem_cons, reduceCtorEq, List.not_mem_nil, or_false, false_or, or_true, true_or,
    true_and] at same
  obtain ⟨params, line, peers, allowance, share, air, drive, cond, pending, choices⟩ := same
  obtain ⟨share', air', fresh, line', slot, blocks⟩ := h
  simp only [State.sameExcept, params, line, peers, allowance, share, air, drive, cond, pending, choices]
    at share' air' line' slot blocks
  exact ⟨share', air', State.freshSettled_congr fresh params drive (by rw [cond]) rfl rfl rfl rfl, line', slot, by
    simpa [State.sameExcept] using blocks⟩

/-! ### The ignition -/

theorem State.ignitionOff_eq (s : State) : s.ignitionOff = s.mapNode fun n =>
    if n.state = .running ∨ n.state = .supplyLow then { n with sleepDelay := .running 0 } else n := by
  unfold State.ignitionOff State.when State.mapNode
  by_cases driven : s.node.state = .running ∨ s.node.state = .supplyLow
  · rw [if_pos (by simpa using driven)]
    dsimp only
    rw [if_pos driven]
    rfl
  · rw [if_neg (by simpa using driven)]
    dsimp only
    rw [if_neg driven]

/-- What an event that changes the node alone, and not its state, leaves behind (R8, R9). -/
theorem State.mapNode_finish {u s : State} {f : NodeControl → NodeControl} (node : (f u.node).state = s.node.state)
    (drive : u.drive = s.drive) :
    ((u.mapNode f).finish s).node = f u.node ∧ u.sameExcept [.node, .line] ((u.mapNode f).finish s) ∧
    u.line.sameOutsideSlots ((u.mapNode f).finish s).line := by
  obtain ⟨blocks, same⟩ := State.finish_steady_frame (s := u.mapNode f) (b := s) fun parked =>
    ⟨node.symm.trans parked, by rw [← drive]; rfl⟩
  refine ⟨?_, State.sameExcept_trans (by simp [State.sameExcept]) blocks (by simp), same⟩
  simpa [State.sameExcept] using blocks.2.1

/-- A state in which the node does not speak: the end of an event does nothing but test Parking (R8, R9, R159). -/
theorem State.finish_of_unspeaking {u : State} (s : State) (h : u.node.state.speaks = false) (still : u.node.state ≠ .parking) :
    u.finish s = u := by
  have unhanded : u.settleDemand (demandContent s) = u := by simp [State.settleDemand, h]
  rw [State.finish, State.settleParking_of_not_waiting u s (.inl still), unhanded]
  exact State.settleStatus_of_not_due (by simp [h])

/-- The return of the ignition in Parking without the supply: the node in SupplyLow, its condition active and a fresh damper target
settled (R81, R157, R159). -/
theorem State.returnToSupplyLow_finish (p b : State) :
    let u := p.mapNode fun n => { n with state := .supplyLow }
    let t := ((u.raise .supplyLow).settleFresh).finish b
    t.node = u.node ∧ inSet t.cond.active .supplyLow = true ∧ p.freshSettled t ∧
    t.air = { p.air with freshTarget := t.air.freshTarget } ∧ t.input = p.input ∧
    (p.raise .supplyLow).condsSameBut [.freshDamperStall] t ∧ p.line.sameOutsideSlots t.line ∧
    p.sameExcept [.node, .air, .drive, .cond, .line] t := by
  intro u
  obtain ⟨settled, conds, air⟩ := (u.raise .supplyLow).settleFresh_settled
  obtain ⟨params, node, peers, allowance, share, input, pending, choices⟩ := (u.raise .supplyLow).settleFresh_frame
  have unmarked := (u.raise .supplyLow).settleFresh_unmarked
  have low : inSet (u.raise .supplyLow).settleFresh.cond.active .supplyLow = true := by
    rw [State.settleFresh_active_of_other _ rfl, State.raise_active]
    simp
  have blocks : p.sameExcept [.node, .air, .drive, .cond, .line] (u.raise .supplyLow).settleFresh := by
    simp [State.sameExcept, u]
  have raised : (u.raise .supplyLow).cond = (p.raise .supplyLow).cond := by
    rw [State.raise_cond, State.raise_cond]; rfl
  simp only [State.raise_frame] at node input air
  generalize (u.raise .supplyLow).settleFresh = v at *
  have steady : v.node.state ≠ .parking := by rw [node]; exact fun h => nomatch h
  obtain ⟨ends, same⟩ := State.finish_of_not_waiting v b (.inl steady)
  intro t
  have whole := State.sameExcept_trans blocks ends (by simp)
  simp only [State.sameExcept, List.mem_singleton, reduceCtorEq, false_or, true_or, true_and] at ends
  obtain ⟨tParams, tNode, tPeers, tAllowance, tShare, tAir, tInput, tDrive, tCond, -, -⟩ := ends
  refine ⟨tNode.trans node, by rw [tCond]; exact low, ?_, ?_, tInput.trans input, ?_, ?_, whole⟩
  · exact State.freshSettled_congr settled (by simp; rfl) (by simp; rfl) (by rw [raised]; simp) (by rw [tNode]) tAir tDrive tCond
  · rw [tAir]; exact air
  · rw [State.condsSameBut, tCond, ← raised]; exact conds
  · exact LineInterface.sameOutsideSlots_trans (LineInterface.sameOutsideSlots_of_unmarked (by rw [unmarked]; simp [u])) same

/-- The node at the return of the ignition in Parking: the sleep-delay, Parking and leaving timers stopped (R158, R159). -/
def NodeControl.unparked (n : NodeControl) : NodeControl :=
  { n with sleepDelay := .stopped, parking := .stopped, leavingTimer := .stopped, leaving := false }

theorem State.ignitionOn_of_parking {s : State} (parked : s.node.state = .parking) : s.ignitionOn =
    if s.lineLevel .supplyOk then (s.mapNode NodeControl.unparked).enterRunning false
    else (((s.mapNode NodeControl.unparked).mapNode fun n => { n with state := .supplyLow }).raise .supplyLow).settleFresh := by
  rw [State.ignitionOn, parked]
  rfl

theorem State.ignitionOn_of_awake {s : State} (awake : s.node.state ≠ .sleep) (unparked : s.node.state ≠ .parking) :
    s.ignitionOn = s.mapNode fun n => { n with sleepDelay := .stopped } := by
  unfold State.ignitionOn
  split
  · next h => exact absurd h unparked
  · next h => exact absurd h awake
  all_goals rfl

/-- Settles O9, by the node state the acceptance finds. -/
theorem ignitionOffAndOn : Obligations.IgnitionOffAndOn := by
  refine ⟨fun s accepts => ?_, fun s accepts => ?_⟩
  · refine ⟨_, by rw [exec, execIgnAcceptedLow, State.onSlowEvent, if_pos accepts, State.ignitionOff_eq], ?_⟩
    obtain ⟨node, blocks, same⟩ := State.mapNode_finish (u := s.accept .ign false) (s := s)
      (f := fun n => if n.state = .running ∨ n.state = .supplyLow then { n with sleepDelay := .running 0 } else n)
      (by rw [State.accept_node]; split <;> rfl) rfl
    refine ⟨node, ?_, same, State.sameExcept_trans (by simp [State.sameExcept]) blocks (by simp)⟩
    simpa [State.sameExcept] using blocks.2.2.2.2.2.2.2.1
  · have supply : (s.accept .ign true).lineLevel .supplyOk = s.lineLevel .supplyOk :=
      s.accept_lineLevel_of_ne true (by decide)
    refine ⟨(s.accept .ign true).ignitionOn.finish s, by rw [exec, execIgnAcceptedHigh, State.onSlowEvent, if_pos accepts],
      fun asleep => ?_, fun parked powered => ?_, fun parked unpowered => ?_, fun awake unparked => ?_⟩
    · rw [State.ignitionOn, State.accept_node, asleep]
      dsimp only
      rw [State.finish_of_unspeaking s rfl (show NodeState.listening ≠ .parking by decide)]
      exact ⟨rfl, rfl, rfl, by simp [State.sameExcept, State.enterListening]⟩
    · rw [State.ignitionOn_of_parking (by simpa using parked), supply, if_pos powered]
      obtain ⟨entered, node, input, conds⟩ :=
        ((s.accept .ign true).mapNode NodeControl.unparked).enterRunning_finish false s
      exact ⟨State.enteredRunning_congr (by simp [State.sameExcept]) entered, input, conds, by
        rw [node, if_neg fun h => Bool.false_ne_true h.1]; rfl⟩
    · rw [State.ignitionOn_of_parking (by simpa using parked), supply, if_neg (by simp [unpowered])]
      obtain ⟨node, low, fresh, air, input, conds, same, blocks⟩ :=
        ((s.accept .ign true).mapNode NodeControl.unparked).returnToSupplyLow_finish s
      have raised : (s.raise .supplyLow).cond = (((s.accept .ign true).mapNode NodeControl.unparked).raise .supplyLow).cond := by
        rw [State.raise_cond, State.raise_cond]; rfl
      exact ⟨node, low, State.freshSettled_congr fresh rfl rfl rfl rfl rfl rfl rfl, air, input, by
        rw [State.condsSameBut, raised]; exact conds, same,
        State.sameExcept_trans (by simp [State.sameExcept]) blocks (by simp)⟩
    · rw [State.ignitionOn_of_awake (by simpa using awake) (by simpa using unparked)]
      obtain ⟨node, blocks, same⟩ := State.mapNode_finish (u := s.accept .ign true) (s := s)
        (f := fun n => { n with sleepDelay := .stopped }) rfl rfl
      exact ⟨node, by simpa [State.sameExcept] using blocks.2.2.2.2.2.2.2.1, same,
        State.sameExcept_trans (by simp [State.sameExcept]) blocks (by simp)⟩

end Sys2Proof.Machine
end

section
/-! What an air expiry settles about the air (R29, R67 to R72, R75 to R77, R84): the views of the Peer Table and the source
machine. -/

namespace Sys2Proof.Machine

/-! ### The views of the Peer Table -/

/-- A node is in a view exactly when its slot holds a Fresh or Aging entry of the view (R29, R30). -/
theorem PeerTable.mem_select (t : PeerTable) (p : PeerEntry → Bool) (n : Node) :
    n ∈ t.select p ↔ ∃ e, t[n] = .entry e ∧ (e.freshness = .fresh ∨ e.freshness = .aging) ∧ p e = true := by
  have every : n ∈ allNodes := by revert n; decide
  unfold PeerTable.select PeerTable.entryOf
  simp only [List.mem_filter, every, true_and]
  cases t[n] with
  | own => simp
  | empty => simp
  | entry e => simp [PeerEntry.live_iff]

/-! ### The source machine -/

/-- The lead set in Purge without the leaders that purge no more (R77). -/
def State.leadNow (s : State) : List Node := s.air.leadSet.filter fun n => decide (n ∈ purgingPeers s)

/-- The own-clear count in Purge at this expiry (R77). -/
def State.ownClearNow (s : State) : Nat := if s.cabClear then min 3 (s.air.ownClear + 1) else 0

/-- A purge exit holds at this expiry (R77). -/
def State.exitsNow (s : State) : Bool :=
  s.intakeSmokeLost || s.outsideWorse || (decide (s.ownClearNow = 3) && s.leadNow.isEmpty)

/-- The source the tests go to, by the first that holds (R70, Table 5-1). -/
def State.sourceNow (s : State) : Source :=
  let byCause := if s.recircCauseNow then Source.recirculate else Source.fresh
  if s.air.mode = .off then .off
  else
    match s.air.source with
    | .off => byCause
    | .fresh => if s.purgeEntry then .purge else byCause
    | .pressurize => if s.purgeEntry then .purge else if s.recircCauseNow then .recirculate else .pressurize
    | .recirculate =>
      if s.purgeEntry then .purge
      else if !s.recircCauseNow && decide (s.air.clearingHold = 7 ∨ s.air.clearingHold = 8) then .fresh
      else .recirculate
    | .purge => if s.exitsNow then byCause else .purge

/-- The Air Unit's timers, counts and sets of the source machine, by the source it comes from and goes to (R71 to R77). -/
structure State.SourceMoved (s : State) (a : AirUnit) : Prop where
  source : a.source = s.sourceNow
  clearingHold : a.clearingHold =
    if s.air.mode ≠ .off ∧ s.air.source = .recirculate ∧ a.source = .recirculate ∧ s.recircCauseNow = false then
      s.air.clearingHold + 1
    else 0
  entered : a.source = .purge → s.air.source ≠ .purge → a.purge = .running 0 ∧ a.leadSet = purgingPeers s ∧ a.ownClear = 0
  stayed : a.source = .purge → s.air.source = .purge →
    a.purge = s.air.purge ∧ a.leadSet = s.leadNow ∧ a.ownClear = s.ownClearNow
  left : a.source ≠ .purge → a.purge.isRunning = false ∧ a.leadSet = [] ∧ a.ownClear = 0
  unboosted : a.source ≠ .pressurize → a.boost.isRunning = false
  boosted : a.source = .pressurize → a.boost = s.air.boost
  lockout : a.lockout = s.air.lockout
  smokeHigh : a.smokeHigh = s.air.smokeHigh

/-- The source machine at a source other than Purge and Pressurize, everything of the source left behind stopped and emptied (R71,
R72, R74, R77). -/
def AirUnit.goTo (x : Source) (a : AirUnit) : AirUnit :=
  { a with source := x, boost := .stopped, purge := .stopped, leadSet := [], clearingHold := 0, ownClear := 0 }

theorem AirUnit.sourceByCause_eq (cause : Bool) (a : AirUnit) :
    a.sourceByCause cause = a.goTo (if cause then .recirculate else .fresh) := by
  cases cause <;> rfl

theorem State.SourceMoved.goTo {s : State} {x : Source} (next : x = s.sourceNow) (unpurged : x ≠ .purge)
    (unboosted : x ≠ .pressurize) (leaves : s.air.source = .recirculate → x ≠ .recirculate) :
    s.SourceMoved (s.air.goTo x) where
  source := next
  clearingHold := (if_neg fun ⟨_, was, is, _⟩ => leaves was is).symm
  entered is := absurd is unpurged
  stayed is := absurd is unpurged
  left _ := ⟨rfl, rfl, rfl⟩
  unboosted _ := rfl
  boosted is := absurd is unboosted
  lockout := rfl
  smokeHigh := rfl

theorem State.SourceMoved.enterPurge {s : State} (next : .purge = s.sourceNow) (other : s.air.source ≠ .purge) :
    s.SourceMoved (s.air.sourcePurge (purgingPeers s)) where
  source := next
  clearingHold := (if_neg fun ⟨_, _, is, _⟩ => nomatch is).symm
  entered _ _ := ⟨rfl, rfl, rfl⟩
  stayed _ was := absurd was other
  left away := absurd rfl away
  unboosted _ := rfl
  boosted is := nomatch is
  lockout := rfl
  smokeHigh := rfl

/-- Outside Purge the source stays, and the clearing hold count alone may move. -/
theorem State.SourceMoved.stay {s : State} (h : s.sourceLaws) (next : s.air.source = s.sourceNow) (other : s.air.source ≠ .purge)
    {held : Nat} (count : held = if s.air.mode ≠ .off ∧ s.air.source = .recirculate ∧ s.air.source = .recirculate ∧
      s.recircCauseNow = false then s.air.clearingHold + 1 else 0) : s.SourceMoved { s.air with clearingHold := held } where
  source := next
  clearingHold := count
  entered is := absurd is other
  stayed is := absurd is other
  left _ := ⟨Bool.eq_false_iff.2 (mt h.2.1.1 other), h.2.2.2.2.1 other⟩
  unboosted away := Bool.eq_false_iff.2 (mt h.1.1 away)
  boosted _ := rfl
  lockout := rfl
  smokeHigh := rfl

theorem State.SourceMoved.stayPurging {s : State} (h : s.sourceLaws) (next : .purge = s.sourceNow) (was : s.air.source = .purge) :
    s.SourceMoved (s.air.settlePurge (purgingPeers s) s.cabClear) where
  source := was.trans next
  clearingHold := by
    rw [if_neg fun ⟨_, is, _⟩ => nomatch was.symm.trans is]
    exact h.2.2.1 (by rw [was]; decide)
  entered _ other := absurd was other
  stayed _ _ := ⟨rfl, by simp [AirUnit.settlePurge, State.leadNow], rfl⟩
  left away := absurd was away
  unboosted _ := Bool.eq_false_iff.2 fun runs => nomatch was.symm.trans (h.1.1 runs)
  boosted _ := rfl
  lockout := rfl
  smokeHigh := rfl

theorem State.exitsNow_eq (s : State) : s.purgeExits (s.air.settlePurge (purgingPeers s) s.cabClear) = s.exitsNow := by
  simp only [State.purgeExits, State.exitsNow, AirUnit.settlePurge, State.leadNow, State.ownClearNow, List.contains_eq_mem]
  rfl

/-- The first test that holds moves the source machine (R70 to R77, Table 5-1). -/
theorem State.sourceTests_moved {s : State} (h : s.sourceLaws) : s.SourceMoved s.sourceTests := by
  by_cases off : s.air.mode = .off
  · have next : .off = s.sourceNow := (if_pos off).symm
    rw [State.sourceTests, if_pos off]
    by_cases closed : s.air.source = .off
    · rw [if_pos closed]
      exact .stay h (closed.trans next) (by simp [closed]) (by rw [if_neg fun ⟨on, _⟩ => on off, h.2.2.1 (by simp [closed])])
    · rw [if_neg closed]
      exact .goTo next (by decide) (by decide) fun _ => by decide
  · have next : s.sourceNow = _ := if_neg off
    unfold State.sourceTests
    rw [if_neg off]
    cases source : s.air.source with
    | off =>
      simp only [source, AirUnit.sourceByCause_eq] at next ⊢
      exact .goTo next.symm (by split <;> decide) (by split <;> decide) (by simp [source])
    | fresh | pressurize =>
      by_cases entry : s.purgeEntry = true
      · simp only [source, entry, if_true] at next ⊢
        exact .enterPurge next.symm (by simp [source])
      by_cases cause : s.recircCauseNow = true
      · simp only [source, entry, cause, if_true] at next ⊢
        exact .goTo next.symm (by decide) (by decide) (by simp [source])
      · simp only [source, entry, cause] at next ⊢
        exact .stay h (source.trans next.symm) (by simp [source]) (by simp [source, h.2.2.1])
    | recirculate =>
      by_cases entry : s.purgeEntry = true
      · simp only [source, entry, if_true] at next ⊢
        exact .enterPurge next.symm (by simp [source])
      simp only [source, entry, Bool.false_eq_true, if_false] at next ⊢
      by_cases cause : s.recircCauseNow = true
      · simp only [cause, AirUnit.settleClearing, if_true] at next ⊢
        exact .stay h (source.trans next.symm) (by simp [source]) (by simp [cause])
      by_cases full : s.air.clearingHold = 7 ∨ s.air.clearingHold = 8
      · rw [if_pos (by simp [cause, full])] at next
        simp only [cause, Bool.false_eq_true, AirUnit.settleClearing, if_false]
        rw [if_neg (by omega)]
        exact .goTo next.symm (by decide) (by decide) fun _ => by decide
      · rw [if_neg (by simp [full])] at next
        have below : s.air.clearingHold ≤ 8 := h.2.2.2.1
        simp only [cause, Bool.false_eq_true, AirUnit.settleClearing, if_false]
        rw [if_pos (by omega)]
        exact .stay h (source.trans next.symm) (by simp [source]) (by simp [source, off, cause])
    | purge =>
      simp only [source, State.exitsNow_eq] at next ⊢
      by_cases exits : s.exitsNow = true
      · simp only [exits, if_true, AirUnit.sourceByCause_eq] at next ⊢
        exact .goTo next.symm (by split <;> decide) (by split <;> decide) (by simp [source])
      · simp only [exits] at next ⊢
        exact .stayPurging h next.symm source

end Sys2Proof.Machine
end

section
/-! The stages of an air expiry on the Air Unit (R67, R86): what each settles, and what the later ones leave. -/

namespace Sys2Proof.Machine

/-! ### What the stages read -/

/-- The blocks an air expiry reads and no stage of it writes. -/
structure State.ReadsAs (s t : State) : Prop where
  params : t.params = s.params
  node : t.node = s.node
  peers : t.peers = s.peers
  input : t.input = s.input

theorem State.ReadsAs.trans {s t u : State} (h : s.ReadsAs t) (k : t.ReadsAs u) : s.ReadsAs u :=
  ⟨k.params.trans h.params, k.node.trans h.node, k.peers.trans h.peers, k.input.trans h.input⟩

theorem State.ReadsAs.of_mapAir {f : AirUnit → AirUnit} {s t : State} (h : (s.mapAir f).ReadsAs t) : s.ReadsAs t :=
  ⟨h.params, h.node, h.peers, h.input⟩

section
variable {s t : State} (h : s.ReadsAs t)
include h

theorem State.ReadsAs.reading (x : Sensor) : t.reading x = s.reading x := by rw [State.reading, h.input]; rfl

theorem State.ReadsAs.purgingPeers : purgingPeers t = purgingPeers s := by
  rw [Machine.purgingPeers, h.peers, h.params]; rfl

theorem State.ReadsAs.smokingPeers : smokingPeers t = smokingPeers s := by
  rw [Machine.smokingPeers, h.peers, h.params]; rfl

theorem State.ReadsAs.coolingView : coolingView t = coolingView s := by rw [Machine.coolingView, h.peers]; rfl

theorem State.ReadsAs.holderView : holderView t = holderView s := by rw [Machine.holderView, h.peers]; rfl

theorem State.ReadsAs.lowerHolderHeard : t.lowerHolderHeard = s.lowerHolderHeard := by
  rw [State.lowerHolderHeard, h.holderView, h.node]; rfl

theorem State.ReadsAs.asleep : t.asleep = s.asleep := by rw [State.asleep, h.node]; rfl

end

/-! ### The stages one by one -/

theorem State.settleFresh_air (s : State) :
    s.settleFresh.air = { s.air with freshTarget := freshTargetOf s.node.state s.air } :=
  (State.handTarget_frame _ _ _).2.2.2.2.2.1

theorem State.settleBlend_air (s : State) : s.settleBlend.air = { s.air with blend := s.blendNow } :=
  (State.handTarget_frame _ _ _).2.2.2.2.2.1

theorem State.settleBlend_drive (s : State) : s.settleBlend.drive = s.drive.setActuator
    (s.drive.blend.handTarget s.params.blendTravel s.drive.plan.held s.asleep s.blendNow).act .blend :=
  State.applyActuator_drive _ _ _

theorem State.settleBlend_reads (s : State) : s.ReadsAs s.settleBlend :=
  ⟨by simp [State.settleBlend], by simp [State.settleBlend], by simp [State.settleBlend], by simp [State.settleBlend]⟩

theorem State.setCond_reads (b : Bool) (c : Condition) (s : State) : s.ReadsAs (s.setCond b c) :=
  ⟨by simp, by simp, by simp, by simp⟩

/-- The heater step settles the heater want and its two timers (R89, R90). -/
theorem heaterStep_leaves (p : Params) (e : Option Int) (found : Bool) (a : AirUnit) : heaterStep p e found a =
    { a with
      heaterWant := (heaterStep p e found a).heaterWant, changeTimer := (heaterStep p e found a).changeTimer
      riseTimer := (heaterStep p e found a).riseTimer } := by
  unfold heaterStep
  dsimp only
  (repeat' split) <;> rfl

theorem State.settleHeaterWant_air (found : Bool) (s : State) : (s.settleHeaterWant found).air =
    { s.air with
      heaterWant := (s.settleHeaterWant found).air.heaterWant, changeTimer := (s.settleHeaterWant found).air.changeTimer
      riseTimer := (s.settleHeaterWant found).air.riseTimer } :=
  heaterStep_leaves _ _ _ _

/-- The heater want, the blower and cooling (R89 to R93). -/
theorem State.settleBlower_cooling (found : Bool) (u : State) :
    let v := (u.settleHeaterWant found).settleBlower.settleCooling
    v.air =
      { u.air with
        heaterWant := v.air.heaterWant, changeTimer := v.air.changeTimer, riseTimer := v.air.riseTimer
        level := v.air.level, wantedDuty := v.air.wantedDuty, cooling := v.air.cooling } ∧
    v.air.level = blowerLevel u.params v.air (u.reading .cabTemp) ∧ v.air.wantedDuty = dutyOf u.params v.air.level ∧
    v.air.cooling = coolingOf v.air (u.reading .intakeTemp) ∧ v.drive = u.drive ∧ v.cond = u.cond ∧ u.ReadsAs v := by
  intro v
  have heated := u.settleHeaterWant_air found
  refine ⟨?_, rfl, rfl, rfl, rfl, rfl, ⟨rfl, rfl, rfl, rfl⟩⟩
  change { (u.settleHeaterWant found).air with
    level := v.air.level, wantedDuty := v.air.wantedDuty, cooling := v.air.cooling } = _
  rw [heated]
  rfl

/-- The acting holder, the clutch and their two conditions (R94 to R96). -/
theorem State.settleHolder_clutch (v : State) :
    let q := v.settleHolder.settleClutch.settleCoolingUnavailable
    q.air = { v.air with
      actingHolder := q.air.actingHolder, clutchWant := q.air.clutchWant, clutchCall := q.air.clutchCall } ∧
    q.air.actingHolder = (v.node.hold && !v.lowerHolderHeard) ∧
    q.air.clutchWant =
      (q.air.actingHolder && (v.air.cooling || !(coolingView v).isEmpty) && intakeMild (v.reading .intakeTemp)) ∧
    q.air.clutchCall = (q.air.actingHolder &&
      (if v.clutchDriven then q.air.clutchWant || v.air.minOn.isRunning else q.air.clutchWant && !v.air.minOff.isRunning)) ∧
    q.drive = v.drive ∧ v.ReadsAs q ∧
    (∀ d, inSet q.cond.active d =
      if d = .coolingUnavailable then v.air.cooling && !q.air.actingHolder && (holderView v).isEmpty
      else if d = .holderConflict then v.node.hold && v.lowerHolderHeard else inSet v.cond.active d) := by
  have air : v.settleHolder.air = { v.air with actingHolder := v.node.hold && !v.lowerHolderHeard } := by
    simp [State.settleHolder]
  have drive : v.settleHolder.drive = v.drive := by simp [State.settleHolder]
  have active (d) : inSet v.settleHolder.cond.active d =
      if d = .holderConflict then v.node.hold && v.lowerHolderHeard else inSet v.cond.active d := by simp [State.settleHolder]
  have reads : v.ReadsAs v.settleHolder := (State.setCond_reads _ _ _).of_mapAir
  generalize v.settleHolder = x at *
  intro q
  have want : x.clutchWantNow =
      (x.air.actingHolder && (x.air.cooling || !(coolingView v).isEmpty) && intakeMild (v.reading .intakeTemp)) := by
    rw [State.clutchWantNow, reads.coolingView, reads.reading]
  have driven : x.clutchDriven = v.clutchDriven := by rw [State.clutchDriven, drive]; rfl
  have qAir : q.air = { x.air with clutchWant := x.clutchWantNow, clutchCall := x.clutchCallNow } := by
    simp [q, State.settleCoolingUnavailable, State.settleClutch]
  have qReads : x.ReadsAs q := State.ReadsAs.trans (t := x.settleClutch) ⟨rfl, rfl, rfl, rfl⟩ (State.setCond_reads _ _ _)
  refine ⟨?_, ?_, ?_, ?_, ?_, reads.trans qReads, fun d => ?_⟩
  · rw [qAir, air]
  · rw [qAir, air]
  · rw [qAir, want, air]
  · rw [qAir, State.clutchCallNow, want, driven, air]
  · exact (State.setCond_frame _ _ _).2.2.2.2.2.2.2.1.trans drive
  · have ended : inSet q.cond.active d = _ := State.setCond_active _ _ d x.settleClutch
    have later : x.settleClutch.cond = x.cond := rfl
    have cooling : x.settleClutch.air.cooling = v.air.cooling := by
      rw [show x.settleClutch.air.cooling = x.air.cooling from rfl, air]
    have acting : x.settleClutch.air.actingHolder = q.air.actingHolder := by rw [qAir]; rfl
    have holders : holderView x.settleClutch = holderView v := reads.holderView
    rw [ended, later, cooling, acting, holders, active]

/-! ### The wants together -/

/-- The wants settled by steps 1 to 7 of R86 on the state `w`, `t` being the state they leave: each from the readings and from the
wants before it. -/
structure State.WantsSettled (w t : State) : Prop where
  kept : t.air =
    { w.air with
      dischargeTarget := t.air.dischargeTarget, blend := t.air.blend, heaterWant := t.air.heaterWant
      changeTimer := t.air.changeTimer, riseTimer := t.air.riseTimer, level := t.air.level, wantedDuty := t.air.wantedDuty
      cooling := t.air.cooling, actingHolder := t.air.actingHolder, clutchWant := t.air.clutchWant
      clutchCall := t.air.clutchCall, baseCounted := t.air.baseCounted, request := t.air.request }
  dischargeTarget : t.air.dischargeTarget = dischargeTargetOf w.params t.air.target (w.reading .cabTemp)
  blend : t.air.blend = w.settleDischarge.blendNow
  level : t.air.level = blowerLevel w.params t.air (w.reading .cabTemp)
  wantedDuty : t.air.wantedDuty = dutyOf w.params t.air.level
  cooling : t.air.cooling = coolingOf t.air (w.reading .intakeTemp)
  actingHolder : t.air.actingHolder = (w.node.hold && !w.lowerHolderHeard)
  clutchWant : t.air.clutchWant =
    (t.air.actingHolder && (t.air.cooling || !(coolingView w).isEmpty) && intakeMild (w.reading .intakeTemp))
  clutchCall : t.air.clutchCall =
    (t.air.actingHolder &&
      (if w.clutchDriven then t.air.clutchWant || w.air.minOn.isRunning else t.air.clutchWant && !w.air.minOff.isRunning))
  baseCounted : t.air.baseCounted =
    !(decide (t.air.source = .off) && w.drive.fresh.idleAtTarget && t.drive.blend.idleAtTarget)
  request : t.air.request = requestOf w.params t.air.baseCounted t.air
  drive : t.drive = w.drive.setActuator
    (w.drive.blend.handTarget w.params.blendTravel w.drive.plan.held w.asleep t.air.blend).act .blend
  holderConflict : inSet t.cond.active .holderConflict = (w.node.hold && !t.air.actingHolder)
  coolingUnavailable : inSet t.cond.active .coolingUnavailable =
    (t.air.cooling && !t.air.actingHolder && (holderView w).isEmpty)

theorem State.airWants_settled (found : Bool) (w : State) : w.WantsSettled (w.airWants found) := by
  have uAir := w.settleDischarge.settleBlend_air
  have uDrive := w.settleDischarge.settleBlend_drive
  have uReads : w.ReadsAs w.settleDischarge.settleBlend := State.ReadsAs.trans (t := w.settleDischarge) ⟨rfl, rfl, rfl, rfl⟩
    (State.settleBlend_reads _)
  unfold State.airWants
  generalize w.settleDischarge.settleBlend = u at *
  obtain ⟨vAir, level, duty, cooling, vDrive, -, vReads⟩ := u.settleBlower_cooling found
  have vReads := uReads.trans vReads
  generalize (u.settleHeaterWant found).settleBlower.settleCooling = v at *
  obtain ⟨qAir, acting, want, call, qDrive, qReads, active⟩ := v.settleHolder_clutch
  have qReads := vReads.trans qReads
  generalize v.settleHolder.settleClutch.settleCoolingUnavailable = q at *
  have drive : q.drive = w.drive.setActuator
      (w.drive.blend.handTarget w.params.blendTravel w.drive.plan.held w.asleep w.settleDischarge.blendNow).act .blend :=
    qDrive.trans (vDrive.trans uDrive)
  have clutch : v.clutchDriven = w.clutchDriven := by rw [State.clutchDriven, vDrive, uDrive]; rfl
  have air : q.air = { w.air with
      dischargeTarget := dischargeTargetOf w.params w.air.target (w.reading .cabTemp), blend := w.settleDischarge.blendNow
      heaterWant := v.air.heaterWant, changeTimer := v.air.changeTimer, riseTimer := v.air.riseTimer
      level := v.air.level, wantedDuty := v.air.wantedDuty, cooling := v.air.cooling, actingHolder := q.air.actingHolder
      clutchWant := q.air.clutchWant, clutchCall := q.air.clutchCall } := by
    rw [qAir, vAir, uAir]; rfl
  have kept : q.composeRequest.air = { q.air with
      baseCounted := q.countsBase, request := requestOf q.params q.countsBase q.air } := rfl
  have vParams := vReads.params
  constructor
  case kept => rw [kept, air]
  case dischargeTarget => rw [kept, air]
  case blend => rw [kept, air]
  case level => 
    rw [kept, air]
    exact level.trans (by rw [vAir, uReads.params, uReads.reading, uAir]; rfl)
  case wantedDuty => rw [kept, air]; exact duty.trans (by rw [uReads.params])
  case cooling =>
    rw [kept, air]
    exact cooling.trans (by rw [vAir, uReads.reading, uAir]; rfl)
  case actingHolder => rw [kept]; exact acting.trans (by rw [vReads.node, vReads.lowerHolderHeard])
  case clutchWant =>
    rw [kept]
    exact want.trans (by rw [vReads.coolingView, vReads.reading, qAir])
  case clutchCall =>
    rw [kept]
    exact call.trans (by rw [clutch, vAir, uAir]; rfl)
  case baseCounted =>
    have fresh : q.drive.fresh = w.drive.fresh := by rw [drive]; rfl
    rw [kept, State.countsBase, fresh]
    rfl
  case request => rw [kept, ← qReads.params]; rfl
  case drive =>
    have blend : q.air.blend = w.settleDischarge.blendNow := by rw [air]
    rw [kept, blend]
    exact drive
  case holderConflict =>
    rw [kept, acting, vReads.node, vReads.lowerHolderHeard]
    refine (active .holderConflict).trans ?_
    rw [if_neg (by decide), if_pos rfl, vReads.node, vReads.lowerHolderHeard]
    cases w.node.hold <;> simp
  case coolingUnavailable =>
    have wanted : q.air.cooling = v.air.cooling := by rw [qAir]
    rw [kept, wanted, ← vReads.holderView]
    exact (active .coolingUnavailable).trans (if_pos rfl)

end Sys2Proof.Machine
end

section
/-! An air expiry from its start to the end of its event (R67, R86), and the source machine in it (R68 to R77). -/

namespace Sys2Proof.Machine

/-! ### The tests of the source machine -/

/-- SmokeHigh with its margin (R68). -/
theorem smokeHighOf_some (p : Params) (v : Int) (before : Bool) : smokeHighOf p (some v) before =
    (decide ((p.smokeEnter : Int) ≤ v) || (before && decide ((p.smokeLeave : Int) ≤ v))) := by
  unfold smokeHighOf
  dsimp only
  by_cases enter : (p.smokeEnter : Int) ≤ v
  · simp [enter]
  · by_cases leave : v < (p.smokeLeave : Int)
    · simp [enter, leave]
    · simp [enter, leave, Int.not_lt.1 leave]

section
variable {s t : State} (h : s.ReadsAs t)
include h

theorem State.ReadsAs.intakeSmokeLost : t.intakeSmokeLost = s.intakeSmokeLost := by
  rw [State.intakeSmokeLost, h.reading, h.params]; rfl

theorem State.ReadsAs.outsideWorse : t.outsideWorse = s.outsideWorse := by
  rw [State.outsideWorse, h.reading, h.reading]; rfl

theorem State.ReadsAs.cabClear : t.cabClear = s.cabClear := by
  rw [State.cabClear, h.reading, h.params]; rfl

/-- The purge entry rests on the readings, the lockout and the purge-seen set (R76). -/
theorem State.ReadsAs.purgeEntry (lockout : t.air.lockout = s.air.lockout) (seen : t.air.purgeSeen = s.air.purgeSeen) :
    t.purgeEntry = s.purgeEntry := by
  have own : t.ownPurgeCause = s.ownPurgeCause := by rw [State.ownPurgeCause, h.reading, h.reading, h.params]; rfl
  have joins : t.joinsPurge = s.joinsPurge := by
    rw [State.joinsPurge, newPurges, h.purgingPeers, seen, h.intakeSmokeLost, h.outsideWorse]; rfl
  rw [State.purgeEntry, lockout, own, joins]; rfl

/-- The recirculation cause rests on the readings, SmokeHigh and the mode (R69). -/
theorem State.ReadsAs.recircCauseNow (smoke : t.air.smokeHigh = s.air.smokeHigh) (mode : t.air.mode = s.air.mode) :
    t.recircCauseNow = s.recircCauseNow := by
  rw [State.recircCauseNow, State.smokeCause, smoke, h.intakeSmokeLost, h.smokingPeers, mode]; rfl

theorem State.ReadsAs.leadNow (lead : t.air.leadSet = s.air.leadSet) : t.leadNow = s.leadNow := by
  rw [State.leadNow, lead, h.purgingPeers]; rfl

theorem State.ReadsAs.ownClearNow (count : t.air.ownClear = s.air.ownClear) : t.ownClearNow = s.ownClearNow := by
  rw [State.ownClearNow, count, h.cabClear]; rfl

end

/-! ### The state the source machine tests -/

/-- The state of an air expiry with the air timer restarted, SmokeHigh settled and the recirculation cause judged: what the source
machine makes its tests on (R67). -/
def State.judged (s : State) : State := ((s.mapAir fun a => { a with timer := Timer.start }).settleSmoke).settleCause

theorem State.judged_reads (s : State) : s.ReadsAs s.judged :=
  ⟨by simp [State.judged, State.settleCause], by simp [State.judged, State.settleCause],
    by simp [State.judged, State.settleCause], by simp [State.judged, State.settleCause]⟩

theorem State.settleSmoke_air (s : State) :
    s.settleSmoke.air = { s.air with smokeHigh := smokeHighOf s.params (s.reading .intakeSmoke) s.air.smokeHigh } := by
  simp [State.settleSmoke]

theorem State.settleSmoke_reads (s : State) : s.ReadsAs s.settleSmoke := ⟨by simp, by simp, by simp, by simp⟩

theorem State.judged_air (s : State) : s.judged.air =
    { s.air with
      timer := .running 0, smokeHigh := smokeHighOf s.params (s.reading .intakeSmoke) s.air.smokeHigh
      recircCause := s.judged.recircCauseNow } := by
  have smoke := (s.mapAir fun a => { a with timer := Timer.start }).settleSmoke_air
  calc s.judged.air
    _ = { ((s.mapAir fun a => { a with timer := Timer.start }).settleSmoke).air with recircCause := s.judged.recircCauseNow } := rfl
    _ = _ := by rw [smoke]; rfl

theorem State.judged_drive (s : State) : s.judged.drive = s.drive := by simp [State.judged, State.settleCause]

/-- The laws of the source machine hold of the state it tests. -/
theorem State.judged_sourceLaws {s : State} (running : s.node.state = .running) (h : s.sourceLaws) : s.judged.sourceLaws := by
  have air := s.judged_air
  have node := s.judged_reads.node
  unfold State.sourceLaws at h ⊢
  rw [air, node]
  obtain ⟨boost, purge, unheld, bound, unled, cleared, unlocked, -, unseen, -⟩ := h
  exact ⟨boost, purge, unheld, bound, unled, cleared, unlocked, fun rests => absurd running rests, unseen, fun _ => rfl,
    fun rests => absurd running rests⟩

/-! ### The stages up to the fresh damper target -/

/-- The source machine moves the source, its two timers, its sets and its counts alone (R70 to R77). -/
theorem State.sourceTests_leaves (s : State) : s.sourceTests =
    { s.air with
      source := s.sourceTests.source, clearingHold := s.sourceTests.clearingHold, ownClear := s.sourceTests.ownClear
      leadSet := s.sourceTests.leadSet, boost := s.sourceTests.boost, purge := s.sourceTests.purge } := by
  unfold State.sourceTests AirUnit.sourceByCause AirUnit.settleClearing
  dsimp only
  (repeat' split) <;> rfl

theorem State.settleFresh_reads (s : State) : s.ReadsAs s.settleFresh := ⟨by simp, by simp, by simp, by simp⟩

theorem State.settleFresh_drive (s : State) : s.settleFresh.drive = s.drive.setActuator
    (s.drive.fresh.handTarget s.params.freshTravel s.drive.plan.held s.asleep (freshTargetOf s.node.state s.air)).act .fresh :=
  State.applyActuator_drive _ _ _

theorem State.airStages_eq (s : State) : (s.mapAir fun a => { a with timer := Timer.start }).airStages =
    s.judged.runSource.settleDefrost.composeClass.settleFresh := rfl

/-- The Air Unit as the source machine leaves it, the purge-seen set renewed (R67, R75). -/
theorem State.runSource_spec (s : State) : s.ReadsAs s.judged.runSource ∧ s.judged.runSource.drive = s.drive ∧
    s.judged.runSource.air = { s.judged.sourceTests with purgeSeen := purgingPeers s } ∧
    s.judged.runSource.cond = s.judged.cond :=
  ⟨s.judged_reads.trans ⟨rfl, rfl, rfl, rfl⟩, s.judged_drive, by rw [← s.judged_reads.purgingPeers]; rfl, rfl⟩

/-- The Defrost flag, the class and the fresh damper target settled in turn (R81 to R83). -/
theorem State.settleDefrost_class_fresh {r w : State} (settled : r.settleDefrost.composeClass.settleFresh = w) :
    r.ReadsAs w ∧
    w.air =
      { r.air with
        defrost := decide (r.air.mode = .defrost), cls := w.air.cls, freshTarget := freshTargetOf r.node.state r.air } ∧
    w.air.cls = classOf r.params w.air (r.reading .cabTemp) ∧
    w.drive = r.drive.setActuator (r.drive.fresh.handTarget r.params.freshTravel r.drive.plan.held r.asleep w.air.freshTarget).act
      .fresh ∧
    ∀ d : Condition, d.ofDrive = false → inSet w.cond.active d = inSet r.cond.active d := by
  let u := r.settleDefrost.composeClass
  have air := u.settleFresh_air
  have drive := u.settleFresh_drive
  have reads := u.settleFresh_reads
  have active (d : Condition) (other : d.ofDrive = false) := u.settleFresh_active_of_other other
  rw [settled] at air drive reads active
  exact ⟨.trans (t := u) ⟨rfl, rfl, rfl, rfl⟩ reads, by rw [air]; rfl, by rw [air]; rfl, by rw [air]; exact drive, active⟩

/-- The stages of an air expiry up to the fresh damper target (R67). -/
theorem State.airStages_settled {s w : State} (staged : (s.mapAir fun a => { a with timer := Timer.start }).airStages = w) :
    s.ReadsAs w ∧
    w.air =
      { s.judged.sourceTests with
        purgeSeen := purgingPeers s, defrost := decide (s.air.mode = .defrost), cls := w.air.cls
        freshTarget := w.air.freshTarget } ∧
    w.air.freshTarget = freshTargetOf s.node.state w.air ∧
    w.air.cls = classOf s.params w.air (s.reading .cabTemp) ∧
    w.drive = s.drive.setActuator (s.drive.fresh.handTarget s.params.freshTravel s.drive.plan.held s.asleep w.air.freshTarget).act
      .fresh ∧
    inSet w.cond.active .smokeHigh = s.judged.air.smokeHigh := by
  obtain ⟨reads, drive, air, cond⟩ := s.runSource_spec
  have mode : s.judged.runSource.air.mode = s.air.mode := by
    rw [air, s.judged.sourceTests_leaves, s.judged_air]
  have smoke : inSet s.judged.cond.active .smokeHigh = s.judged.air.smokeHigh := by
    rw [s.judged_air]
    exact (State.setCond_active _ _ _ _).trans (if_pos rfl)
  obtain ⟨wReads, wAir, cls, wDrive, active⟩ := State.settleDefrost_class_fresh ((s.airStages_eq.symm).trans staged)
  rw [mode, air] at wAir
  rw [reads.node] at wAir
  refine ⟨reads.trans wReads, ?_, ?_, ?_, ?_, ?_⟩
  · rw [wAir]
  · rw [wAir]; rfl
  · rw [cls, reads.params, reads.reading]
  · rw [wDrive, drive, reads.params, reads.asleep]
  · rw [active _ rfl, cond, smoke]

/-! ### The end of the event -/

/-- The plan and the end of the event leave of the Air Unit all but the short-cycle timers, and the conditions of every other owner
(R67, R86, R98). -/
theorem State.airWork_finish {s z : State} (running : s.node.state = .running)
    (wanted : ((s.mapAir fun a => { a with timer := Timer.start }).airStages).airWants s.air.defrost = z) :
    (s.airWork.finish s).air =
      { z.air with minOn := (s.airWork.finish s).air.minOn, minOff := (s.airWork.finish s).air.minOff } ∧
    ∀ d : Condition, d.ofDrive = false → inSet (s.airWork.finish s).cond.active d = inSet z.cond.active d := by
  have planned : s.airWork = z.makePlan := by rw [← wanted]; rfl
  have node : z.makePlan.node = s.node := by rw [← planned]; simp
  have steady : z.makePlan.node.state = .parking →
      s.node.state = .parking ∧ s.drive.fresh.state = z.makePlan.drive.fresh.state := by
    rw [node, running]
    exact fun h => nomatch h
  rw [planned]
  have air : (z.makePlan.finish s).air = z.makePlan.air := by
    rw [State.finish_of_steady steady]
    simp
  have cond := State.finish_cond_of_steady steady
  refine ⟨?_, fun d other => ?_⟩
  · rw [air]
    exact (State.handPlan_reported _ z).2
  · rw [cond]
    exact State.makePlan_active_of_other z other

theorem exec_airExpiry {s : State} (running : s.node.state = .running) (timer : s.air.timer.isRunning = true) :
    exec .airExpiry s = .next (s.airWork.finish s) := by
  rw [exec, execAirExpiry, if_pos ⟨running, timer⟩]

end Sys2Proof.Machine
end

section
/-! The formulas of the wants (R81, R87, R88, R91 to R97), and what an air expiry settles by them. -/

namespace Sys2Proof.Machine

/-! ### The formulas -/

theorem clampInt_eq {lo hi : Int} (h : lo ≤ hi) (x : Int) : clampInt lo hi x = max lo (min hi x) := by
  unfold clampInt
  split
  · omega
  · split <;> omega

theorem Actuator.idleAtTarget_eq (a : Actuator) : a.idleAtTarget = decide (a.state = .idle ∧ a.near) := by
  rw [Actuator.idleAtTarget, Actuator.atTarget, ← Bool.decide_and, ← Bool.decide_and]

/-- The discharge target from the target and the cab temperature (R87). -/
theorem dischargeTargetOf_some (p : Params) (target : Nat) (c : Int) : dischargeTargetOf p target (some c) =
    max 50 (min 600 ((target : Int) + ((p.cabGain : Int) * (target - c)).tdiv 10)) :=
  clampInt_eq (by decide) _

/-- The loop step of the blend position (R88). -/
theorem blendStep_eq (gain : Nat) (e : Int) (b : Nat) :
    (blendStep gain e b : Int) = max 0 (min 1000 ((b : Int) + max (-50) (min 50 ((e * (gain : Int)).tdiv 10)))) := by
  rw [blendStep, clampInt_eq (by decide), clampInt_eq (by decide)]
  omega

/-- The Auto blower level (R91). -/
theorem autoLevel_some (target : Nat) (c : Int) :
    autoLevel target (some c) = max 2 (min 8 (2 + ((target : Int) - c).natAbs / 15)) := clampNat_eq (by decide) _

/-- The blend position, forced or by the loop (R88). -/
theorem State.blendNow_eq (s : State) : (s.blendNow : Int) =
    match s.air.overrides.blend with
    | some f => (f : Int) * 10
    | none =>
      if s.air.defrost then 1000
      else if s.air.source = .off then (s.air.blend : Int)
      else match s.reading .dischargeTemp with
        | none => (s.air.blend : Int)
        | some d => max 0 (min 1000 ((s.air.blend : Int) +
            max (-50) (min 50 (((s.air.dischargeTarget - d) * (s.params.blendGain : Int)).tdiv 10)))) := by
  unfold State.blendNow State.dischargeError
  cases s.air.overrides.blend with
  | some f => simp
  | none =>
    cases s.air.defrost with
    | true => rfl
    | false =>
      by_cases off : s.air.source = .off
      · simp [off]
      · cases s.reading .dischargeTemp with
        | none => simp [off]
        | some d => simp only [off, if_false, Bool.false_eq_true, blendStep_eq]

/-! ### The wants at an air expiry -/

/-- The blend position rests on the readings, the discharge target and what forces or freezes it (R88). -/
theorem State.ReadsAs.blendNow {s t u : State} (reads : s.ReadsAs u) (forced : u.air.overrides = s.air.overrides)
    (defrost : u.air.defrost = t.air.defrost) (source : u.air.source = t.air.source) (before : u.air.blend = s.air.blend)
    (discharge : u.air.dischargeTarget = t.air.dischargeTarget) : (u.blendNow : Int) =
    match s.air.overrides.blend with
    | some f => (f : Int) * 10
    | none =>
      if t.air.defrost then 1000
      else if t.air.source = .off then (s.air.blend : Int)
      else match s.reading .dischargeTemp with
        | none => (s.air.blend : Int)
        | some d => max 0 (min 1000 ((s.air.blend : Int) +
            max (-50) (min 50 (((t.air.dischargeTarget - d) * (s.params.blendGain : Int)).tdiv 10)))) := by
  rw [State.blendNow_eq, forced, reads.reading, reads.params, before, defrost, source, discharge]

/-- What an air expiry that finds `s` has settled in `t`, the end of its event (R67, R81 to R83, R86 to R97). -/
structure State.AirSettled (s t : State) : Prop where
  target : t.air.target = s.air.target
  fan : t.air.fan = s.air.fan
  overrides : t.air.overrides = s.air.overrides
  defrost : t.air.defrost = decide (s.air.mode = .defrost)
  cls : t.air.cls = classOf s.params t.air (s.reading .cabTemp)
  freshTarget : t.air.freshTarget = freshTargetOf s.node.state t.air
  dischargeTarget : t.air.dischargeTarget = dischargeTargetOf s.params s.air.target (s.reading .cabTemp)
  blend : ∃ u : State, s.ReadsAs u ∧ u.air.overrides = s.air.overrides ∧ u.air.defrost = t.air.defrost ∧
    u.air.source = t.air.source ∧ u.air.blend = s.air.blend ∧ u.air.dischargeTarget = t.air.dischargeTarget ∧
    t.air.blend = u.blendNow
  level : t.air.level = blowerLevel s.params t.air (s.reading .cabTemp)
  wantedDuty : t.air.wantedDuty = dutyOf s.params t.air.level
  cooling : t.air.cooling = coolingOf t.air (s.reading .intakeTemp)
  actingHolder : t.air.actingHolder = (s.node.hold && !s.lowerHolderHeard)
  holderConflict : inSet t.cond.active .holderConflict = (s.node.hold && !t.air.actingHolder)
  coolingUnavailable : inSet t.cond.active .coolingUnavailable =
    (t.air.cooling && !t.air.actingHolder && (holderView s).isEmpty)
  clutchWant : t.air.clutchWant =
    (t.air.actingHolder && (t.air.cooling || !(coolingView s).isEmpty) && intakeMild (s.reading .intakeTemp))
  clutchCall : t.air.clutchCall =
    (t.air.actingHolder &&
      (if s.clutchDriven then t.air.clutchWant || s.air.minOn.isRunning else t.air.clutchWant && !s.air.minOff.isRunning))
  baseCounted : t.air.baseCounted = !(decide (t.air.source = .off) &&
    (s.drive.fresh.handTarget s.params.freshTravel s.drive.plan.held s.asleep t.air.freshTarget).act.idleAtTarget &&
    (s.drive.blend.handTarget s.params.blendTravel s.drive.plan.held s.asleep t.air.blend).act.idleAtTarget)
  request : t.air.request = requestOf s.params t.air.baseCounted t.air

/-- The work of an air expiry, to the end of its event, settles all of it. -/
theorem State.airWork_settled {s : State} (running : s.node.state = .running) : s.AirSettled (s.airWork.finish s) := by
  obtain ⟨reads, wAir, target, cls, drive, -⟩ := State.airStages_settled (s := s) rfl
  obtain ⟨air, active⟩ := State.airWork_finish running rfl
  generalize (s.mapAir fun a => { a with timer := Timer.start }).airStages = w at *
  have wants := w.airWants_settled s.air.defrost
  generalize w.airWants s.air.defrost = z at *
  generalize s.airWork.finish s = t at *
  have whole : t.air = _ := air.trans (by rw [wants.kept])
  rw [s.judged.sourceTests_leaves, s.judged_air] at wAir
  have clutch : w.clutchDriven = s.clutchDriven := by rw [State.clutchDriven, drive]; rfl
  constructor
  case target => rw [whole, wAir]
  case fan => rw [whole, wAir]
  case overrides => rw [whole, wAir]
  case defrost => rw [whole, wAir]
  case cls => rw [whole, cls]; rfl
  case freshTarget => rw [whole, target]; rfl
  case dischargeTarget =>
    rw [air]
    exact wants.dischargeTarget.trans (by rw [reads.params, reads.reading, wants.kept, wAir])
  case blend =>
    refine ⟨w.settleDischarge, reads.trans ⟨rfl, rfl, rfl, rfl⟩, ?_, ?_, ?_, ?_, ?_, ?_⟩
    · change w.air.overrides = _
      rw [wAir]
    · rw [whole]; rfl
    · rw [whole]; rfl
    · change w.air.blend = _
      rw [wAir]
    · rw [air, wants.dischargeTarget, wants.kept]; rfl
    · rw [air]; exact wants.blend
  case level => rw [← reads.params, ← reads.reading, air]; exact wants.level
  case wantedDuty => rw [← reads.params, air]; exact wants.wantedDuty
  case cooling => rw [← reads.reading, air]; exact wants.cooling
  case actingHolder => rw [← reads.node, ← reads.lowerHolderHeard, air]; exact wants.actingHolder
  case holderConflict => rw [active _ rfl, ← reads.node, air]; exact wants.holderConflict
  case coolingUnavailable => rw [active _ rfl, ← reads.holderView, air]; exact wants.coolingUnavailable
  case clutchWant => rw [← reads.coolingView, ← reads.reading, air]; exact wants.clutchWant
  case clutchCall =>
    rw [air, ← clutch]
    exact wants.clutchCall.trans (by rw [wAir])
  case baseCounted =>
    rw [air]
    refine wants.baseCounted.trans ?_
    rw [wants.drive, drive, reads.params, reads.asleep, wants.kept]
    rfl
  case request => rw [← reads.params, air]; exact wants.request

/-- Settles O36, want by want: each formula of the model is the rule's own. -/
theorem wantsAtAirExpiry : Obligations.WantsAtAirExpiry := by
  refine ⟨fun s n => ?_, fun s running timer => ⟨_, exec_airExpiry running timer, ?_⟩⟩
  · simp only [coolingView, holderView, PeerTable.mem_select]
    cases s.peers[n] with
    | own => simp
    | empty => simp
    | entry e => simp
  have settled := State.airWork_settled running
  generalize s.airWork.finish s = t at *
  have awake : s.asleep = false := by rw [State.asleep, running]; rfl
  refine ⟨⟨(s.drive.fresh.handTarget s.params.freshTravel s.drive.plan.held s.asleep t.air.freshTarget).act,
    (s.drive.blend.handTarget s.params.blendTravel s.drive.plan.held s.asleep t.air.blend).act, ?_, ?_, ?_⟩, settled.defrost,
    settled.cls.trans ?_, ?_, settled.dischargeTarget.trans ?_, ?_, settled.level.trans ?_,
    settled.wantedDuty, settled.cooling.trans ?_, settled.actingHolder, settled.holderConflict, settled.coolingUnavailable,
    settled.clutchWant, settled.clutchCall.trans ?_, settled.request⟩
  · rw [awake]
    exact (Actuator.handTarget_taken _ _ _ _ _).1
  · rw [awake]
    exact (Actuator.handTarget_taken _ _ _ _ _).1
  · rw [settled.baseCounted, Actuator.idleAtTarget_eq, Actuator.idleAtTarget_eq, ← Bool.decide_and, ← Bool.decide_and]
    simp only [and_assoc]
  · unfold classOf
    cases s.reading .cabTemp <;> simp only [settled.target]
  · have fresh := settled.freshTarget
    rw [freshTargetOf, running, settled.overrides, if_neg (by decide)] at fresh
    exact fresh.trans (by rcases s.air.overrides.fresh with _ | _ | _ <;> rfl)
  · cases s.reading .cabTemp with
    | none => rfl
    | some c => exact dischargeTargetOf_some _ _ _
  · obtain ⟨u, reads, forced, defrost, source, before, discharge, blend⟩ := settled.blend
    rw [blend, reads.blendNow forced defrost source before discharge]
    cases s.air.overrides.blend with
    | some f => rfl
    | none => cases s.reading .dischargeTemp <;> rfl
  · unfold blowerLevel requestedLevel
    rw [settled.overrides, settled.fan, settled.target]
    cases s.air.overrides.level with
    | some f => rfl
    | none =>
      cases s.air.fan with
      | level k => rfl
      | off => rfl
      | auto =>
        cases s.reading .cabTemp with
        | none => rfl
        | some c => simp only [autoLevel_some]
  · cases s.reading .intakeTemp <;> rfl
  · simp only [State.clutchDriven, decide_eq_true_eq]

end Sys2Proof.Machine
end

section
/-! The source machine at an air expiry (R68 to R77, R84). -/

namespace Sys2Proof.Machine

/-! ### What the stages after the source machine leave -/

/-- `b` is `a` but for what is settled at an air expiry after the source machine. -/
def AirUnit.SourceKept (a b : AirUnit) : Prop :=
  b = { a with
    defrost := b.defrost, cls := b.cls, freshTarget := b.freshTarget, dischargeTarget := b.dischargeTarget, blend := b.blend
    heaterWant := b.heaterWant, changeTimer := b.changeTimer, riseTimer := b.riseTimer, level := b.level
    wantedDuty := b.wantedDuty, cooling := b.cooling, actingHolder := b.actingHolder, clutchWant := b.clutchWant
    clutchCall := b.clutchCall, minOn := b.minOn, minOff := b.minOff, baseCounted := b.baseCounted, request := b.request }

theorem State.airWants_smokeHigh (found : Bool) (w : State) :
    inSet (w.airWants found).cond.active .smokeHigh = inSet w.cond.active .smokeHigh := by
  have blended : inSet w.settleDischarge.settleBlend.cond.active .smokeHigh = inSet w.cond.active .smokeHigh :=
    State.handTarget_active_of_other _ _ _ rfl
  have heated := (w.settleDischarge.settleBlend.settleBlower_cooling found).2.2.2.2.2.1
  rw [← blended, ← heated]
  exact ((State.settleHolder_clutch _).2.2.2.2.2.2 .smokeHigh).trans (by rw [if_neg (by decide), if_neg (by decide)])

/-- The source, its timers, sets and counts at the end of an air expiry are those the source machine leaves, with the purge-seen set
renewed and the smoke condition following (R67, R68, R75). -/
theorem State.airWork_source {s : State} (running : s.node.state = .running) :
    ({ s.judged.sourceTests with purgeSeen := purgingPeers s } : AirUnit).SourceKept (s.airWork.finish s).air ∧
    inSet (s.airWork.finish s).cond.active .smokeHigh = s.judged.air.smokeHigh := by
  obtain ⟨-, wAir, -, -, -, smoke⟩ := State.airStages_settled (s := s) rfl
  obtain ⟨air, active⟩ := State.airWork_finish running rfl
  generalize (s.mapAir fun a => { a with timer := Timer.start }).airStages = w at *
  refine ⟨?_, ?_⟩
  · rw [AirUnit.SourceKept, air, (w.airWants_settled _).kept, wAir]
  · rw [active _ rfl, State.airWants_smokeHigh, smoke]

theorem State.SourceMoved.kept {s : State} {a b : AirUnit} {seen : List Node} (h : s.SourceMoved a)
    (same : ({ a with purgeSeen := seen } : AirUnit).SourceKept b) : s.SourceMoved b := by
  obtain ⟨source, held, entered, stayed, left, unboosted, boosted, lockout, smokeHigh⟩ := h
  rw [same]
  exact ⟨source, held, entered, stayed, left, unboosted, boosted, lockout, smokeHigh⟩

/-! ### The tests on the state an expiry finds -/

/-- The judgements of the source machine at an air expiry, from the readings and the Air Unit the expiry finds (R69, R76, R77). -/
theorem State.judged_tests (s : State) :
    s.judged.purgeEntry = s.purgeEntry ∧ s.judged.recircCauseNow = s.settleSmoke.recircCauseNow ∧
    s.judged.leadNow = s.leadNow ∧ s.judged.ownClearNow = s.ownClearNow ∧ s.judged.exitsNow = s.exitsNow := by
  have reads := s.judged_reads
  have air := s.judged_air
  have lead := reads.leadNow (by rw [air])
  have ownClear := reads.ownClearNow (by rw [air])
  refine ⟨reads.purgeEntry (by rw [air]) (by rw [air]), ?_, lead, ownClear, ?_⟩
  · have apart : s.settleSmoke.ReadsAs s.judged := by
      have smoke := s.settleSmoke_reads
      exact ⟨reads.params.trans smoke.params.symm, reads.node.trans smoke.node.symm, reads.peers.trans smoke.peers.symm,
        reads.input.trans smoke.input.symm⟩
    exact apart.recircCauseNow (by rw [air, s.settleSmoke_air]) (by rw [air, s.settleSmoke_air])
  · rw [State.exitsNow, reads.intakeSmokeLost, reads.outsideWorse, ownClear, lead]
    rfl

theorem State.settleSmoke_cause (s : State) : s.settleSmoke.recircCauseNow =
    (smokeHighOf s.params (s.reading .intakeSmoke) s.air.smokeHigh || s.intakeSmokeLost || !(smokingPeers s).isEmpty ||
      decide (s.air.mode = .recirculate)) := by
  have reads := s.settleSmoke_reads
  rw [State.recircCauseNow, State.smokeCause, reads.intakeSmokeLost, reads.smokingPeers, s.settleSmoke_air]

theorem State.joinsPurge_eq (s : State) : s.joinsPurge =
    ((purgingPeers s).any (fun n => decide (n ∉ s.air.purgeSeen)) && !s.intakeSmokeLost && !s.outsideWorse) := by
  have new : (!(newPurges s).isEmpty) = (purgingPeers s).any fun n => decide (n ∉ s.air.purgeSeen) := by
    rw [newPurges, Bool.eq_iff_iff]
    simp
  rw [State.joinsPurge, new]

/-- The air expiry at which the clearing hold completes takes the source machine from Recirculate to Fresh (R72). -/
theorem State.sourceTests_of_completing {s : State} (on : s.air.mode ≠ .off) (source : s.air.source = .recirculate)
    (entry : s.purgeEntry = false) (cause : s.recircCauseNow = false) (held : s.air.clearingHold = 7) :
    s.sourceTests = s.air.goTo .fresh := by
  unfold State.sourceTests
  rw [if_neg on]
  simp only [source, entry, cause, AirUnit.settleClearing, held, Bool.false_eq_true, if_false]
  rfl

theorem State.clearingCompletes_iff {s : State} : s.clearingCompletes = true ↔
    s.air.mode ≠ .off ∧ s.air.source = .recirculate ∧ s.purgeEntry = false ∧ s.settleSmoke.recircCauseNow = false ∧
    s.air.clearingHold = 7 := by
  have air := s.settleSmoke_air
  have entry : s.settleSmoke.purgeEntry = s.purgeEntry := s.settleSmoke_reads.purgeEntry (by rw [air]) (by rw [air])
  rw [State.clearingCompletes, entry, air]
  simp [and_assoc]

/-- Settles O35: the views, the source machine by its tests, and the clearing hold. -/
theorem sourceAtAirExpiry : Obligations.SourceAtAirExpiry := by
  refine ⟨fun s n => ?_, fun s => ?_⟩
  · simp only [purgingPeers, smokingPeers, PeerTable.mem_select]
    cases s.peers[n] with
    | own => simp
    | empty => simp
    | entry e => simp [and_assoc]
  intro intake cab smoke lost cause byCause outsideWorse ownCause joins entry clear lead ownClear exits
  have smokes : smokeHighOf s.params (s.reading .intakeSmoke) s.air.smokeHigh = smoke := by
    simp only [smoke, intake]
    cases s.reading .intakeSmoke with
    | none => rfl
    | some v => exact smokeHighOf_some _ _ _
  have worse : s.outsideWorse = outsideWorse := by
    unfold State.outsideWorse
    simp only [outsideWorse, intake, cab]
    cases s.reading .intakeSmoke with
    | none => rfl
    | some i => cases s.reading .cabSmoke <;> rfl
  have owns : s.ownPurgeCause = ownCause := by
    unfold State.ownPurgeCause
    simp only [ownCause, intake, cab]
    cases s.reading .intakeSmoke with
    | none => rfl
    | some i => cases s.reading .cabSmoke <;> rfl
  have causes : s.settleSmoke.recircCauseNow = cause := by rw [s.settleSmoke_cause, smokes]; rfl
  have enters : s.purgeEntry = entry := by rw [State.purgeEntry, owns, s.joinsPurge_eq, worse]; rfl
  have clears : s.ownClearNow = ownClear := rfl
  have leaves : s.exitsNow = exits := by rw [State.exitsNow, worse, clears]; rfl
  obtain ⟨enters', causes', leads', clears', leaves'⟩ := s.judged_tests
  have found := s.judged_air
  refine ⟨fun inv running => ?_, fun running timer on source unentered uncaused held => ?_⟩
  · obtain ⟨-, -, -, -, -, -, -, -, -, runs, -⟩ := inv.source
    have timer : s.air.timer.isRunning = true := runs running
    refine ⟨_, exec_airExpiry running timer, ?_⟩
    obtain ⟨kept, condition⟩ := State.airWork_source running
    have moved := (State.sourceTests_moved (State.judged_sourceLaws running inv.source)).kept kept
    rw [s.judged.sourceTests_leaves, found] at kept
    generalize s.airWork.finish s = t at *
    refine ⟨by rw [kept], by rw [kept]; exact smokes, by rw [condition, found]; exact smokes, by rw [kept], by
      rw [kept]; exact causes'.trans causes, ?_, ?_, ?_, ?_, moved.left, moved.unboosted, ?_, ?_⟩
    · have next := moved.source
      rw [State.sourceNow, causes', causes, enters', enters, leaves', leaves, found] at next
      exact next.trans (by cases s.air.source <;> rfl)
    · rw [moved.clearingHold, causes', causes, found]
    · have entered := moved.entered
      rw [found, s.judged_reads.purgingPeers] at entered
      exact entered
    · have stayed := moved.stayed
      rw [found, leads', clears'] at stayed
      exact stayed
    · have boosted := moved.boosted
      rw [found] at boosted
      exact boosted
    · rw [moved.lockout, found]
  · have completes : s.clearingCompletes = true :=
      State.clearingCompletes_iff.2 ⟨on, source, enters.trans unentered, causes.trans uncaused, held⟩
    have fresh : s.judged.sourceTests = s.judged.air.goTo .fresh :=
      State.sourceTests_of_completing (by rw [found]; exact on) (by rw [found]; exact source)
        (enters'.trans (enters.trans unentered)) (causes'.trans (causes.trans uncaused)) (by rw [found]; exact held)
    obtain ⟨kept, -⟩ := State.airWork_source running
    have settled := State.airWork_settled running
    rw [fresh] at kept
    have opened : (s.airWork.finish s).air.source = .fresh := by rw [kept]; rfl
    refine ⟨s.airWork.finish s, by rw [exec, execClearingHoldComplete, if_pos ⟨running, timer, completes⟩], opened, by
      rw [kept]; rfl, exec_airExpiry running timer, ?_⟩
    rw [settled.freshTarget, freshTargetOf, running, settled.overrides, opened, if_neg (by decide)]
    rfl

end Sys2Proof.Machine
end

section
/-! The share computation and the share expiry: a class divided, the grant within the allowance, and the take register at an expiry
with Isolated clear and set (R36 to R46, R50 to R61, R64). -/

namespace Sys2Proof.Machine

/-! ### A class divided -/

theorem serveClass_of_divided {stage pool : Nat} {cs : List Claim} (h : pool < classTotal stage cs) :
    serveClass stage pool cs = (cs.map fun c => ⟨c.node, counted stage c * pool / classTotal stage cs⟩, 0) := by
  simp [serveClass, Nat.ne_of_gt (Nat.zero_lt_of_lt h), Nat.not_le.2 h]

/-- Shares rounded down one by one come to at most the share of the whole. -/
theorem sum_shares_le (f : Claim → Nat) (pool total : Nat) : ∀ cs : List Claim,
    (cs.map fun c => f c * pool / total).sum ≤ (cs.map f).sum * pool / total
  | [] => by simp
  | c :: cs => by
    simp only [List.map_cons, List.sum_cons, Nat.add_mul]
    exact (Nat.add_le_add_left (sum_shares_le f pool total cs) _).trans Nat.div_add_div_le_add_div

theorem counted_le_request (stage : Nat) (c : Claim) : counted stage c ≤ c.request := by
  unfold counted
  split <;> omega

/-- A class served gives each of its claims a share within its request, and the shares come with the pool left to at most the pool
found (R40 to R42). -/
theorem serveClass_shares (stage pool : Nat) (cs : List Claim) : ∃ share : Claim → Nat,
    (serveClass stage pool cs).1 = (cs.map fun c => ⟨c.node, share c⟩) ∧ (∀ c ∈ cs, share c ≤ c.request) ∧
    (cs.map share).sum + (serveClass stage pool cs).2 ≤ pool := by
  by_cases zero : classTotal stage cs = 0
  · rw [serveClass_of_zero zero]
    exact ⟨fun _ => 0, rfl, fun _ _ => Nat.zero_le _, by simp⟩
  by_cases whole : classTotal stage cs ≤ pool
  · rw [serveClass_of_whole (Nat.pos_of_ne_zero zero) whole]
    exact ⟨counted stage, rfl, fun c _ => counted_le_request stage c, (Nat.add_sub_of_le whole).le⟩
  · have exceeds := Nat.not_le.1 whole
    rw [serveClass_of_divided exceeds]
    refine ⟨fun c => counted stage c * pool / classTotal stage cs, rfl, fun c _ => ?_, ?_⟩
    · refine le_trans (Nat.div_le_of_le_mul ?_) (counted_le_request stage c)
      rw [Nat.mul_comm]
      exact Nat.mul_le_mul_right _ exceeds.le
    · calc (cs.map fun c => counted stage c * pool / classTotal stage cs).sum
          ≤ classTotal stage cs * pool / classTotal stage cs := sum_shares_le _ _ _ cs
        _ = pool := Nat.mul_div_cancel_left pool (Nat.pos_of_ne_zero zero)

theorem serveClass_sum_le (stage pool : Nat) (cs : List Claim) :
    ((serveClass stage pool cs).1.map Allotment.amount).sum + (serveClass stage pool cs).2 ≤ pool := by
  obtain ⟨share, served, -, total⟩ := serveClass_shares stage pool cs
  rw [served, List.map_map]
  exact total

/-- All classes together are allotted at most the pool (R40 to R42). -/
theorem divide_sum_le (stage : Nat) (claims : List Claim) : ∀ (ks : List ZoneClass) (pool : Nat),
    ((divide stage claims ks pool).map Allotment.amount).sum ≤ pool
  | [], _ => Nat.zero_le _
  | k :: ks, pool => by
    rw [divide, List.map_append, List.sum_append]
    exact (Nat.add_le_add_left (divide_sum_le stage claims ks _) _).trans (serveClass_sum_le stage pool _)

/-- An amount is at most a bound on the sum of all. -/
theorem Allotment.amount_le_of_sum {as : List Allotment} {most : Nat} (h : (as.map Allotment.amount).sum ≤ most) {a : Allotment}
    (mem : a ∈ as) : a.amount ≤ most :=
  (List.le_sum_of_mem (List.mem_map_of_mem mem)).trans h

/-- Settles O31: the shares come to at most the pool, and an empty pool leaves nothing for the later classes. -/
theorem classDivided : Obligations.ClassDivided := by
  intro stage pool cs exceeds
  have total := (Nat.le_add_right _ _).trans (serveClass_sum_le stage pool cs)
  refine ⟨serveClass_of_divided exceeds, fun c _ zero => by rw [zero, Nat.zero_mul, Nat.zero_div], fun c mem => ?_, total,
    fun all ks a mem => Nat.le_zero.1 (Allotment.amount_le_of_sum (divide_sum_le stage all ks 0) mem)⟩
  refine Allotment.amount_le_of_sum (a := ⟨c.node, counted stage c * pool / classTotal stage cs⟩) total ?_
  rw [serveClass_of_divided exceeds]
  exact List.mem_map_of_mem mem

/-! ### The own grant -/

/-- Every allotment is some claim's, within its request (R40 to R42). -/
theorem divide_claimed {stage : Nat} {claims : List Claim} {a : Allotment} : ∀ {ks : List ZoneClass} {pool : Nat},
    a ∈ divide stage claims ks pool → ∃ c ∈ claims, c.node = a.node ∧ a.amount ≤ c.request
  | [], _, h => absurd h List.not_mem_nil
  | k :: ks, pool, h => by
    rcases List.mem_append.1 h with served | later
    · obtain ⟨share, eq, least, -⟩ := serveClass_shares stage pool (claims.filter fun c => decide (c.cls = k))
      rw [eq] at served
      obtain ⟨c, mem, rfl⟩ := List.mem_map.1 served
      exact ⟨c, List.mem_of_mem_filter mem, rfl, least c mem⟩
    · exact divide_claimed later

/-- Every claim of a class in the order is allotted something, be it 0 (R40). -/
theorem divide_allots {stage : Nat} {claims : List Claim} {c : Claim} (claimed : c ∈ claims) :
    ∀ {ks : List ZoneClass} {pool : Nat}, c.cls ∈ ks → ∃ a ∈ divide stage claims ks pool, a.node = c.node
  | [], _, h => absurd h List.not_mem_nil
  | k :: ks, pool, h => by
    rcases List.mem_cons.1 h with own | later
    · obtain ⟨share, eq, -⟩ := serveClass_shares stage pool (claims.filter fun c => decide (c.cls = k))
      refine ⟨⟨c.node, share c⟩, List.mem_append_left _ ?_, rfl⟩
      have mem : c ∈ claims.filter fun c => decide (c.cls = k) := List.mem_filter.2 ⟨claimed, decide_eq_true own⟩
      rw [eq]
      exact List.mem_map_of_mem mem
    · obtain ⟨a, mem, node⟩ := divide_allots claimed (pool := (serveClass stage pool _).2) later
      exact ⟨a, List.mem_append_right _ mem, node⟩

/-- What a node with an allotment is allotted is one of the allotments. -/
theorem allottedTo_mem {n : Node} : ∀ {as : List Allotment},
    (∃ a ∈ as, a.node = n) → (⟨n, allottedTo n as⟩ : Allotment) ∈ as
  | [], h => by simp at h
  | a :: as, h => by
    rw [allottedTo]
    split
    next own => subst own; exact List.mem_cons_self
    next other =>
      obtain ⟨b, mem, node⟩ := h
      have later : b ∈ as := (List.mem_cons.1 mem).resolve_left (by rintro rfl; exact other node)
      exact List.mem_cons_of_mem a (allottedTo_mem ⟨b, later, node⟩)

/-- The own slot claims for the Air Unit (R27). -/
theorem State.peersInRange.claimOf_own {s : State} (h : s.peersInRange) :
    claimOf s s.node.own = some ⟨s.node.own, s.air.cls, s.air.request⟩ := by
  simp only [claimOf, h.slot_own]

/-- The grant is the own claim's allotment (R44). -/
theorem sharedGrant_mem {s : State} (peers : s.peersInRange) : (⟨s.node.own, sharedGrant s⟩ : Allotment) ∈ allotments s := by
  have order (k : ZoneClass) : k ∈ classOrder := by cases k <;> decide
  have claimed : ⟨s.node.own, s.air.cls, s.air.request⟩ ∈ claimsList s := mem_claimsList_iff.2 peers.claimOf_own
  exact allottedTo_mem (divide_allots claimed (order _))

theorem sharedGrant_le_request {s : State} (peers : s.peersInRange) : sharedGrant s ≤ s.air.request := by
  obtain ⟨c, claimed, node, least⟩ := divide_claimed (sharedGrant_mem peers)
  have claim := mem_claimsList_iff.1 claimed
  rw [node, peers.claimOf_own] at claim
  cases claim
  exact least

/-- The pool is what the reserve leaves of the allowance (R39). -/
theorem poolOf_eq (w h : Nat) : poolOf w h = w - h := by
  unfold poolOf
  split <;> omega

theorem allotments_sum_le (s : State) : ((allotments s).map Allotment.amount).sum ≤ allowanceInUse s - reserve s := by
  rw [← poolOf_eq]
  exact divide_sum_le _ _ _ _

/-! ### The share expiry -/

/-- A Demand that waits is replaced by the present one where the event changed the content (R8 case 4). -/
theorem State.finish_demandSlot_of_waiting {s u : State} (steady : u.node.state ≠ .parking) (speaks : u.node.state.speaks = true)
    (waits : u.line.demandSlot.isSome = true) (hearing : u.line.listenOnly = false)
    (changed : demandContent (u.finish s) ≠ demandContent s) :
    (u.finish s).line.demandSlot = some (demandContent (u.finish s)) := by
  rw [State.finish_of_steady fun h => absurd h steady] at changed ⊢
  have content : demandContent u ≠ demandContent s := by simpa using changed
  have handed : u.settleDemand (demandContent s) = u.handDemand := by simp [State.settleDemand, speaks, content, waits]
  simp [handed, State.handDemand_line, hearing]

/-- A share expiry: the Share Unit's expiry with the new grant, a replan at a fall of the take, and the Demand timing
(R8, R36, R50, R64). -/
theorem exec_shareExpiry {s : State} (running : s.node.state = .running) (timer : s.share.timer.isRunning = true) :
    ∃ t, exec .shareExpiry s = .next t ∧
    t.share = s.share.expiry s.params s.line.isolated s.line.lineOn (grantOf s) ∧
    s.replannedOnFall t ∧ s.line.sameOutsideSlots t.line ∧
    (s.line.demandSlot.isSome = true → s.line.listenOnly = false → demandContent t ≠ demandContent s →
      t.line.demandSlot = some (demandContent t)) ∧
    s.sameExcept [.share, .line, .air, .drive, .cond] t := by
  set f := ShareUnit.expiry s.params s.line.isolated s.line.lineOn (grantOf s) with hf
  set u := s.changeTake f with hu
  have run : exec .shareExpiry s = .next (u.finish s) := by simp [exec, execShareExpiry, running, timer, hu, hf]
  have still : u.node.state = .running := by simpa [hu] using running
  have awake : u.node.state ≠ .parking := by rw [still]; decide
  obtain ⟨blocks, same⟩ := State.finish_steady_frame (s := u) (b := s) fun h => absurd h awake
  have after := State.finish_drivesAs (u := u) (s := s) fun h => absurd h awake
  have unmarked : u.line.unmarked = s.line.unmarked := State.changeTake_unmarked f s
  have line := LineInterface.eq_of_unmarked unmarked
  refine ⟨_, run, ?_, State.replannedOnFall_congr (s.changeTake_replanned f) (State.DrivesAs.refl s) rfl rfl rfl after.symm,
    LineInterface.sameOutsideSlots_trans (LineInterface.sameOutsideSlots_of_unmarked unmarked) same,
    fun waits hearing changed => ?_, State.sameExcept_trans (u := u) (by simp [State.sameExcept, hu]) blocks (by simp)⟩
  · rw [(State.finish_frame s u).2.1, hu, State.changeTake_share]
  · exact State.finish_demandSlot_of_waiting awake (by rw [still]; rfl) (by rw [line]; exact waits) (by rw [line]; exact hearing)
      changed

/-- Settles O32: the grant is the own claim's allotment, and the allotments come to at most the pool. -/
theorem grantWithinAllowance : Obligations.GrantWithinAllowance := by
  intro s peers
  have total := allotments_sum_le s
  refine ⟨sharedGrant_le_request peers, total, fun exhausted => by omega, fun covers => by omega, sharedGrant_mem peers,
    fun running timer clear => ?_⟩
  obtain ⟨t, run, share, -⟩ := exec_shareExpiry running timer
  refine ⟨t, run, ?_⟩
  rw [share, ShareUnit.expiry, clear, if_neg Bool.false_ne_true, (ShareUnit.sharedTake_frame _ _ _).1, grantOf, clear,
    if_neg Bool.false_ne_true]

/-! ### The register at a shared expiry -/

/-- The register's own values: T, A and its state (Table 4-1). -/
def ShareUnit.register (u : ShareUnit) : Nat × Nat × TakeState := (u.applied, u.announced, u.state)

/-- A raise is begun where the grant is above T and the line is On (R55). -/
theorem ShareUnit.beginRaise_register (step : Nat) (lineOn : Bool) (u : ShareUnit) : (u.beginRaise step lineOn).register =
    if u.applied < u.grant ∧ lineOn = true then (u.applied, min u.grant (u.applied + step), .announcing)
    else (u.applied, u.applied, .steady) := by
  unfold ShareUnit.beginRaise
  simp only [Bool.and_eq_true, decide_eq_true_eq]
  split <;> rfl

/-- A raise under way is given up, cut back, extended or kept (R54, R57, R60). -/
theorem ShareUnit.reviseRaise_register (step : Nat) (lineOn : Bool) {u : ShareUnit} (announcing : u.state = .announcing) :
    (u.reviseRaise step lineOn).register =
      if u.grant = u.applied then (u.applied, u.applied, .steady)
      else if u.grant < u.announced then (u.applied, u.grant, .announcing)
      else if u.announced < u.grant ∧ lineOn = true then (u.applied, min u.grant (u.applied + step), .announcing)
      else (u.applied, u.announced, .announcing) := by
  unfold ShareUnit.reviseRaise
  simp only [Bool.and_eq_true, decide_eq_true_eq]
  (repeat' split) <;> simp [ShareUnit.register, ShareUnit.steadyAt, announcing]

/-- A grant below T cuts the take (R53); any other is acted on by the register's state (R54, R55, R57, R58). -/
theorem ShareUnit.sharedTake_cases (step : Nat) (lineOn : Bool) (u : ShareUnit) :
    (u.grant < u.applied → u.sharedTake step lineOn = u.steadyAt u.grant) ∧
    (u.applied ≤ u.grant → u.state = .steady → u.sharedTake step lineOn = u.beginRaise step lineOn) ∧
    (u.applied ≤ u.grant → u.state = .announcing → u.sharedTake step lineOn = u.reviseRaise step lineOn) ∧
    (u.applied ≤ u.grant → u.state = .announced →
      u.sharedTake step lineOn = ({ u with applied := min u.announced u.grant } : ShareUnit).beginRaise step lineOn) := by
  have uncut (h : u.applied ≤ u.grant) : ¬u.grant < u.applied := Nat.not_lt.2 h
  exact ⟨fun cut => if_pos cut,
    fun granted state => by rw [ShareUnit.sharedTake, if_neg (uncut granted), state],
    fun granted state => by rw [ShareUnit.sharedTake, if_neg (uncut granted), state],
    fun granted state => by rw [ShareUnit.sharedTake, if_neg (uncut granted), state]⟩

/-- Settles O33: the rules of Table 4-1 on the register with the new grant in place. -/
theorem sharedExpiryTakes : Obligations.SharedExpiryTakes := by
  intro s running timer clear g T A raise
  obtain ⟨t, run, share, replanned, same, demand, blocks⟩ := exec_shareExpiry running timer
  set u : ShareUnit := { s.share with grant := g, timer := .running 0 } with hu
  have taken : t.share = u.sharedTake s.params.raiseStep s.line.lineOn := by
    rw [share, ShareUnit.expiry, grantOf, clear]
    rfl
  obtain ⟨grant, restarted, completed⟩ := u.sharedTake_frame s.params.raiseStep s.line.lineOn
  obtain ⟨cut, steady, announcing, announced⟩ := u.sharedTake_cases s.params.raiseStep s.line.lineOn
  refine ⟨t, run, by rw [taken, grant], by rw [taken, restarted], by rw [taken, completed], fun below => ?_,
    fun granted state => ?_, fun granted state => ?_, fun granted state => ?_, replanned, same, demand, blocks⟩
  · rw [taken, cut below]
    rfl
  · rw [taken, steady granted state]
    exact ShareUnit.beginRaise_register _ _ u
  · rw [taken, announcing granted state]
    exact ShareUnit.reviseRaise_register _ _ state
  · rw [taken, announced granted state]
    exact ShareUnit.beginRaise_register _ _ _

/-- Settles O34: the isolated grant taken at once, whatever the register held. -/
theorem isolatedExpiryTakes : Obligations.IsolatedExpiryTakes := by
  intro s running timer isolated
  obtain ⟨t, run, share, replanned, same, -, blocks⟩ := exec_shareExpiry running timer
  refine ⟨t, run, ?_, replanned, same, blocks⟩
  rw [share, ShareUnit.expiry, grantOf, isolated]
  rfl

end Sys2Proof.Machine
end

section
/-! The laws of the outputs (R99, R118 to R124, R129, R131, R133): those of each channel, those that hold it to the plan in force, and
those of the damper drives; and what each act of an actuator makes of its drive. -/

namespace Sys2Proof.Machine

/-! ### The laws -/

/-- What a damper's drive rests on: it is stopped under a plan that holds the dampers, and runs in Homing and in Moving alone (R131,
R133). -/
structure Actuator.DrivenUnder (held : Bool) (a : Actuator) : Prop where
  stopped : held = true → a.drive = none
  driven : a.drive.isSome = true → a.state = .homing ∨ a.state = .moving

/-- The blower by itself: fitted, its generator low after a trip, its figure 0 exactly while it is not driven and otherwise at MinDuty
or above (R118, R120, R121, R124). -/
structure DriveUnit.BlowerStands (p : Params) (d : DriveUnit) : Prop where
  phase : d.pwm.phase < 1000
  fitted : d.blower.state ≠ .disabled
  low : d.blower.state.afterTrip = true → d.pwm.figure = 0
  off : d.blower.driving = false → d.duty = 0
  on : d.blower.driving = true → p.minDuty ≤ d.duty

/-- The heater group by itself: Running exactly while a stage is on, and Disabled exactly without stages fitted (R118, R122). -/
structure DriveUnit.HeaterStands (p : Params) (d : DriveUnit) : Prop where
  on : 0 < d.stages ↔ d.heater.state = .running
  fitted : d.heater.state = .disabled ↔ p.stagesFitted = 0
  steady : d.heater.state ≠ .starting

/-- The clutch by itself: Disabled exactly without the HOLD strap (R118, R153). -/
structure DriveUnit.ClutchStands (hold : Bool) (d : DriveUnit) : Prop where
  fitted : d.clutch.state = .disabled ↔ hold = false
  steady : d.clutch.state ≠ .starting

/-- The stages are those the interlock permits of the plan in force (R122). -/
structure DriveUnit.StagesSettled (p : Params) (d : DriveUnit) : Prop where
  within : d.stages ≤ d.plan.stages
  permitted : 0 < d.stages → d.blower.driving = true ∧ p.minDuty ≤ d.duty
  off : d.heater.state = .off → d.blower.driving = false ∨ d.duty < p.minDuty ∨ d.plan.stages = 0

/-- A plan drives the blower at MinDuty or above, or not at all (R98). -/
abbrev Plan.atLeast (p : Params) (q : Plan) : Prop := 0 < q.duty → p.minDuty ≤ q.duty

/-- Each channel by itself, whatever plan is in force. -/
structure DriveUnit.ChannelsStand (p : Params) (hold : Bool) (d : DriveUnit) : Prop where
  blower : d.BlowerStands p
  heater : d.HeaterStands p
  clutch : d.ClutchStands hold

/-- The blower and the clutch within a plan in force that drives the blower at MinDuty or above (R121, R123). -/
structure DriveUnit.ChannelsFollow (p : Params) (d : DriveUnit) : Prop where
  least : d.plan.atLeast p
  duty : d.duty ≤ d.plan.duty
  clutch : d.clutch.state = .running → d.plan.clutch = true

/-- The channels stand, the blower and the clutch within the plan, and the stages settled. -/
structure DriveUnit.ChannelsSound (p : Params) (hold : Bool) (d : DriveUnit) : Prop where
  stand : d.ChannelsStand p hold
  follow : d.ChannelsFollow p
  stages : d.StagesSettled p

/-- The laws of the Drive Unit under its plan in force. -/
structure DriveUnit.Sound (p : Params) (hold : Bool) (d : DriveUnit) : Prop extends d.ChannelsSound p hold where
  dampers : ∀ x : Damper, (d.actuator x).DrivenUnder d.plan.held

/-- The plan drives no output (R100, R129). -/
abbrev Plan.off (q : Plan) : Prop := q.clutch = false ∧ q.duty = 0 ∧ q.stages = 0

/-- The laws of the outputs with what they rest on in the other blocks: the configuration's ranges, the estimated current of the plan
within the applied take, and no take, no wanted duty and no output planned outside Running (R65, R99, R101). -/
structure State.OutputsSound (s : State) : Prop where
  params : s.params.inRange
  drive : s.drive.Sound s.params s.node.hold
  current : s.drive.plan.current s.params ≤ s.share.applied
  wanted : 0 < s.air.wantedDuty → s.params.minDuty ≤ s.air.wantedDuty
  rests : s.node.state ≠ .running → s.share.applied = 0 ∧ s.air.wantedDuty = 0 ∧ s.drive.plan.off

/-- The laws of the outputs and the invariant's clauses of them. -/
theorem State.Inv.outputsSound {s : State} (h : s.Inv) : s.OutputsSound := by
  obtain ⟨on, permitted, off⟩ := h.heater
  obtain ⟨duty, stages, clutch, held, -, undriven, driven, least, wanted, noWant, dampers⟩ := h.plan
  obtain ⟨current, planOff⟩ := h.current
  obtain ⟨phase, low, fitted, heater, clutchFitted, heaterSteady, clutchSteady⟩ := h.outputs
  refine ⟨h.params, ⟨⟨⟨⟨phase, fitted, low, undriven, driven⟩, ⟨on, heater, heaterSteady⟩, ⟨clutchFitted, clutchSteady⟩⟩,
    ⟨least, duty, clutch⟩, ⟨stages, permitted, off⟩⟩, fun x => ⟨fun hold => ?_, dampers x⟩⟩, current, wanted, fun rests => ?_⟩
  · obtain ⟨fresh, blend⟩ := held hold
    cases x with
    | fresh => exact fresh
    | blend => exact blend
  · obtain ⟨-, applied, -⟩ := h.take.resting rests
    exact ⟨applied, noWant rests, planOff rests⟩

theorem State.OutputsSound.withinTake {s : State} (h : s.OutputsSound) : s.withinTake :=
  ⟨h.current, fun rests => (h.rests rests).2.2⟩

theorem State.OutputsSound.withinPlan {s : State} (h : s.OutputsSound) : s.withinPlan := by
  obtain ⟨⟨⟨⟨-, -, -, off, on⟩, -, -⟩, ⟨least, duty, clutch⟩, stages⟩, dampers⟩ := h.drive
  refine ⟨duty, stages.within, clutch, fun held => ⟨(dampers .fresh).stopped held, (dampers .blend).stopped held⟩, fun some => ?_, off,
    on, least, h.wanted, fun rests => (h.rests rests).2.1, fun x => (dampers x).driven⟩
  cases driving : s.drive.blower.driving with
  | true => exact on driving
  | false => rw [off driving] at some; exact absurd some (Nat.lt_irrefl 0)

theorem State.OutputsSound.heaterSafe {s : State} (h : s.OutputsSound) : s.heaterSafe :=
  ⟨h.drive.stand.heater.on, h.drive.stages.permitted, h.drive.stages.off⟩

theorem State.OutputsSound.outputLaws {s : State} (h : s.OutputsSound) : s.outputLaws := by
  obtain ⟨⟨phase, fitted, low, -, -⟩, heater, clutch⟩ := h.drive.stand
  exact ⟨phase, low, fitted, heater.fitted, clutch.fitted, heater.steady, clutch.steady⟩

/-- The output pins are computed from what is driven (R118, R120, R122 to R124, R131). -/
theorem State.OutputsSound.pinsDriven {s : State} (h : s.OutputsSound) : s.pinsDriven := by
  obtain ⟨phase, -, low, -, -⟩ := h.drive.stand.blower
  have share : s.blwPwm = true ↔ s.drive.pwm.phase < 10 * s.drive.pwm.figure := decide_eq_true_iff
  have lowAt (zero : s.drive.pwm.figure = 0) : s.blwPwm = false := by
    rw [Bool.eq_false_iff, ne_eq, share, zero]
    omega
  refine ⟨⟨by rw [share]; omega, lowAt, fun full => by rw [share]; omega, fun trip => lowAt (low trip)⟩, fun k => ?_, ?_,
    fun x => ⟨Iff.rfl, fun runs => ⟨Bool.eq_false_iff.2 fun held => ?_, rfl⟩⟩⟩
  · have stage : s.htr k = true ↔ k ≤ s.drive.stages := decide_eq_true_iff
    refine ⟨stage, fun first on => ?_⟩
    have some : 0 < s.drive.stages := Nat.lt_of_lt_of_le first (stage.1 on)
    exact ⟨h.drive.stand.heater.on.1 some, h.drive.stages.permitted some⟩
  · have disabled := h.drive.stand.clutch.fitted
    unfold State.cluOut State.clutchDriven
    cases hold : s.node.hold with
    | false => simp [disabled.2 hold]
    | true => simp [mt disabled.1 (by simp [hold])]
  · have drive : (s.drive.actuator x).drive.isSome = true := runs
    rw [(h.drive.dampers x).stopped held] at drive
    exact absurd drive (by decide)

/-! ### The damper drives -/

theorem Actuator.DrivenUnder.of_stopped {held : Bool} {a : Actuator} (h : a.drive = none) : a.DrivenUnder held :=
  ⟨fun _ => h, fun some => by rw [h] at some; exact absurd some (by decide)⟩

/-- Outside Homing and Moving the drive is stopped. -/
theorem Actuator.DrivenUnder.idle {held : Bool} {a : Actuator} (h : a.DrivenUnder held) (homing : a.state ≠ .homing)
    (moving : a.state ≠ .moving) : a.drive = none :=
  Option.not_isSome_iff_eq_none.1 fun some => (h.driven some).elim homing moving

theorem Actuator.stopDrive_drive (a : Actuator) : a.stopDrive.drive = none := by
  unfold Actuator.stopDrive
  split
  · rfl
  next h => exact Option.not_isSome_iff_eq_none.1 h

theorem Actuator.enterHoming_drivenUnder (a : Actuator) : a.enterHoming.DrivenUnder false :=
  ⟨fun h => absurd h (by decide), fun _ => .inl rfl⟩

/-- A start test starts the drive in Moving alone, and under no plan that holds the dampers (R135). -/
theorem Actuator.startTest_drivenUnder {held : Bool} (asleep : Bool) {a : Actuator} (h : a.drive = none) :
    (a.startTest held asleep).DrivenUnder held := by
  unfold Actuator.startTest
  split
  · exact .of_stopped h
  · split
    · exact .of_stopped h
    next free =>
      split
      · exact .of_stopped h
      · exact ⟨fun held => absurd held free, fun _ => .inr rfl⟩

theorem Actuator.completedMove_drivenUnder {held : Bool} (asleep : Bool) {a : Actuator} (h : a.drive = none) :
    (a.completedMove held asleep).act.DrivenUnder held :=
  Actuator.startTest_drivenUnder asleep h

theorem Actuator.idleAndTest_drivenUnder {held : Bool} (asleep : Bool) {a : Actuator} (h : a.drive = none) :
    (a.idleAndTest held asleep).act.DrivenUnder held := by
  unfold Actuator.idleAndTest
  split
  · exact Actuator.completedMove_drivenUnder asleep h
  · exact Actuator.startTest_drivenUnder asleep h

theorem Actuator.homed_drivenUnder {held : Bool} (asleep : Bool) (a : Actuator) : (a.homed held asleep).act.DrivenUnder held :=
  Actuator.completedMove_drivenUnder asleep a.stopDrive_drive

/-- A handed target starts no drive but by a start test (R131, R135, R136). -/
theorem Actuator.handTarget_drivenUnder {held : Bool} (travel : Nat) (asleep : Bool) (target : Nat) {a : Actuator}
    (h : a.DrivenUnder held) : (a.handTarget travel held asleep target).act.DrivenUnder held := by
  have kept : ({ a with target := target * travel / 1000 } : Actuator).DrivenUnder held := ⟨h.stopped, h.driven⟩
  unfold Actuator.handTarget
  dsimp only
  split
  · exact h
  · split
    case h_1 idle =>
      exact Actuator.startTest_drivenUnder asleep (h.idle (fun e => by simp_all) (fun e => by simp_all))
    case h_2 =>
      split
      · exact Actuator.completedMove_drivenUnder asleep (Actuator.stopDrive_drive _)
      · split
        · exact kept
        · exact .of_stopped (Actuator.stopDrive_drive _)
    all_goals exact kept

theorem Actuator.moved_drive (travel : Nat) (d : Direction) (a : Actuator) :
    (a.moved travel d).drive = a.drive ∧ (a.moved travel d).state = a.state := by
  cases d <;> exact ⟨rfl, rfl⟩

/-- A hall edge stops the drive or leaves it running, and a coasting one finds it stopped (R132, R135). -/
theorem Actuator.edge_drivenUnder {held : Bool} (travel : Nat) (asleep : Bool) {a : Actuator} (h : a.DrivenUnder held) :
    (a.edge travel held asleep).act.DrivenUnder held := by
  have kept (d : Direction) : (a.moved travel d).DrivenUnder held := by
    obtain ⟨drive, state⟩ := a.moved_drive travel d
    exact ⟨drive ▸ h.stopped, by rw [drive, state]; exact h.driven⟩
  unfold Actuator.edge
  split
  next d _ =>
    dsimp only
    split
    · exact Actuator.completedMove_drivenUnder asleep (Actuator.stopDrive_drive _)
    · exact ⟨(kept d).stopped, (kept d).driven⟩
  next stopped =>
    split
    · dsimp only
      split
      · exact Actuator.startTest_drivenUnder asleep ((a.moved_drive travel _).1.trans stopped)
      · exact kept _
    · exact h

/-- The dampers-held part of a plan, whatever plan was in force before (R133, R134). -/
theorem Actuator.takePlan_drivenUnder {before : Bool} (held asleep : Bool) {a : Actuator} (h : a.DrivenUnder before) :
    (a.takePlan held asleep).act.DrivenUnder held := by
  have stopped (r : Resume) : (a.hold r).DrivenUnder held := .of_stopped a.stopDrive_drive
  cases held with
  | true =>
    simp only [Actuator.takePlan, if_true]
    cases state : a.state with
    | homing => exact stopped .homing
    | moving => exact stopped .moving
    | reversing => exact stopped .reversing
    | idle =>
      dsimp only
      split
      · exact .of_stopped (h.idle (by simp [state]) (by simp [state]))
      · exact stopped .idle
    | _ => exact .of_stopped (h.idle (by simp [state]) (by simp [state]))
  | false =>
    simp only [Actuator.takePlan, Bool.false_eq_true, if_false]
    cases state : a.state with
    | held =>
      have still : a.drive = none := h.idle (by simp [state]) (by simp [state])
      simp only [Actuator.resumed]
      split
      · exact Actuator.enterHoming_drivenUnder _
      · exact .of_stopped still
      all_goals exact Actuator.idleAndTest_drivenUnder asleep still
    | unhomed => exact Actuator.enterHoming_drivenUnder a
    | _ => exact ⟨fun no => absurd no (by decide), h.driven⟩

/-- A stall stops the drive (R134, R137). -/
theorem Actuator.stall_drivenUnder {held : Bool} (travel : Nat) (asleep : Bool) {a : Actuator} (h : a.DrivenUnder held) :
    (a.stall travel held asleep).act.DrivenUnder held := by
  unfold Actuator.stall
  split
  case h_1 => exact a.homed_drivenUnder asleep
  case h_2 =>
    split
    · exact a.homed_drivenUnder asleep
    · split <;> exact .of_stopped a.stopDrive_drive
  all_goals exact h

theorem Actuator.homingExpired_drivenUnder (held : Bool) (a : Actuator) : a.homingExpired.act.DrivenUnder held :=
  .of_stopped a.stopDrive_drive

theorem Actuator.retryExpired_drivenUnder {held : Bool} (asleep : Bool) {a : Actuator} (h : a.drive = none) :
    (a.retryExpired held asleep).act.DrivenUnder held := by
  unfold Actuator.retryExpired
  dsimp only
  split
  · exact .of_stopped h
  · exact Actuator.idleAndTest_drivenUnder asleep h

theorem Actuator.reversalExpired_drivenUnder {held : Bool} (asleep : Bool) {a : Actuator} (h : a.drive = none) :
    (a.reversalExpired held asleep).act.DrivenUnder held :=
  Actuator.idleAndTest_drivenUnder asleep h

/-- A Rehome request homes at once only under a plan that frees the dampers (R139). -/
theorem Actuator.rehome_drivenUnder (held : Bool) (a : Actuator) : (a.rehome held).act.DrivenUnder held := by
  cases held with
  | true => exact .of_stopped a.stopDrive_drive
  | false => exact Actuator.enterHoming_drivenUnder _

theorem Actuator.sleep_drivenUnder (held : Bool) (a : Actuator) : a.sleep.DrivenUnder held := by
  refine .of_stopped ?_
  unfold Actuator.sleep
  dsimp only
  split <;> exact a.stopDrive_drive

end Sys2Proof.Machine
end

section
/-! The laws of the outputs through the taking up of a plan, a trip, and the return of a channel to Off (R119, R121 to R128). -/

namespace Sys2Proof.Machine

/-! ### A channel -/

theorem OutputChannel.trip_afterTrip (asserted : Bool) (c : OutputChannel) : (c.trip asserted).state.afterTrip = true := by
  unfold OutputChannel.trip
  dsimp only
  (repeat' split) <;> rfl

theorem OutputChannel.driving_iff (c : OutputChannel) : c.driving = true ↔ c.state = .starting ∨ c.state = .running := by
  simp [OutputChannel.driving]

/-- A channel that has tripped is in none of the states before a trip. -/
theorem OutputChannel.states_of_afterTrip {c : OutputChannel} (h : c.state.afterTrip = true) :
    c.driving = false ∧ c.state ≠ .disabled ∧ c.state ≠ .off ∧ c.state ≠ .starting ∧ c.state ≠ .running := by
  unfold OutputChannel.driving
  cases state : c.state <;> simp_all [ChannelState.afterTrip]

@[simp] theorem OutputChannel.run_state (c : OutputChannel) : c.run.state = .running := by
  unfold OutputChannel.run
  split <;> simp_all

/-! ### The blower -/

/-- A blower that is not driven, with its figure at 0. -/
theorem DriveUnit.BlowerStands.of_undriven {p : Params} {d : DriveUnit} (phase : d.pwm.phase < 1000) (fitted : d.blower.state ≠ .disabled)
    (low : d.blower.state.afterTrip = true → d.pwm.figure = 0) (undriven : d.blower.driving = false) (duty : d.duty = 0) :
    d.BlowerStands p :=
  ⟨phase, fitted, low, fun _ => duty, fun driving => absurd (undriven.symm.trans driving) (by decide)⟩

/-- A driven blower, with its figure at MinDuty or above. -/
theorem DriveUnit.BlowerStands.of_driven {p : Params} {d : DriveUnit} (phase : d.pwm.phase < 1000)
    (driven : d.blower.state = .starting ∨ d.blower.state = .running) (duty : p.minDuty ≤ d.duty) : d.BlowerStands p := by
  have driving := d.blower.driving_iff.2 driven
  refine ⟨phase, ?_, ?_, fun no => absurd (no.symm.trans driving) (by decide), fun _ => duty⟩
  · rcases driven with h | h <;> simp [h]
  · rcases driven with h | h <;> simp [h, ChannelState.afterTrip]

/-- A trip leaves the blower's figure at 0 and its generator low (R124). -/
theorem DriveUnit.BlowerStands.trip {p : Params} {d : DriveUnit} (h : d.BlowerStands p) (asserted : Bool) :
    ((d.outputOff .blower).setChannel (d.blower.trip asserted) .blower).BlowerStands p := by
  obtain ⟨undriven, fitted, -⟩ := OutputChannel.states_of_afterTrip (d.blower.trip_afterTrip asserted)
  exact .of_undriven h.phase fitted (fun _ => rfl) undriven rfl

/-- The blower takes up the plan in force: it stands, within that plan (R121, R124). -/
theorem State.blowerTakesPlan_stands {s : State} (h : s.drive.BlowerStands s.params) (least : s.drive.plan.atLeast s.params) :
    s.blowerTakesPlan.drive.BlowerStands s.params ∧ s.blowerTakesPlan.drive.duty ≤ s.blowerTakesPlan.drive.plan.duty := by
  have undriven (k : s.drive.blower.driving = false) : s.drive.BlowerStands s.params ∧ s.drive.duty ≤ s.drive.plan.duty :=
    ⟨h, by rw [h.off k]; exact Nat.zero_le _⟩
  have follows (driven : s.drive.blower.state = .starting ∨ s.drive.blower.state = .running) :
      let d := if s.drive.plan.duty = 0 then s.drive.blowerStops else s.drive.blowerFollows
      d.BlowerStands s.params ∧ d.duty ≤ d.plan.duty := by
    have duty := h.on (s.drive.blower.driving_iff.2 driven)
    dsimp only
    split
    · exact ⟨.of_undriven h.phase nofun nofun rfl rfl, Nat.zero_le _⟩
    next some =>
      unfold DriveUnit.blowerFollows
      split
      · exact ⟨.of_driven h.phase (.inr (OutputChannel.run_state _)) (least (Nat.pos_of_ne_zero some)), le_rfl⟩
      next raise => exact ⟨.of_driven h.phase driven duty, Nat.le_of_lt (Nat.not_le.1 raise)⟩
  unfold State.blowerTakesPlan
  cases state : s.drive.blower.state with
  | off =>
    dsimp only
    split
    · exact undriven (by simp [OutputChannel.driving, state])
    next some =>
      have atLeast := least (Nat.pos_of_ne_zero some)
      split
      · rw [State.tripChannel_drive]
        exact ⟨h.trip _, Nat.zero_le _⟩
      · simp only [State.mapDrive_drive, DriveUnit.blowerStarts]
        split
        · exact ⟨.of_driven h.phase (.inr (OutputChannel.run_state _)) le_rfl, atLeast⟩
        · exact ⟨.of_driven h.phase (.inl rfl) le_rfl, atLeast⟩
  | starting => exact follows (.inl state)
  | running => exact follows (.inr state)
  | _ => exact undriven (by simp [OutputChannel.driving, state])

/-! ### The heater group -/

theorem DriveUnit.HeaterStands.stages_eq {p : Params} {d : DriveUnit} (h : d.HeaterStands p) (rests : d.heater.state ≠ .running) :
    d.stages = 0 :=
  Nat.eq_zero_of_not_pos fun some => rests (h.on.1 some)

/-- A heater group that has no stage on and is not in Off stands within any plan. -/
theorem DriveUnit.StagesSettled.of_none {p : Params} {d : DriveUnit} (none : d.stages = 0) (left : d.heater.state ≠ .off) :
    d.StagesSettled p :=
  ⟨none ▸ Nat.zero_le _, fun some => absurd some (by omega), fun off => absurd off left⟩

/-- A trip puts every stage off (R124). -/
theorem DriveUnit.HeaterStands.trip {p : Params} {d : DriveUnit} (h : d.HeaterStands p) (fitted : d.heater.state ≠ .disabled)
    (asserted : Bool) : ((d.outputOff .heater).setChannel (d.heater.trip asserted) .heater).HeaterStands p ∧
      ((d.outputOff .heater).setChannel (d.heater.trip asserted) .heater).StagesSettled p := by
  obtain ⟨-, enabled, left, steady, undriven⟩ := OutputChannel.states_of_afterTrip (d.heater.trip_afterTrip asserted)
  exact ⟨⟨⟨fun some => absurd some (Nat.lt_irrefl 0), fun running => absurd running undriven⟩,
    ⟨fun disabled => absurd disabled enabled, fun none => absurd (h.fitted.2 none) fitted⟩, steady⟩, .of_none rfl left⟩

/-- Where the interlock permits no stage the heater group may rest in Off (R122). -/
theorem State.interlock_refuses {s : State} (none : s.stagesPermitted s = 0) :
    s.drive.blower.driving = false ∨ s.drive.duty < s.params.minDuty ∨ s.drive.plan.stages = 0 := by
  rcases Bool.eq_false_or_eq_true s.drive.blower.driving with driving | rests
  · rcases Nat.lt_or_ge s.drive.duty s.params.minDuty with low | duty
    · exact .inr (.inl low)
    · rw [State.stagesPermitted, if_pos ⟨driving, duty⟩] at none
      exact .inr (.inr none)
  · exact .inl rests

theorem State.interlock_permits {s : State} (some : s.stagesPermitted s ≠ 0) :
    (s.drive.blower.driving = true ∧ s.params.minDuty ≤ s.drive.duty) ∧ s.stagesPermitted s = s.drive.plan.stages := by
  by_cases permits : s.drive.blower.driving = true ∧ s.params.minDuty ≤ s.drive.duty
  · exact ⟨permits, if_pos permits⟩
  · exact absurd (if_neg permits) some

/-- The stages settled stand, and are those the interlock permits of the plan in force (R122, R124). -/
theorem State.settleHeater_stands {s : State} (h : s.drive.HeaterStands s.params) :
    s.settleHeater.drive.HeaterStands s.params ∧ s.settleHeater.drive.StagesSettled s.params := by
  have rests (left : s.drive.heater.state ≠ .running) (left' : s.drive.heater.state ≠ .off) :
      s.drive.HeaterStands s.params ∧ s.drive.StagesSettled s.params := ⟨h, .of_none (h.stages_eq left) left'⟩
  have fitted (enabled : s.drive.heater.state ≠ .disabled) (x : ChannelState) (k : x ≠ .disabled) :
      x = .disabled ↔ s.params.stagesFitted = 0 :=
    ⟨fun disabled => absurd disabled k, fun none => absurd (h.fitted.2 none) enabled⟩
  have driven (some : s.stagesPermitted s ≠ 0) (enabled : s.drive.heater.state ≠ .disabled) (x : OutputChannel)
      (running : x.state = .running) :
      let d := { s.drive with stages := s.stagesPermitted s, heater := x }
      d.HeaterStands s.params ∧ d.StagesSettled s.params := by
    obtain ⟨permits, plan⟩ := State.interlock_permits some
    refine ⟨⟨⟨fun _ => running, fun _ => Nat.pos_of_ne_zero some⟩, ?_, ?_⟩, ⟨plan.le, fun _ => permits, fun off => ?_⟩⟩
    · exact running ▸ fitted enabled _ (by decide)
    · exact running ▸ (by decide)
    · exact absurd (running.symm.trans off) (by decide)
  unfold State.settleHeater
  cases state : s.drive.heater.state with
  | off =>
    have enabled : s.drive.heater.state ≠ .disabled := by simp [state]
    rw [State.interlockPermits_eq (.inl state)]
    dsimp only
    split
    next none =>
      have off := h.stages_eq (by simp [state])
      exact ⟨h, ⟨off ▸ Nat.zero_le _, fun some => absurd some (by omega), fun _ => State.interlock_refuses none⟩⟩
    next some =>
      split
      · rw [State.tripChannel_drive]
        exact h.trip enabled _
      · exact driven some enabled _ (OutputChannel.run_state _)
  | running =>
    have enabled : s.drive.heater.state ≠ .disabled := by simp [state]
    rw [State.interlockPermits_eq (.inr state)]
    dsimp only
    split
    next none =>
      exact ⟨⟨⟨fun some => absurd some (Nat.lt_irrefl 0), nofun⟩, fitted enabled _ nofun, nofun⟩,
        ⟨Nat.zero_le _, fun some => absurd some (Nat.lt_irrefl 0), fun _ => State.interlock_refuses none⟩⟩
    next some => exact driven some enabled _ state
  | _ => exact rests (by simp [state]) (by simp [state])

/-! ### The clutch -/

theorem DriveUnit.ClutchStands.trip {hold : Bool} {d : DriveUnit} (h : d.ClutchStands hold) (fitted : d.clutch.state ≠ .disabled)
    (asserted : Bool) : ((d.outputOff .clutch).setChannel (d.clutch.trip asserted) .clutch).ClutchStands hold := by
  obtain ⟨-, enabled, -, steady, -⟩ := OutputChannel.states_of_afterTrip (d.clutch.trip_afterTrip asserted)
  exact ⟨⟨fun disabled => absurd disabled enabled, fun none => absurd (h.fitted.2 none) fitted⟩, steady⟩

/-- The clutch takes up the plan in force: it stands, and is driven only under a plan that drives it (R123, R124). -/
theorem State.clutchTakesPlan_stands {hold : Bool} {s : State} (h : s.drive.ClutchStands hold) :
    s.clutchTakesPlan.drive.ClutchStands hold ∧
    (s.clutchTakesPlan.drive.clutch.state = .running → s.clutchTakesPlan.drive.plan.clutch = true) := by
  have fitted (enabled : s.drive.clutch.state ≠ .disabled) (x : ChannelState) (k : x ≠ .disabled) : x = .disabled ↔ hold = false :=
    ⟨fun disabled => absurd disabled k, fun none => absurd (h.fitted.2 none) enabled⟩
  unfold State.clutchTakesPlan
  cases state : s.drive.clutch.state with
  | off =>
    have enabled : s.drive.clutch.state ≠ .disabled := by simp [state]
    dsimp only
    split
    · exact ⟨h, by simp [state]⟩
    next called =>
      split
      · rw [State.tripChannel_drive]
        exact ⟨h.trip enabled _, fun running => absurd running (OutputChannel.trip_not_running _ _)⟩
      · refine ⟨⟨?_, ?_⟩, fun _ => by simpa using called⟩
        · exact (OutputChannel.run_state s.drive.clutch) ▸ fitted enabled _ (by decide)
        · exact fun starting => absurd ((OutputChannel.run_state s.drive.clutch).symm.trans starting) (by decide)
  | running =>
    have enabled : s.drive.clutch.state ≠ .disabled := by simp [state]
    dsimp only
    split
    next called => exact ⟨h, fun _ => called⟩
    next => exact ⟨⟨fitted enabled _ nofun, nofun⟩, nofun⟩
  | _ => exact ⟨h, by simp [state]⟩

/-! ### The laws rest on a channel's own part of the Drive Unit -/

theorem DriveUnit.BlowerStands.congr {p : Params} {d e : DriveUnit} (h : d.BlowerStands p) (blower : e.blower = d.blower)
    (duty : e.duty = d.duty) (pwm : e.pwm = d.pwm) : e.BlowerStands p := by
  obtain ⟨phase, fitted, low, off, on⟩ := h
  rw [← blower, ← pwm] at low
  rw [← blower, ← duty] at off on
  exact ⟨pwm ▸ phase, blower ▸ fitted, low, off, on⟩

theorem DriveUnit.HeaterStands.congr {p : Params} {d e : DriveUnit} (h : d.HeaterStands p) (heater : e.heater = d.heater)
    (stages : e.stages = d.stages) : e.HeaterStands p := by
  obtain ⟨on, fitted, steady⟩ := h
  rw [← heater, ← stages] at on
  exact ⟨on, heater ▸ fitted, heater ▸ steady⟩

theorem DriveUnit.ClutchStands.congr {hold : Bool} {d e : DriveUnit} (h : d.ClutchStands hold) (clutch : e.clutch = d.clutch) :
    e.ClutchStands hold :=
  ⟨clutch ▸ h.fitted, clutch ▸ h.steady⟩

theorem DriveUnit.StagesSettled.congr {p : Params} {d e : DriveUnit} (h : d.StagesSettled p) (heater : e.heater = d.heater)
    (stages : e.stages = d.stages) (blower : e.blower = d.blower) (duty : e.duty = d.duty) (plan : e.plan = d.plan) :
    e.StagesSettled p := by
  obtain ⟨within, permitted, off⟩ := h
  rw [← stages, ← plan] at within
  rw [← stages, ← blower, ← duty] at permitted
  rw [← heater, ← blower, ← duty, ← plan] at off
  exact ⟨within, permitted, off⟩

theorem DriveUnit.ChannelsFollow.congr {p : Params} {d e : DriveUnit} (h : d.ChannelsFollow p) (plan : e.plan = d.plan)
    (duty : e.duty = d.duty) (clutch : e.clutch = d.clutch) : e.ChannelsFollow p := by
  obtain ⟨least, within, engaged⟩ := h
  rw [← plan, ← duty] at within
  rw [← plan, ← clutch] at engaged
  exact ⟨plan ▸ least, within, engaged⟩

/-- Neither the actuators nor the blower's ramp and stall timers play a part in the laws of the channels. -/
theorem DriveUnit.ChannelsSound.congr {p : Params} {hold : Bool} {d e : DriveUnit} (h : d.ChannelsSound p hold)
    (same : e = { d with fresh := e.fresh, blend := e.blend, ramp := e.ramp, stall := e.stall }) : e.ChannelsSound p hold := by
  obtain ⟨⟨blower, heater, clutch⟩, follow, stages⟩ := h
  rw [same]
  exact ⟨⟨blower.congr rfl rfl rfl, heater.congr rfl rfl, clutch.congr rfl⟩, follow.congr rfl rfl rfl,
    stages.congr rfl rfl rfl rfl rfl⟩

/-! ### The channels together -/

/-- The stages settled after the blower and the clutch follow the plan. -/
theorem State.settleHeater_sound {hold : Bool} {s : State} (h : s.drive.ChannelsStand s.params hold)
    (follow : s.drive.ChannelsFollow s.params) : s.settleHeater.drive.ChannelsSound s.params hold := by
  have drive := s.settleHeater_drive
  obtain ⟨heater, stages⟩ := State.settleHeater_stands h.heater
  refine ⟨⟨h.blower.congr ?_ ?_ ?_, heater, h.clutch.congr ?_⟩, follow.congr ?_ ?_ ?_, stages⟩ <;> rw [drive]

theorem State.blowerTakesPlan_follows {hold : Bool} {s : State} (h : s.drive.ChannelsStand s.params hold)
    (least : s.drive.plan.atLeast s.params) : s.blowerTakesPlan.drive.ChannelsStand s.params hold ∧
      s.blowerTakesPlan.drive.duty ≤ s.blowerTakesPlan.drive.plan.duty := by
  have drive := s.blowerTakesPlan_drive
  obtain ⟨blower, duty⟩ := State.blowerTakesPlan_stands h.blower least
  refine ⟨⟨blower, h.heater.congr ?_ ?_, h.clutch.congr ?_⟩, duty⟩ <;> rw [drive]

/-- Every channel takes up a plan, whatever plan was in force before (R119). -/
theorem State.channelsTakePlan_sound {hold : Bool} {s : State} (h : s.drive.ChannelsStand s.params hold)
    (least : s.drive.plan.atLeast s.params) : s.channelsTakePlan.drive.ChannelsSound s.params hold := by
  obtain ⟨standB, duty⟩ := State.blowerTakesPlan_follows h least
  have driveB := s.blowerTakesPlan_drive
  have driveH := s.blowerTakesPlan.settleHeater_drive
  have driveC := s.blowerTakesPlan.settleHeater.clutchTakesPlan_drive
  obtain ⟨heater, stages⟩ := s.blowerTakesPlan.settleHeater_stands (by simpa using standB.heater)
  simp only [State.blowerTakesPlan_frame] at heater stages
  obtain ⟨clutch, engaged⟩ := s.blowerTakesPlan.settleHeater.clutchTakesPlan_stands (hold := hold)
    (standB.clutch.congr (by rw [driveH]))
  have plan : s.channelsTakePlan.drive.plan = s.drive.plan := s.channelsTakePlan_dampers.1
  refine ⟨⟨standB.blower.congr ?_ ?_ ?_, heater.congr ?_ ?_, clutch⟩, ⟨plan ▸ least, ?_, engaged⟩, stages.congr ?_ ?_ ?_ ?_ ?_⟩
  case refine_6 => rw [State.channelsTakePlan, driveC, driveH]; exact duty
  case refine_1 | refine_2 | refine_3 => rw [State.channelsTakePlan, driveC, driveH]
  all_goals rw [State.channelsTakePlan, driveC]

end Sys2Proof.Machine
end

section
/-! The laws of the outputs through a trip, the return of a channel to Off, the ramp, and a plan handed (R98, R99, R119 to R128, R133). -/

namespace Sys2Proof.Machine

/-! ### What the channels leave alone -/

/-- The plan in force and the two actuators, which the acts of the channels leave alone. -/
def DriveUnit.dampers (d : DriveUnit) : Plan × Actuator × Actuator := (d.plan, d.fresh, d.blend)

theorem DriveUnit.eq_of_dampers {d e : DriveUnit} (h : e.dampers = d.dampers) :
    e.plan = d.plan ∧ ∀ x : Damper, e.actuator x = d.actuator x := by
  obtain ⟨plan, fresh, blend⟩ : e.plan = d.plan ∧ e.fresh = d.fresh ∧ e.blend = d.blend := by
    simpa [DriveUnit.dampers] using h
  exact ⟨plan, fun x => by cases x; exacts [fresh, blend]⟩

@[simp] theorem DriveUnit.setChannel_dampers (d : DriveUnit) (x : OutputChannel) (c : Channel) :
    (d.setChannel x c).dampers = d.dampers := by cases c <;> rfl

@[simp] theorem DriveUnit.outputOff_dampers (d : DriveUnit) (c : Channel) : (d.outputOff c).dampers = d.dampers := by
  cases c <;> rfl

@[simp] theorem State.tripChannel_dampers (c : Channel) (k : TripCause) (s : State) :
    (s.tripChannel c k).drive.dampers = s.drive.dampers := by
  rw [State.tripChannel_drive]
  simp

@[simp] theorem State.blowerTakesPlan_dampers (s : State) : s.blowerTakesPlan.drive.dampers = s.drive.dampers := by
  rw [State.blowerTakesPlan_drive]; rfl

@[simp] theorem State.settleHeater_dampers (s : State) : s.settleHeater.drive.dampers = s.drive.dampers := by
  rw [State.settleHeater_drive]; rfl

@[simp] theorem State.clutchTakesPlan_dampers (s : State) : s.clutchTakesPlan.drive.dampers = s.drive.dampers := by
  rw [State.clutchTakesPlan_drive]; rfl

@[simp] theorem State.channelTakesPlan_dampers (c : Channel) (s : State) :
    (State.channelTakesPlan c s).drive.dampers = s.drive.dampers := by
  cases c <;> simp [State.channelTakesPlan]

@[simp] theorem State.trip_dampers (c : Channel) (k : TripCause) (s : State) : (s.trip c k).drive.dampers = s.drive.dampers := by
  simp [State.trip]

/-! ### The wanted duty under what the drives do -/

@[simp] theorem State.tripChannel_wantedDuty (c : Channel) (k : TripCause) (s : State) :
    (s.tripChannel c k).air.wantedDuty = s.air.wantedDuty := by
  unfold State.tripChannel State.when
  dsimp only
  (repeat' split) <;> simp [AirUnit.clutchReleased]

@[simp] theorem State.clutchTakesPlan_wantedDuty (s : State) : s.clutchTakesPlan.air.wantedDuty = s.air.wantedDuty := by
  obtain ⟨-, air⟩ := s.clutchTakesPlan_reported
  rw [air]

@[simp] theorem State.channelTakesPlan_wantedDuty (c : Channel) (s : State) :
    (State.channelTakesPlan c s).air.wantedDuty = s.air.wantedDuty := by
  cases c <;> simp [State.channelTakesPlan]

@[simp] theorem State.channelsTakePlan_wantedDuty (s : State) : s.channelsTakePlan.air.wantedDuty = s.air.wantedDuty := by
  simp [State.channelsTakePlan]

@[simp] theorem State.trip_wantedDuty (c : Channel) (k : TripCause) (s : State) :
    (s.trip c k).air.wantedDuty = s.air.wantedDuty := by
  simp [State.trip]

@[simp] theorem State.channelEntersOff_wantedDuty (c : Channel) (s : State) :
    (s.channelEntersOff c).air.wantedDuty = s.air.wantedDuty := by
  unfold State.channelEntersOff State.when
  dsimp only
  split <;> simp

@[simp] theorem State.handPlan_wantedDuty (q : Plan) (s : State) : (s.handPlan q).air.wantedDuty = s.air.wantedDuty := by
  obtain ⟨-, air⟩ := s.handPlan_reported q
  rw [air]

/-! ### The channels through their events -/

/-- A trip of a fitted channel keeps the channels standing, and the others within the plan (R124). -/
theorem DriveUnit.ChannelsStand.trip {p : Params} {hold : Bool} {d : DriveUnit} (h : d.ChannelsStand p hold) {c : Channel}
    (fitted : (d.channel c).state ≠ .disabled) (asserted : Bool) :
    ((d.outputOff c).setChannel ((d.channel c).trip asserted) c).ChannelsStand p hold := by
  cases c with
  | blower => exact ⟨h.blower.trip asserted, h.heater.congr rfl rfl, h.clutch.congr rfl⟩
  | heater => exact ⟨h.blower.congr rfl rfl rfl, (h.heater.trip fitted asserted).1, h.clutch.congr rfl⟩
  | clutch => exact ⟨h.blower.congr rfl rfl rfl, h.heater.congr rfl rfl, h.clutch.trip fitted asserted⟩

theorem DriveUnit.ChannelsFollow.trip {p : Params} {d : DriveUnit} (h : d.ChannelsFollow p) (c : Channel) (asserted : Bool) :
    ((d.outputOff c).setChannel ((d.channel c).trip asserted) c).ChannelsFollow p := by
  cases c with
  | blower => exact ⟨h.least, Nat.zero_le _, h.clutch⟩
  | heater => exact ⟨h.least, h.duty, h.clutch⟩
  | clutch => exact ⟨h.least, h.duty, fun running => absurd running (OutputChannel.trip_not_running _ _)⟩

/-- A trip with what the interlock makes of it (R122, R124). -/
theorem State.trip_sound {hold : Bool} {s : State} (h : s.drive.ChannelsStand s.params hold)
    (follow : s.drive.ChannelsFollow s.params) {c : Channel} (k : TripCause) (fitted : (s.drive.channel c).state ≠ .disabled) :
    (s.trip c k).drive.ChannelsSound s.params hold := by
  have params : (s.tripChannel c k).params = s.params := by simp
  have settled := State.settleHeater_sound (s := s.tripChannel c k) (hold := hold)
    (by rw [State.tripChannel_drive, params]; exact h.trip fitted _) (by rw [State.tripChannel_drive, params]; exact follow.trip c _)
  rw [params] at settled
  exact settled

/-- One channel takes up the plan in force, the stages with it or, at the clutch, as they stood (R119, R122). -/
theorem State.channelTakesPlan_sound {hold : Bool} {s : State} {c : Channel} (h : s.drive.ChannelsStand s.params hold)
    (follow : s.drive.ChannelsFollow s.params) (stages : c = .clutch → s.drive.StagesSettled s.params) :
    (State.channelTakesPlan c s).drive.ChannelsSound s.params hold := by
  cases c with
  | blower =>
    obtain ⟨stand, duty⟩ := State.blowerTakesPlan_follows h follow.least
    have drive := s.blowerTakesPlan_drive
    have settled := State.settleHeater_sound (s := s.blowerTakesPlan) (hold := hold) (by simpa using stand)
      ⟨by rw [drive]; simpa using follow.least, duty, by rw [drive]; exact follow.clutch⟩
    rw [s.blowerTakesPlan_frame.1] at settled
    exact settled
  | heater => exact State.settleHeater_sound h follow
  | clutch =>
    have drive := s.clutchTakesPlan_drive
    obtain ⟨clutch, engaged⟩ := State.clutchTakesPlan_stands h.clutch
    refine ⟨⟨h.blower.congr ?_ ?_ ?_, h.heater.congr ?_ ?_, clutch⟩, ⟨?_, ?_, engaged⟩, (stages rfl).congr ?_ ?_ ?_ ?_ ?_⟩
    case refine_6 => rw [State.channelTakesPlan, drive]; exact follow.least
    case refine_7 => rw [State.channelTakesPlan, drive]; exact follow.duty
    all_goals rw [State.channelTakesPlan, drive]

/-- A channel that waited after a trip stands in Off. -/
theorem DriveUnit.ChannelsStand.enterOff {p : Params} {hold : Bool} {d : DriveUnit} (h : d.ChannelsStand p hold) {c : Channel}
    (waits : (d.channel c).state.afterTrip = true) :
    (d.setChannel { d.channel c with state := .off, cooldown := .stopped } c).ChannelsStand p hold := by
  obtain ⟨undriven, fitted, -, -, stopped⟩ := OutputChannel.states_of_afterTrip waits
  cases c with
  | blower =>
    exact ⟨.of_undriven h.blower.phase nofun nofun rfl (h.blower.off undriven), h.heater.congr rfl rfl, h.clutch.congr rfl⟩
  | heater =>
    have none := h.heater.stages_eq stopped
    refine ⟨h.blower.congr rfl rfl rfl, ⟨⟨fun some => ?_, nofun⟩, ⟨nofun, fun none => ?_⟩, nofun⟩, h.clutch.congr rfl⟩
    · exact absurd (none ▸ some : 0 < 0) (Nat.lt_irrefl 0)
    · exact absurd (h.heater.fitted.2 none) fitted
  | clutch =>
    refine ⟨h.blower.congr rfl rfl rfl, h.heater.congr rfl rfl, ⟨⟨nofun, fun none => ?_⟩, nofun⟩⟩
    exact absurd (h.clutch.fitted.2 none) fitted

theorem DriveUnit.ChannelsFollow.enterOff {p : Params} {d : DriveUnit} (h : d.ChannelsFollow p) (c : Channel) :
    (d.setChannel { d.channel c with state := .off, cooldown := .stopped } c).ChannelsFollow p := by
  cases c with
  | blower => exact ⟨h.least, h.duty, h.clutch⟩
  | heater => exact ⟨h.least, h.duty, h.clutch⟩
  | clutch => exact ⟨h.least, h.duty, nofun⟩

/-- The state in which a channel back in Off takes up the plan has the Drive Unit of the return, and its configuration. -/
theorem State.channelEntersOff_eq (c : Channel) (s : State) : ∃ u : State, s.channelEntersOff c = State.channelTakesPlan c u ∧
    u.params = s.params ∧ u.drive = s.drive.setChannel { s.drive.channel c with state := .off, cooldown := .stopped } c := by
  refine ⟨_, rfl, ?_, ?_⟩ <;> dsimp only <;> unfold State.when <;> split <;> simp

theorem State.channelEntersOff_dampers (c : Channel) (s : State) : (s.channelEntersOff c).drive.dampers = s.drive.dampers := by
  obtain ⟨u, taken, -, drive⟩ := s.channelEntersOff_eq c
  rw [taken, State.channelTakesPlan_dampers, drive, DriveUnit.setChannel_dampers]

/-- A channel back in Off takes up the plan in force (R126, R128). -/
theorem State.channelEntersOff_sound {hold : Bool} {s : State} {c : Channel} (h : s.drive.Sound s.params hold)
    (waits : (s.drive.channel c).state.afterTrip = true) : (s.channelEntersOff c).drive.ChannelsSound s.params hold := by
  obtain ⟨u, taken, params, drive⟩ := s.channelEntersOff_eq c
  rw [taken, ← params]
  refine State.channelTakesPlan_sound ?_ ?_ fun clutch => ?_
  · rw [drive, params]; exact h.stand.enterOff waits
  · rw [drive, params]; exact h.follow.enterOff c
  · subst clutch
    rw [drive, params]
    exact h.stages.congr rfl rfl rfl rfl rfl

/-- The ramp raises the figure of a driven blower toward the plan duty (R121). -/
theorem DriveUnit.rampExpired_stands {p : Params} {hold : Bool} {d : DriveUnit} (h : d.ChannelsStand p hold)
    (follow : d.ChannelsFollow p) (driving : d.blower.driving = true) :
    d.rampExpired.ChannelsStand p hold ∧ d.rampExpired.ChannelsFollow p := by
  have duty := h.blower.on driving
  have within := follow.duty
  have driven := d.blower.driving_iff.1 driving
  unfold DriveUnit.rampExpired
  dsimp only
  split
  · exact ⟨⟨.of_driven h.blower.phase driven (by dsimp only; omega), h.heater.congr rfl rfl, h.clutch.congr rfl⟩,
      ⟨follow.least, Nat.min_le_left _ _, follow.clutch⟩⟩
  · exact ⟨⟨.of_driven h.blower.phase (.inr (OutputChannel.run_state _)) (by dsimp only; omega), h.heater.congr rfl rfl,
      h.clutch.congr rfl⟩, ⟨follow.least, Nat.min_le_left _ _, follow.clutch⟩⟩

/-! ### The split -/

theorem ceilDiv_hundred_le {a k : Nat} : ceilDiv a 100 ≤ k ↔ a ≤ 100 * k := by
  unfold ceilDiv
  omega

@[simp] theorem blowerCurrent_zero (p : Params) : blowerCurrent p 0 = 0 := by
  simp [blowerCurrent, ceilDiv]

/-- The stages taken and the budget left make up the budget (R98 step 4). -/
theorem takeStages_budget (current : Nat) : ∀ want budget : Nat,
    (takeStages current want budget).1 * current + (takeStages current want budget).2 = budget
  | 0, budget => by simp [takeStages]
  | want + 1, budget => by
    unfold takeStages
    split
    next enough =>
      have rest := takeStages_budget current want (budget - current)
      dsimp only
      rw [Nat.add_mul, Nat.one_mul]
      omega
    next => simp

/-- The least duty and what is left after the stages, as one figure of duty, cost no more than the budget holds (R98 step 5). -/
theorem blowerCurrent_le {p : Params} {duty budget : Nat} (h : duty ≤ 100 * budget / p.blowerFull) :
    blowerCurrent p duty ≤ budget := by
  refine ceilDiv_hundred_le.2 ?_
  calc p.blowerFull * duty ≤ p.blowerFull * (100 * budget / p.blowerFull) := Nat.mul_le_mul_left _ h
    _ ≤ 100 * budget := Nat.mul_div_le _ _

/-- The estimated current of a split is within the take (R98, R99). -/
theorem split_current_le (p : Params) (take : Nat) (w : Wants) : (split p take w).current p ≤ take := by
  unfold split
  extract_lets free b1 clutch b2 m r
  have base : (if !free then 0 else p.baseLoad) + b1 ≤ take := by
    have enough : free = true → p.baseLoad ≤ take := by simp [free]
    simp only [b1]
    cases h : free with
    | true => simpa using (Nat.add_sub_cancel' (enough h)).le
    | false => simp
  have coupled : (if clutch then p.clutchCurrent else 0) + b2 = b1 := by
    have enough : clutch = true → p.clutchCurrent ≤ b1 := by simp [clutch]
    simp only [b2]
    cases h : clutch with
    | true => simpa using Nat.add_sub_cancel' (enough h)
    | false => simp
  split
  next least =>
    have stages : r.1 * p.stageCurrent + r.2 = b2 - m := takeStages_budget p.stageCurrent w.stages (b2 - m)
    have blower := blowerCurrent_le (Nat.min_le_right w.duty (100 * (m + r.2) / p.blowerFull))
    have enough := least.2
    simp only [Plan.current]
    omega
  next =>
    simp only [Plan.current, blowerCurrent_zero]
    omega

/-- A split drives the blower at MinDuty or above, where the duty wanted is so (R98). -/
theorem split_atLeast {p : Params} {take : Nat} {w : Wants} (full : 0 < p.blowerFull) (wanted : 0 < w.duty → p.minDuty ≤ w.duty) :
    (split p take w).atLeast p := by
  unfold split
  extract_lets free b1 clutch b2 m
  split
  next least =>
    refine fun _ => Nat.le_min.2 ⟨wanted least.1, (Nat.le_div_iff_mul_le full).2 ?_⟩
    have paid : p.blowerFull * p.minDuty ≤ 100 * m := ceilDiv_hundred_le.1 le_rfl
    rw [Nat.mul_comm]
    omega
  next => exact fun some => absurd some (Nat.lt_irrefl 0)

/-! ### A handed plan -/

/-- The Drive Unit after a handed plan: the channels as they took it up, and each actuator's act on its dampers-held part (R119, R133). -/
theorem State.handPlan_drive (q : Plan) (s : State) : (s.handPlan q).drive =
    { (s.mapDrive fun d => { d with plan := q }).channelsTakePlan.drive with
      fresh := (s.drive.fresh.takePlan q.held s.asleep).act
      blend := (s.drive.blend.takePlan q.held s.asleep).act } := by
  obtain ⟨plan, dampers⟩ := (s.mapDrive fun d => { d with plan := q }).channelsTakePlan_dampers
  have fresh := dampers .fresh
  have blend := dampers .blend
  unfold State.handPlan
  rw [State.actuatorTakesPlan_drive, State.actuatorTakesPlan_drive]
  simp only [DriveUnit.actuator, DriveUnit.setActuator, State.mapDrive_drive, State.asleep, State.actuatorTakesPlan_frame,
    State.channelsTakePlan_frame, State.mapDrive_node] at plan fresh blend ⊢
  rw [plan, fresh, blend]

/-- Any plan that drives the blower at MinDuty or above is taken up within itself, whatever plan was in force before (R119). -/
theorem State.handPlan_sound {hold : Bool} {s : State} {q : Plan} (h : s.drive.Sound s.params hold) (least : q.atLeast s.params) :
    (s.handPlan q).drive.Sound s.params hold := by
  have channels := State.channelsTakePlan_sound (s := s.mapDrive fun d => { d with plan := q }) (hold := hold)
    ⟨h.stand.blower.congr rfl rfl rfl, h.stand.heater.congr rfl rfl, h.stand.clutch.congr rfl⟩ least
  have plan : (s.mapDrive fun d => { d with plan := q }).channelsTakePlan.drive.plan = q := State.channelsTakePlan_dampers _ |>.1
  rw [State.handPlan_drive]
  refine ⟨channels.congr rfl, fun x => ?_⟩
  dsimp only
  rw [plan]
  cases x with
  | fresh => exact Actuator.takePlan_drivenUnder q.held s.asleep (h.dampers .fresh)
  | blend => exact Actuator.takePlan_drivenUnder q.held s.asleep (h.dampers .blend)

end Sys2Proof.Machine
end

section
/-! The laws of the outputs through what the blocks do in an event: acts of the actuators, plans, changes of the take, the air expiry,
the changes of the node state, and the end of the event (R62 to R67, R98 to R101, R129, R140, R156 to R159). -/

namespace Sys2Proof.Machine

/-! ### Outside the Drive Unit -/

/-- Outside the Drive Unit nothing that the laws of the outputs rest on has changed. -/
abbrev State.sameGrounds (s t : State) : Prop :=
  t.params = s.params ∧ t.node.state = s.node.state ∧ t.node.hold = s.node.hold ∧ t.share.applied = s.share.applied ∧
  t.air.wantedDuty = s.air.wantedDuty

/-- The Drive Unit changed under the plan in force. -/
theorem State.OutputsSound.of_drive {s t : State} (h : s.OutputsSound) (grounds : s.sameGrounds t) (plan : t.drive.plan = s.drive.plan)
    (drive : t.drive.Sound s.params s.node.hold) : t.OutputsSound := by
  obtain ⟨params, state, hold, applied, wanted⟩ := grounds
  refine ⟨params ▸ h.params, ?_, ?_, ?_, ?_⟩
  · rw [params, hold]; exact drive
  · rw [plan, params, applied]; exact h.current
  · rw [wanted, params]; exact h.wanted
  · rw [state, applied, wanted, plan]; exact h.rests

/-- Nothing that the laws of the outputs rest on has changed. -/
theorem State.OutputsSound.same {s t : State} (h : s.OutputsSound) (grounds : s.sameGrounds t) (drive : t.drive = s.drive) :
    t.OutputsSound :=
  h.of_drive grounds (by rw [drive]) (by rw [drive]; exact h.drive)

/-- The channels changed under the plan in force. -/
theorem State.OutputsSound.of_channels {s t : State} (h : s.OutputsSound) (grounds : s.sameGrounds t)
    (dampers : t.drive.dampers = s.drive.dampers) (channels : t.drive.ChannelsSound s.params s.node.hold) : t.OutputsSound := by
  obtain ⟨plan, actuators⟩ := DriveUnit.eq_of_dampers dampers
  refine h.of_drive grounds plan ⟨channels, fun x => ?_⟩
  rw [plan, actuators]
  exact h.drive.dampers x

/-- A change of Node Control that does not leave Running. -/
theorem State.OutputsSound.mapNode {s : State} (h : s.OutputsSound) {f : NodeControl → NodeControl}
    (hold : (f s.node).hold = s.node.hold) (rests : (f s.node).state ≠ .running → s.node.state ≠ .running) :
    (s.mapNode f).OutputsSound :=
  ⟨h.params, by rw [State.mapNode_node, hold]; exact h.drive, h.current, h.wanted, fun k => h.rests (rests k)⟩

theorem State.OutputsSound.mapLine {s : State} (h : s.OutputsSound) (f : LineInterface → LineInterface) : (s.mapLine f).OutputsSound :=
  h.same ⟨rfl, rfl, rfl, rfl, rfl⟩ rfl

theorem State.OutputsSound.mapInput {s : State} (h : s.OutputsSound) (f : InputUnit → InputUnit) : (s.mapInput f).OutputsSound :=
  h.same ⟨rfl, rfl, rfl, rfl, rfl⟩ rfl

theorem State.OutputsSound.mapCond {s : State} (h : s.OutputsSound) (f : ConditionUnit → ConditionUnit) : (s.mapCond f).OutputsSound :=
  h.same ⟨rfl, rfl, rfl, rfl, rfl⟩ rfl

theorem State.OutputsSound.mapPeers {s : State} (h : s.OutputsSound) (f : PeerTable → PeerTable) : (s.mapPeers f).OutputsSound :=
  h.same ⟨rfl, rfl, rfl, rfl, rfl⟩ rfl

theorem State.OutputsSound.mapAllowance {s : State} (h : s.OutputsSound) (f : AllowanceStore → AllowanceStore) :
    (s.mapAllowance f).OutputsSound :=
  h.same ⟨rfl, rfl, rfl, rfl, rfl⟩ rfl

theorem State.OutputsSound.mapAir {s : State} (h : s.OutputsSound) {f : AirUnit → AirUnit}
    (wanted : (f s.air).wantedDuty = s.air.wantedDuty) : (s.mapAir f).OutputsSound :=
  h.same ⟨rfl, rfl, rfl, rfl, wanted⟩ rfl

theorem State.OutputsSound.raise {s : State} (h : s.OutputsSound) (c : Condition) : (s.raise c).OutputsSound :=
  h.same (by simp [State.sameGrounds]) (by simp)

theorem State.OutputsSound.lower {s : State} (h : s.OutputsSound) (c : Condition) : (s.lower c).OutputsSound :=
  h.same (by simp [State.sameGrounds]) (by simp)

theorem State.OutputsSound.handDemand {s : State} (h : s.OutputsSound) : s.handDemand.OutputsSound := h.mapLine _

theorem State.OutputsSound.when {s : State} (h : s.OutputsSound) {b : Bool} {f : State → State}
    (k : b = true → (f s).OutputsSound) : (s.when b f).OutputsSound := by
  cases b with
  | false => exact h
  | true => exact k rfl

/-! ### The actuators -/

/-- An actuator replaced by one that is driven under the plan in force. -/
theorem DriveUnit.Sound.setActuator {p : Params} {hold : Bool} {d : DriveUnit} (h : d.Sound p hold) (x : Damper) {a : Actuator}
    (driven : a.DrivenUnder d.plan.held) : (d.setActuator a x).Sound p hold := by
  obtain ⟨channels, dampers⟩ := h
  have others (y : Damper) : ((d.setActuator a x).actuator y).DrivenUnder d.plan.held := by
    by_cases same : y = x
    · subst same; rw [DriveUnit.actuator_setActuator]; exact driven
    · rw [DriveUnit.actuator_setActuator_of_ne _ _ same]; exact dampers y
  cases x <;> exact ⟨channels.congr rfl, others⟩

theorem DriveUnit.setActuator_plan (d : DriveUnit) (a : Actuator) (x : Damper) : (d.setActuator a x).plan = d.plan := by
  cases x <;> rfl

theorem State.OutputsSound.applyActuator {s : State} (h : s.OutputsSound) (x : Damper) {r : ActuatorStep}
    (driven : r.act.DrivenUnder s.drive.plan.held) : (s.applyActuator x r).OutputsSound := by
  refine h.of_drive (by simp [State.sameGrounds]) ?_ ?_
  · rw [State.applyActuator_drive, DriveUnit.setActuator_plan]
  · rw [State.applyActuator_drive]; exact h.drive.setActuator x driven

theorem State.handTarget_sound {p : Params} {hold : Bool} {s : State} (h : s.drive.Sound p hold) (x : Damper) (v : Nat) :
    (s.handTarget x v).drive.Sound p hold := by
  rw [State.handTarget, State.applyActuator_drive]
  exact h.setActuator x (Actuator.handTarget_drivenUnder _ _ _ (h.dampers x))

theorem State.OutputsSound.settleFresh {s : State} (h : s.OutputsSound) : s.settleFresh.OutputsSound :=
  (h.mapAir rfl).applyActuator .fresh (Actuator.handTarget_drivenUnder _ _ _ (h.drive.dampers .fresh))

theorem State.OutputsSound.composeClass {s : State} (h : s.OutputsSound) : s.composeClass.OutputsSound :=
  h.same ⟨rfl, rfl, rfl, rfl, rfl⟩ rfl

theorem State.OutputsSound.sourceChanged {s : State} (h : s.OutputsSound) : s.sourceChanged.OutputsSound :=
  h.composeClass.settleFresh

/-! ### Plans and the take -/

/-- A plan within the take handed to the Drive Unit (R99, R119). -/
theorem State.OutputsSound.of_handPlan {s : State} {q : Plan} (params : s.params.inRange) (drive : s.drive.Sound s.params s.node.hold)
    (least : q.atLeast s.params) (current : q.current s.params ≤ s.share.applied)
    (wanted : 0 < s.air.wantedDuty → s.params.minDuty ≤ s.air.wantedDuty)
    (rests : s.node.state ≠ .running → s.share.applied = 0 ∧ s.air.wantedDuty = 0 ∧ q.off) : (s.handPlan q).OutputsSound := by
  have sound := State.handPlan_sound drive least
  have plan : (s.handPlan q).drive.plan = q := (s.handPlan_took q).2
  refine ⟨?_, ?_, ?_, ?_, ?_⟩
  all_goals simp only [State.handPlan_frame, State.handPlan_wantedDuty]
  · exact params
  · exact sound
  · rw [plan]; exact current
  · exact wanted
  · rw [plan]; exact rests

theorem Params.inRange.blowerFull_pos {p : Params} (h : p.inRange) : 0 < p.blowerFull := by
  obtain ⟨-, ⟨-, -, -, -, ⟨full, -⟩, -⟩, -⟩ := h
  omega

/-- The plan made in Running from the take as it stands (R98 to R100). -/
theorem State.OutputsSound.of_makePlan {s : State} (params : s.params.inRange) (drive : s.drive.Sound s.params s.node.hold)
    (wanted : 0 < s.air.wantedDuty → s.params.minDuty ≤ s.air.wantedDuty) (running : s.node.state = .running) :
    s.makePlan.OutputsSound :=
  .of_handPlan params drive (split_atLeast params.blowerFull_pos wanted) (split_current_le _ _ _) wanted
    fun rests => absurd running rests

/-- A change of the take, which outside Running does not raise it: a fall makes the plan anew (R64). -/
theorem State.OutputsSound.changeTake {s : State} (h : s.OutputsSound) {f : ShareUnit → ShareUnit}
    (low : s.node.state ≠ .running → (f s.share).applied ≤ s.share.applied) : (s.changeTake f).OutputsSound := by
  unfold State.changeTake
  dsimp only
  split
  next fell =>
    refine .of_makePlan h.params h.drive h.wanted ?_
    by_contra rests
    obtain ⟨applied, -⟩ := h.rests rests
    rw [applied] at fell
    exact absurd fell (Nat.not_lt_zero _)
  next kept =>
    refine ⟨h.params, h.drive, h.current.trans (Nat.not_lt.1 kept), h.wanted, fun rests => ?_⟩
    obtain ⟨applied, others⟩ := h.rests rests
    exact ⟨Nat.eq_zero_of_le_zero (applied ▸ low rests), others⟩

theorem State.OutputsSound.setIsolated {s : State} (h : s.OutputsSound) : s.setIsolated.OutputsSound :=
  ((h.mapLine _).raise .isolated).changeTake fun _ => Nat.min_le_left _ _

theorem State.OutputsSound.clearIsolated {s : State} (h : s.OutputsSound) : s.clearIsolated.OutputsSound :=
  ((h.mapLine _).lower .isolated).changeTake fun _ => Nat.min_le_left _ _

/-! ### The air expiry -/

/-- The wanted duty of a blower level is 0 or at least MinDuty (R92). -/
theorem dutyOf_atLeast (p : Params) (level : Nat) : 0 < dutyOf p level → p.minDuty ≤ dutyOf p level := by
  unfold dutyOf
  split
  · exact fun some => absurd some (Nat.lt_irrefl 0)
  · exact fun _ => Nat.le_add_right _ _

theorem State.airStages_sound {p : Params} {hold : Bool} {s : State} (h : s.drive.Sound p hold) : s.airStages.drive.Sound p hold := by
  refine State.handTarget_sound (s := State.mapAir _ _) ?_ .fresh _
  simpa [State.settleCause, State.runSource, State.settleDefrost, State.composeClass] using h

theorem State.airWants_sound {p : Params} {hold : Bool} {s : State} (found : Bool) (h : s.drive.Sound p hold) :
    (s.airWants found).drive.Sound p hold := by
  have handed : (s.airWants found).drive = s.settleDischarge.settleBlend.drive := by
    simp [State.airWants, State.settleHeaterWant, State.settleBlower, State.settleCooling, State.settleHolder, State.settleClutch,
      State.settleCoolingUnavailable, State.composeRequest]
  rw [handed]
  exact State.handTarget_sound (s := s.settleDischarge.mapAir _) h .blend _

theorem State.airWants_wantedDuty (found : Bool) (s : State) : ∃ level, (s.airWants found).air.wantedDuty = dutyOf s.params level := by
  refine ⟨(s.airWants found).air.level, ?_⟩
  simp [State.airWants, State.settleDischarge, State.settleBlend, State.settleHeaterWant, State.settleBlower, State.settleCooling,
    State.settleHolder, State.settleClutch, State.settleCoolingUnavailable, State.composeRequest]

theorem State.OutputsSound.airWork {s : State} (h : s.OutputsSound) (running : s.node.state = .running) : s.airWork.OutputsSound := by
  refine .of_makePlan ?_ (State.airWants_sound _ (State.airStages_sound ?_)) ?_ ?_
  · simpa using h.params
  · simpa using h.drive
  · obtain ⟨level, wanted⟩ := State.airWants_wantedDuty s.air.defrost (s.mapAir fun a => { a with timer := Timer.start }).airStages
    rw [wanted]
    simpa using dutyOf_atLeast _ level
  · simpa using running

/-! ### Sleep and the end of an event -/

theorem Plan.sleep_of_off {q : Plan} (h : q.off) : q.sleep = q := by
  obtain ⟨held, clutch, duty, stages⟩ := q
  obtain ⟨rfl, rfl, rfl⟩ := h
  rfl

theorem State.enterSleep_wantedDuty (s : State) : s.enterSleep.air.wantedDuty = s.air.wantedDuty := by
  simp [State.enterSleep, AirUnit.sleep, AirUnit.lapse]

/-- The Drive Unit at the entry into Sleep from a plan that drives no output: the channels take it up again, and the actuators stop. -/
theorem State.enterSleep_drive {s : State} (off : s.drive.plan.off) :
    ∃ u : State, s.enterSleep.drive = u.channelsTakePlan.drive.sleepActuators ∧ u.params = s.params ∧ u.drive = s.drive := by
  refine ⟨(s.lowerAtSleep.mapNode NodeControl.sleep).mapDrive fun d => { d with plan := d.plan.sleep }, ?_, by simp, ?_⟩
  · simp [State.enterSleep]
  · simp [Plan.sleep_of_off off]

/-- An entry into Sleep from a state with no take and no output planned (R129, R140, R159). -/
theorem State.OutputsSound.enterSleep {s : State} (h : s.OutputsSound) (rests : s.node.state ≠ .running) :
    s.enterSleep.OutputsSound := by
  obtain ⟨applied, wanted, off⟩ := h.rests rests
  obtain ⟨u, drive, params, same⟩ := State.enterSleep_drive off
  have channels := State.channelsTakePlan_sound (s := u) (hold := s.node.hold)
    (by rw [same, params]; exact h.drive.stand) (by rw [same, params]; exact h.drive.follow.least)
  have plan : s.enterSleep.drive.plan = s.drive.plan := by
    rw [drive, ← same]
    exact u.channelsTakePlan_dampers.1
  rw [params] at channels
  refine ⟨by simpa using h.params, ?_, ?_, ?_, fun _ => ?_⟩
  · rw [s.enterSleep_frame.1, s.enterSleep_node, drive]
    refine ⟨channels.congr rfl, fun x => ?_⟩
    cases x <;> exact Actuator.sleep_drivenUnder _ _
  · rw [plan]; simpa using h.current
  · simpa [State.enterSleep_wantedDuty] using h.wanted
  · simpa [State.enterSleep_wantedDuty, plan] using ⟨applied, wanted, off⟩

theorem State.OutputsSound.beginLeaving {s : State} (h : s.OutputsSound) (parking : s.node.state = .parking) :
    s.beginLeaving.OutputsSound := by
  have leaving := h.mapNode (f := fun n => { n with leaving := true }) rfl id
  unfold State.beginLeaving
  dsimp only
  split
  · exact leaving.enterSleep (by simp [parking])
  · exact (leaving.mapNode (f := fun n => { n with leavingTimer := Timer.start }) rfl id).handDemand

/-- The end of an event keeps the laws of the outputs. -/
theorem State.OutputsSound.finish {s : State} (h : s.OutputsSound) (b : State) : (s.finish b).OutputsSound := by
  have parked : (s.settleParking b).OutputsSound := by
    unfold State.settleParking
    split
    next waits =>
      simp only [Bool.and_eq_true, decide_eq_true_eq] at waits
      obtain ⟨⟨⟨parking, -⟩, -⟩, -⟩ := waits
      exact h.beginLeaving parking
    next => exact h
  exact parked.same (by simp [State.finish, State.sameGrounds]) (by simp [State.finish])

/-! ### Entering and leaving Running -/

theorem State.OutputsSound.enterRunning {s : State} (h : s.OutputsSound) (fromListening : Bool) :
    (s.enterRunning fromListening).OutputsSound := by
  have entered : (s.startRunning fromListening).OutputsSound :=
    ⟨h.params, h.drive, h.current, h.wanted, fun rests => absurd rfl rests⟩
  rw [State.enterRunning_eq, State.startSleepDelay_eq]
  exact (entered.settleFresh.mapNode rfl id).handDemand

/-- The plan of a leaving event drives no output, and counts the base load only where it is 0 (R100, R140). -/
theorem State.leavingPlan_off (dest : NodeState) {s : State} (call : s.air.clutchCall = false) (wanted : s.air.wantedDuty = 0) :
    (s.leavingPlan dest).off ∧ (s.leavingPlan dest).current s.params = 0 := by
  have off : (s.leavingPlan dest).off := by
    simp [Plan.off, State.leavingPlan, split, State.wants, call, wanted]
  obtain ⟨clutch, duty, stages⟩ := off
  refine ⟨⟨clutch, duty, stages⟩, ?_⟩
  rw [Plan.current, clutch, duty, stages]
  by_cases free : s.params.baseLoad = 0
  · simp [free]
  · simp [State.leavingPlan, Nat.pos_of_ne_zero free]

/-- A leaving of Running: no take, no wanted duty, and a plan that drives no output (R65, R100, R101, R129). -/
theorem State.OutputsSound.leaveRunning {s : State} (h : s.OutputsSound) (dest : NodeState) : (s.leaveRunning dest).OutputsSound := by
  unfold State.leaveRunning
  extract_lets t u v
  have drive : v.drive = s.drive := by simp [v, u, t]
  have params : v.params = s.params := by simp [v, u, t]
  have hold : v.node.hold = s.node.hold := by simp [v, u, t]
  have applied : v.share.applied = 0 := by simp [v, u, t, ShareUnit.leave, ShareUnit.steadyAt]
  have wanted : v.air.wantedDuty = 0 := by simp [v, u, AirUnit.clearWants]
  have call : v.air.clutchCall = false := by simp [v, u, AirUnit.clearWants]
  obtain ⟨off, current⟩ := v.leavingPlan_off dest call wanted
  have handed : (v.handPlan (v.leavingPlan dest)).OutputsSound := by
    refine .of_handPlan (params ▸ h.params) ?_ (fun some => ?_) (by rw [current]; exact Nat.zero_le _)
      (fun some => ?_) fun _ => ⟨applied, wanted, off⟩
    · rw [drive, params, hold]; exact h.drive
    · rw [off.2.1] at some; exact absurd some (Nat.lt_irrefl 0)
    · rw [wanted] at some; exact absurd some (Nat.lt_irrefl 0)
  exact handed.composeClass.settleFresh

theorem State.OutputsSound.enterParking {s : State} (h : s.OutputsSound) : s.enterParking.OutputsSound := by
  unfold State.enterParking
  split
  · exact (h.leaveRunning .parking).mapNode rfl (by simp [NodeControl.startParking])
  next rests =>
    have parked := h.mapNode (f := NodeControl.startParking) rfl fun _ => rests
    exact ((parked.mapAir (f := AirUnit.lapse) rfl).lower .supplyLow).settleFresh

theorem State.OutputsSound.enterListening {s : State} (h : s.OutputsSound) (rests : s.node.state ≠ .running) :
    s.enterListening.OutputsSound := by
  have entered := h.mapNode (f := fun n => { n with state := .listening, listening := Timer.start }) rfl fun _ => rests
  exact (entered.mapAllowance _).mapInput _

theorem State.OutputsSound.supplyReturns {s : State} (h : s.OutputsSound) : s.supplyReturns.OutputsSound := by
  unfold State.supplyReturns
  split
  case h_1 => exact (h.lower .supplyLow).enterRunning false
  case h_2 =>
    split
    · exact h.enterRunning true
    · exact h
  all_goals exact h

theorem State.OutputsSound.supplyFails {s : State} (h : s.OutputsSound) : s.supplyFails.OutputsSound := by
  unfold State.supplyFails
  split
  · exact (h.leaveRunning .supplyLow).raise .supplyLow
  · exact h

theorem State.OutputsSound.unpark {s : State} (h : s.OutputsSound) (rests : s.node.state ≠ .running) : s.unpark.OutputsSound := by
  have stopped := h.mapNode (f := fun n => { n with parking := .stopped, leavingTimer := .stopped, leaving := false }) rfl id
  unfold State.unpark
  dsimp only
  split
  · exact stopped.enterRunning false
  · exact ((stopped.mapNode (f := fun n => { n with state := .supplyLow }) rfl fun _ => rests).raise .supplyLow).settleFresh

theorem State.OutputsSound.ignitionOff {s : State} (h : s.OutputsSound) : s.ignitionOff.OutputsSound :=
  h.when fun _ => h.mapNode rfl id

theorem State.OutputsSound.ignitionOn {s : State} (h : s.OutputsSound) : s.ignitionOn.OutputsSound := by
  have stopped := h.mapNode (f := fun n => { n with sleepDelay := .stopped }) rfl id
  unfold State.ignitionOn
  dsimp only
  split
  case h_1 parking => exact stopped.unpark (by simp [parking])
  case h_2 asleep => exact stopped.enterListening (by simp [asleep])
  all_goals exact stopped

end Sys2Proof.Machine
end

section
/-! Every command and every step keeps the laws of the outputs. -/

namespace Sys2Proof.Machine

/-! ### Receptions -/

theorem State.OutputsSound.countReception {s : State} (h : s.OutputsSound) (bad : Bool) : (s.countReception bad).OutputsSound :=
  h.same (by simp [State.sameGrounds]) (by simp)

theorem State.OutputsSound.heardWellFormed {s : State} (h : s.OutputsSound) : s.heardWellFormed.OutputsSound := by
  rw [State.heardWellFormed_eq]
  exact (h.mapLine _).when fun _ => (h.mapLine _).clearIsolated

theorem State.OutputsSound.heardGood {s : State} (h : s.OutputsSound) : s.heardGood.OutputsSound :=
  (h.countReception false).heardWellFormed

theorem State.OutputsSound.heardConflict {s : State} (h : s.OutputsSound) : s.heardConflict.OutputsSound := by
  have counted := (h.countReception false).mapLine (LineInterface.restartSilence s.params)
  unfold State.heardConflict
  dsimp only
  split
  · exact counted
  · exact ((counted.raise .addressConflict).setIsolated).mapLine _

/-- The override part of a Panel arrival, where it is taken, is followed by the fresh damper target (R144, R145). -/
theorem State.OutputsSound.panelArrives {s : State} (h : s.OutputsSound) (d : PanelBytes) : (s.panelArrives d).OutputsSound := by
  have settings : (s.mapAir (AirUnit.takeSettings d)).OutputsSound := h.mapAir rfl
  have overrides (a : AirUnit) : (a.takeOverrides d).wantedDuty = a.wantedDuty := by
    unfold AirUnit.takeOverrides
    split <;> rfl
  unfold State.panelArrives
  dsimp only
  split
  · exact (settings.mapAir (overrides _)).settleFresh
  · exact settings

theorem State.OutputsSound.channelEntersOff {s : State} (h : s.OutputsSound) {c : Channel}
    (waits : (s.drive.channel c).state.afterTrip = true) : (s.channelEntersOff c).OutputsSound :=
  h.of_channels (by simp [State.sameGrounds]) (State.channelEntersOff_dampers c s) (State.channelEntersOff_sound h.drive waits)

/-- A channel in the state of another, or waiting after a trip as the other does: the laws of the outputs do not tell the two apart. -/
structure OutputChannel.ReadsAs (a b : OutputChannel) : Prop where
  afterTrip : b.state.afterTrip = a.state.afterTrip
  driving : b.driving = a.driving
  disabled : b.state = .disabled ↔ a.state = .disabled
  off : b.state = .off ↔ a.state = .off
  starting : b.state = .starting ↔ a.state = .starting
  running : b.state = .running ↔ a.state = .running

theorem OutputChannel.ReadsAs.of_state {a b : OutputChannel} (h : b.state = a.state) : a.ReadsAs b := by
  constructor <;> simp [OutputChannel.driving, h]

theorem OutputChannel.ReadsAs.of_afterTrip {a b : OutputChannel} (ha : a.state.afterTrip = true) (hb : b.state.afterTrip = true) :
    a.ReadsAs b := by
  obtain ⟨driving, disabled, off, starting, running⟩ := OutputChannel.states_of_afterTrip ha
  obtain ⟨driving', disabled', off', starting', running'⟩ := OutputChannel.states_of_afterTrip hb
  constructor <;> simp [*]

/-- A channel replaced by one that the laws of the outputs do not tell from it. -/
theorem State.OutputsSound.setChannel {s : State} (h : s.OutputsSound) {c : Channel} {x : OutputChannel}
    (reads : (s.drive.channel c).ReadsAs x) : (s.mapDrive fun d => d.setChannel x c).OutputsSound := by
  obtain ⟨⟨⟨blower, heater, clutch⟩, follow, stages⟩, -⟩ := h.drive
  obtain ⟨afterTrip, driving, disabled, off, starting, running⟩ := reads
  refine h.of_channels ⟨rfl, rfl, rfl, rfl, rfl⟩ (by simp) ?_
  rw [State.mapDrive_drive]
  cases c with
  | blower =>
    exact ⟨⟨⟨blower.phase, mt disabled.1 blower.fitted, fun trip => blower.low (afterTrip.symm.trans trip),
        fun rests => blower.off (driving.symm.trans rests), fun drives => blower.on (driving.symm.trans drives)⟩,
      heater.congr rfl rfl, clutch.congr rfl⟩, follow.congr rfl rfl rfl,
      ⟨stages.within, fun some => (stages.permitted some).imp_left driving.trans,
        fun rests => (stages.off rests).imp_left driving.trans⟩⟩
  | heater =>
    exact ⟨⟨blower.congr rfl rfl rfl, ⟨heater.on.trans running.symm, disabled.trans heater.fitted, mt starting.1 heater.steady⟩,
      clutch.congr rfl⟩, follow.congr rfl rfl rfl, ⟨stages.within, stages.permitted, fun rests => stages.off (off.1 rests)⟩⟩
  | clutch =>
    exact ⟨⟨blower.congr rfl rfl rfl, heater.congr rfl rfl, ⟨disabled.trans clutch.fitted, mt starting.1 clutch.steady⟩⟩,
      ⟨follow.least, follow.duty, fun drives => follow.clutch (running.1 drives)⟩, stages.congr rfl rfl rfl rfl rfl⟩

theorem State.OutputsSound.unlockChannel {s : State} (h : s.OutputsSound) (c : Channel) : (s.unlockChannel c).OutputsSound := by
  unfold State.unlockChannel
  split
  next locked =>
    refine State.OutputsSound.channelEntersOff (h.setChannel (c := c) (x := { s.drive.channel c with trips := 0 }) (.of_state rfl)) ?_
    simp [locked, ChannelState.afterTrip]
  next => exact h

theorem State.OutputsSound.channelsUnlock {s : State} (h : s.OutputsSound) (b1 : Byte) : (s.channelsUnlock b1).OutputsSound := by
  have blower := h.when (b := b1.getLsbD 0) fun _ => h.unlockChannel .blower
  have heater := blower.when (b := b1.getLsbD 1) fun _ => blower.unlockChannel .heater
  exact heater.when fun _ => heater.unlockChannel .clutch

theorem State.OutputsSound.rehome {s : State} (h : s.OutputsSound) (x : Damper) : (s.rehome x).OutputsSound :=
  h.applyActuator x (Actuator.rehome_drivenUnder _ _)

/-- A frame taken in keeps the laws of the outputs, whatever its sorting. -/
theorem State.OutputsSound.hears {s : State} (h : s.OutputsSound) (o : Sorted) : (s.hears o).OutputsSound := by
  have good := h.heardGood
  cases o with
  | outside => exact h.heardWellFormed
  | conflict => exact h.heardConflict
  | badLength => exact h.countReception true
  | ignored => exact good
  | allowance b0 b1 b2 => exact (good.mapAllowance _).lower _
  | demand n d => exact good.mapPeers _
  | panel d => exact good.panelArrives d
  | conditionRead => exact (good.mapCond _).mapLine _
  | conditionClear b1 b2 b3 => exact good.mapCond _
  | conditionRelease => exact good.mapCond _
  | channelUnlock b1 => exact good.channelsUnlock b1
  | rehome => exact (good.rehome .fresh).rehome .blend

theorem State.OutputsSound.receives {s : State} (h : s.OutputsSound) (r : Reception) : (s.receives r).OutputsSound := by
  cases r with
  | error => exact h.countReception true
  | frame f => exact h.hears _

/-! ### Answers -/

/-- A command's answer meets the laws of the outputs. -/
def OutputsKept (o : Host.Outcome State Fault Refusal) : Prop := ∀ t, o = .next t → t.OutputsSound

theorem State.OutputsSound.kept {s : State} (h : s.OutputsSound) : OutputsKept (.next s) := fun _ e => Host.Outcome.next.inj e ▸ h

/-- An event that may not be under way. -/
theorem State.OutputsSound.kept_ite {s u : State} (h : s.OutputsSound) {p : Prop} [Decidable p] (k : p → u.OutputsSound) :
    OutputsKept (.next (if p then u else s)) := by
  refine State.OutputsSound.kept ?_
  split
  next hp => exact k hp
  next => exact h

/-- A level commanded on a slow line. -/
theorem State.OutputsSound.kept_onSlowEvent {s : State} (h : s.OutputsSound) {l : SlowLine} {b : Bool} {f : State → State}
    (k : (s.accept l b).OutputsSound → (f (s.accept l b)).OutputsSound) : OutputsKept (.next (s.onSlowEvent l b f)) := by
  have accepted : (s.accept l b).OutputsSound := h.mapInput _
  rcases s.onSlowEvent_cases l b f with ⟨-, e⟩ | ⟨-, e⟩ | ⟨-, e⟩ <;> rw [e]
  · exact ((k accepted).finish s).kept
  · exact accepted.kept
  · exact h.kept

/-- An accepted edge on a fast input. -/
theorem State.OutputsSound.onEdge {s : State} (h : s.OutputsSound) (x : FastInput) (rising : Bool) {f : State → State}
    (k : (s.acceptFast x rising).OutputsSound → (f (s.acceptFast x rising)).OutputsSound) : (s.onEdge x rising f).OutputsSound := by
  have accepted : (s.acceptFast x rising).OutputsSound := h.mapInput _
  rcases s.onEdge_cases x rising f with ⟨-, e⟩ | ⟨-, e⟩ | ⟨-, -, e⟩ <;> rw [e]
  · exact k accepted
  · exact accepted
  · exact h

theorem State.OutputsSound.onCapturedEdge {s : State} (h : s.OutputsSound) (x : FastInput) (rising : Bool) (capture : BitVec 16)
    (f : InputUnit → InputUnit) : (s.onCapturedEdge x rising capture (State.mapInput f)).OutputsSound :=
  h.when fun _ => h.onEdge x rising fun accepted => accepted.mapInput f

/-- An event at the receiver (R15). -/
theorem State.OutputsSound.reception {s : State} (h : s.OutputsSound) {f : State → State} (k : (f s).OutputsSound) :
    (s.reception f).OutputsSound := by
  unfold State.reception
  split
  · exact k.finish s
  · exact h

theorem State.OutputsSound.kept_hears {s : State} (h : s.OutputsSound) (o : Sorted) :
    OutputsKept (.next (s.reception (State.hears o))) :=
  (h.reception (h.hears o)).kept

/-! ### Start-up -/

/-- The heater group and the clutch at cold start are fitted or not as the configuration and the strap have them (R118). -/
theorem OutputChannel.cold_disabled_iff (fitted : Bool) : (OutputChannel.cold fitted).state = .disabled ↔ fitted = false := by
  cases fitted <;> simp [OutputChannel.cold]

theorem OutputChannel.cold_undriven (fitted : Bool) :
    (OutputChannel.cold fitted).state ≠ .starting ∧ (OutputChannel.cold fitted).state ≠ .running := by
  cases fitted <;> simp [OutputChannel.cold]

theorem Plan.cold_current (p : Params) : Plan.cold.current p = 0 := by
  simp [Plan.current, Plan.cold]

/-- The Drive Unit under the cold-start plan, no output driven and the dampers as at cold start (R118, R119, R131). -/
theorem DriveUnit.Sound.of_cold {p : Params} {hold : Bool} {d : DriveUnit} (plan : d.plan = Plan.cold) (duty : d.duty = 0)
    (stages : d.stages = 0) (fresh : d.fresh = Actuator.cold) (blend : d.blend = Actuator.cold) (phase : d.pwm.phase < 1000)
    (blower : d.blower.state = .off) (heater : d.heater = OutputChannel.cold (decide (0 < p.stagesFitted)))
    (clutch : d.clutch.state = .disabled ↔ hold = false) (undriven : d.clutch.state ≠ .starting ∧ d.clutch.state ≠ .running) :
    d.Sound p hold := by
  obtain ⟨steady, still⟩ := OutputChannel.cold_undriven (decide (0 < p.stagesFitted))
  have rests : d.blower.driving = false := by simp [OutputChannel.driving, blower]
  refine ⟨⟨⟨.of_undriven phase (by simp [blower]) (by simp [blower, ChannelState.afterTrip]) rests duty, ⟨?_, ?_, heater ▸ steady⟩,
    ⟨clutch, undriven.1⟩⟩, ⟨by simp [Plan.atLeast, plan, Plan.cold], duty ▸ Nat.zero_le _, fun running => absurd running undriven.2⟩,
    ⟨stages ▸ Nat.zero_le _, fun some => absurd some (by omega), fun _ => .inl rests⟩⟩, fun x => .of_stopped ?_⟩
  · rw [stages, heater]
    exact ⟨fun some => absurd some (Nat.lt_irrefl 0), fun running => absurd running still⟩
  · rw [heater, OutputChannel.cold_disabled_iff]
    simp
  · cases x with
    | fresh => exact congrArg Actuator.drive fresh
    | blend => exact congrArg Actuator.drive blend

theorem State.cold_outputsSound (straps : Straps) (pins : Pins) (pending : List Instr) (choices : Nat) :
    (State.cold straps pins pending choices).OutputsSound :=
  ⟨defaultParams_inRange, .of_cold rfl rfl rfl rfl rfl (Nat.zero_lt_succ _) rfl rfl (OutputChannel.cold_disabled_iff _)
    (OutputChannel.cold_undriven _), (Plan.cold_current _).le, fun some => absurd some (Nat.lt_irrefl 0),
    fun _ => ⟨rfl, rfl, rfl, rfl, rfl⟩⟩

/-- A configuration put in force in Loading finds the Drive Unit as at cold start (R118, R155). -/
theorem State.Inv.applyConfig_sound {s : State} (inv : s.Inv) (loading : s.node.state = .loading) {p : Params} (range : p.inRange) :
    (s.applyConfig p).OutputsSound := by
  have h := inv.outputsSound
  obtain ⟨applied, wanted, off⟩ := h.rests (by rw [loading]; decide)
  obtain ⟨fresh, blend, plan, blower, -, clutch, duty, stages⟩ := inv.loading loading
  have blowerOff : s.drive.blower.state = .off := by
    have fitted := h.drive.stand.blower.fitted
    cases state : s.drive.blower.state <;> simp_all [ChannelState.atRest]
  have undriven : s.drive.clutch.state ≠ .running := fun running => by
    rw [running] at clutch
    exact absurd clutch (by decide)
  refine ⟨range, .of_cold plan duty stages fresh blend h.drive.stand.blower.phase blowerOff rfl h.drive.stand.clutch.fitted
    ⟨h.drive.stand.clutch.steady, undriven⟩, ?_, fun some => ?_, fun _ => ⟨applied, wanted, off⟩⟩
  · rw [show (s.applyConfig p).drive.plan = Plan.cold from plan, Plan.cold_current]
    exact Nat.zero_le _
  · exact absurd (wanted ▸ some : 0 < 0) (Nat.lt_irrefl 0)

theorem execLoadingComplete_outputs {s : State} (inv : s.Inv) (image : Vector Byte 83) : OutputsKept (execLoadingComplete image s) := by
  refine inv.outputsSound.kept_ite fun loading => State.OutputsSound.finish ?_ s
  have applied := inv.applyConfig_sound loading (takeImage_inRange s.node.cfgm image)
  have rests : (s.applyConfig (takeImage s.node.cfgm image).1).node.state ≠ .running := fun running =>
    absurd (loading.symm.trans running) (by decide)
  cases (takeImage s.node.cfgm image).2 with
  | image => exact applied.enterListening rests
  | clampedImage => exact (applied.raise .configClamped).enterListening (by simpa using rests)
  | defaults => exact (applied.raise .configDefault).enterListening (by simpa using rests)

/-! ### The node, the line and the inputs -/

theorem execListeningTimerExpiry_outputs {s : State} (h : s.OutputsSound) : OutputsKept (execListeningTimerExpiry s) := by
  refine h.kept_ite fun _ => State.OutputsSound.finish ?_ s
  have expired := h.mapNode (f := fun n => { n with listening := .expired }) rfl id
  split
  · exact expired.enterRunning true
  · exact expired

theorem execParkingTimerExpiry_outputs {s : State} (h : s.OutputsSound) : OutputsKept (execParkingTimerExpiry s) := by
  refine h.kept_ite fun ⟨parking, _⟩ => State.OutputsSound.finish ?_ s
  have expired := h.mapNode (f := fun n => { n with parking := .expired }) rfl id
  split
  · exact expired
  · exact expired.beginLeaving parking

theorem State.OutputsSound.offer {s : State} (h : s.OutputsSound) : s.offer.OutputsSound := by
  unfold State.offer
  split
  · split
    · exact h
    · exact h.mapLine _
  · exact h

theorem State.OutputsSound.failOffer {s : State} (h : s.OutputsSound) : s.failOffer.OutputsSound :=
  h.same (by simp [State.sameGrounds]) (by simp)

/-- A completed Demand changes Lc and the take state alone, and a leaving one ends in Sleep (R56, R159). -/
theorem State.OutputsSound.demandCompletes {s : State} (h : s.OutputsSound) (c : Demand) (replaced : Bool) :
    (s.demandCompletes c replaced).OutputsSound := by
  have completed : ((s.mapLine (LineInterface.demandCompleted c replaced)).mapShare (ShareUnit.complete c.take)).OutputsSound :=
    h.same ⟨rfl, rfl, rfl, rfl, rfl⟩ rfl
  refine completed.when fun leaves => completed.enterSleep ?_
  simp only [Bool.and_eq_true, decide_eq_true_eq] at leaves
  rw [leaves.1.2]
  decide

theorem execDemandCompletion_outputs {s : State} (h : s.OutputsSound) : OutputsKept (execDemandCompletion s) := by
  refine State.OutputsSound.kept ?_
  split
  case h_1 => exact h
  case h_2 o _ =>
    split
    case h_1 c _ =>
      split
      · exact h.mapLine _
      · exact (h.demandCompletes c o.replaced).finish s
    all_goals exact h

theorem execFrameCompletion_outputs {s : State} (h : s.OutputsSound) : OutputsKept (execFrameCompletion s) := by
  refine State.OutputsSound.kept ?_
  split
  case h_1 => exact h
  case h_2 =>
    split
    case h_1 => exact h
    all_goals
      split
      · exact h.mapLine _
      · exact (h.mapLine _).finish s

theorem State.OutputsSound.foldl {α : Type} {f : State → α → State}
    (step : ∀ {s : State} (a : α), s.OutputsSound → (f s a).OutputsSound) :
    ∀ (l : List α) {s : State}, s.OutputsSound → (l.foldl f s).OutputsSound
  | [], _, h => h
  | a :: l, _, h => State.OutputsSound.foldl step l (step a h)

theorem State.OutputsSound.closeSensor {s : State} (h : s.OutputsSound) (x : Sensor) : (s.closeSensor x).OutputsSound := by
  unfold State.closeSensor
  dsimp only
  split
  · exact State.OutputsSound.same (s := s.mapSensor x SensorEntry.close) (h.mapInput _) (by simp [State.sameGrounds]) (by simp)
  · exact h.mapInput _

/-- A window's tach value judges the blower's stall timer alone (R125). -/
theorem State.OutputsSound.handTach {s : State} (h : s.OutputsSound) : s.handTach.OutputsSound := by
  unfold State.handTach
  split
  · exact h
  next rpm _ =>
    have judged : s.drive.judgeTach rpm = { s.drive with stall := (s.drive.judgeTach rpm).stall } := by
      unfold DriveUnit.judgeTach
      (repeat' split) <;> rfl
    obtain ⟨channels, dampers⟩ := h.drive
    refine h.of_drive ⟨rfl, rfl, rfl, rfl, rfl⟩ ?_ ?_
    · rw [State.mapDrive_drive, judged]
    · rw [State.mapDrive_drive, judged]
      refine ⟨channels.congr rfl, fun x => ?_⟩
      cases x with
      | fresh => exact dampers .fresh
      | blend => exact dampers .blend

theorem execWindowClose_outputs {s : State} (h : s.OutputsSound) : OutputsKept (execWindowClose s) :=
  h.kept_ite fun _ => State.OutputsSound.finish (State.OutputsSound.handTach (State.OutputsSound.mapInput
    (State.OutputsSound.foldl (fun x k => k.closeSensor x) allSensors (h.mapInput _)) _)) s

/-! ### The Air Unit -/

theorem State.OutputsSound.doorCloses {s : State} (h : s.OutputsSound) (d : Door) : (s.doorCloses d).OutputsSound := by
  unfold State.doorCloses
  split
  · exact State.OutputsSound.sourceChanged (h.mapAir rfl)
  · exact h

theorem State.OutputsSound.doorOpens {s : State} (h : s.OutputsSound) (d : Door) : (s.doorOpens d).OutputsSound := by
  unfold State.doorOpens
  split
  · exact State.OutputsSound.sourceChanged (h.mapAir rfl)
  · exact h

/-! ### The channels and the actuators -/

theorem State.OutputsSound.trip {s : State} (h : s.OutputsSound) {c : Channel} (k : TripCause)
    (driving : (s.drive.channel c).driving = true) : (s.trip c k).OutputsSound := by
  refine h.of_channels (by simp [State.sameGrounds]) (by simp) (State.trip_sound h.drive.stand h.drive.follow k ?_)
  rcases (OutputChannel.driving_iff _).1 driving with starting | running
  · simp [starting]
  · simp [running]

theorem execOverCurrentAsserted_outputs {s : State} (h : s.OutputsSound) (c : Channel) :
    OutputsKept (execOverCurrentAsserted c s) :=
  h.kept_onSlowEvent fun accepted => accepted.when fun driving => accepted.trip .overCurrent driving

/-- A Tripped channel whose line clears waits on in Cooldown (R126). -/
theorem OutputChannel.lineCleared_readsAs (c : OutputChannel) : c.ReadsAs c.lineCleared := by
  unfold OutputChannel.lineCleared
  split
  next tripped => exact .of_afterTrip (by rw [tripped]; rfl) rfl
  next => exact .of_state rfl

theorem execChannelLock_outputs {s : State} (h : s.OutputsSound) (c : Channel) (k : TripCause) :
    OutputsKept (execChannelLock c k s) := by
  refine h.kept_ite fun ⟨trips, _⟩ => State.OutputsSound.finish ?_ s
  cases k with
  | overCurrent =>
    simp only [State.tripsBy, Bool.and_eq_true] at trips
    exact State.OutputsSound.trip (s := s.accept c.line true) (h.mapInput _) .overCurrent trips.2
  | stall =>
    simp only [State.tripsBy, Bool.and_eq_true, decide_eq_true_eq] at trips
    obtain ⟨⟨rfl, -⟩, running⟩ := trips
    exact h.trip .stall ((OutputChannel.driving_iff _).2 (.inr running))

theorem execRampTimerExpiry_outputs {s : State} (h : s.OutputsSound) : OutputsKept (execRampTimerExpiry s) := by
  refine h.kept_ite fun ⟨_, driving⟩ => State.OutputsSound.finish ?_ s
  obtain ⟨stand, follow⟩ := DriveUnit.rampExpired_stands h.drive.stand h.drive.follow driving
  refine h.of_channels (by simp [State.sameGrounds]) ?_ (State.settleHeater_sound (s := s.mapDrive DriveUnit.rampExpired) stand follow)
  rw [State.settleHeater_dampers, State.mapDrive_drive]
  unfold DriveUnit.rampExpired
  dsimp only
  split <;> rfl

/-- An expiry at an actuator whose drive the act leaves within the plan. -/
theorem State.OutputsSound.kept_actuator {s : State} (h : s.OutputsSound) (d : Damper) {p : Prop} [Decidable p] {r : ActuatorStep}
    (driven : p → (s.drive.actuator d).DrivenUnder s.drive.plan.held → r.act.DrivenUnder s.drive.plan.held) :
    OutputsKept (.next (if p then (s.applyActuator d r).finish s else s)) :=
  h.kept_ite fun under => (h.applyActuator d (driven under (h.drive.dampers d))).finish s

theorem execHallEdge_outputs {s : State} (h : s.OutputsSound) (d : Damper) : OutputsKept (execHallEdge d s) :=
  State.OutputsSound.kept <| h.onEdge d.line true fun accepted =>
    (accepted.applyActuator d (Actuator.edge_drivenUnder _ _ (accepted.drive.dampers d))).finish s

theorem execCoastTimerExpiry_outputs {s : State} (h : s.OutputsSound) (d : Damper) : OutputsKept (execCoastTimerExpiry d s) := by
  refine h.kept_ite fun _ => h.of_drive ⟨rfl, rfl, rfl, rfl, rfl⟩ (DriveUnit.setActuator_plan _ _ d) ?_
  obtain ⟨stopped, driven⟩ := h.drive.dampers d
  exact h.drive.setActuator d (a := (s.drive.actuator d).coastExpired) ⟨stopped, driven⟩

/-! ### One microsecond -/

/-- A microsecond moves the generator on, a new cycle on the figure that holds (R120). -/
theorem DriveUnit.Sound.tick {p : Params} {hold : Bool} {d : DriveUnit} (h : d.Sound p hold) (kHz : Nat) (most : kHz ≤ 1000) :
    (d.tick kHz).Sound p hold := by
  obtain ⟨⟨⟨⟨phase, fitted, low, off, on⟩, heater, clutch⟩, follow, stages⟩, dampers⟩ := h
  have cycle : (d.pwm.tick kHz d.duty).phase < 1000 ∧ (d.blower.state.afterTrip = true → (d.pwm.tick kHz d.duty).figure = 0) := by
    unfold PwmGenerator.tick
    split
    next within => exact ⟨within, low⟩
    next =>
      refine ⟨by dsimp only; omega, fun trip => off ?_⟩
      exact (OutputChannel.states_of_afterTrip trip).1
  refine ⟨⟨⟨⟨cycle.1, fitted, cycle.2, off, on⟩, ⟨heater.on, heater.fitted, heater.steady⟩, ⟨clutch.fitted, clutch.steady⟩⟩,
    ⟨follow.least, follow.duty, follow.clutch⟩, ⟨stages.within, stages.permitted, stages.off⟩⟩, fun x => ?_⟩
  obtain ⟨stopped, driven⟩ := dampers x
  cases x <;> exact ⟨stopped, driven⟩

theorem State.OutputsSound.advance {s : State} (h : s.OutputsSound) : s.advance.OutputsSound := by
  refine h.of_drive ⟨rfl, rfl, rfl, rfl, rfl⟩ rfl (h.drive.tick s.params.pwmFrequency ?_)
  obtain ⟨-, ⟨-, -, -, -, -, -, ⟨-, most⟩, -⟩, -⟩ := h.params
  omega

theorem State.OutputsSound.sample {s : State} (h : s.OutputsSound) : s.sample.OutputsSound := by
  have fast : s.sampleFastInputs.OutputsSound := State.OutputsSound.foldl (fun x k => by
    unfold State.sampleFastInput
    dsimp only
    split <;> exact k.same ⟨rfl, rfl, rfl, rfl, rfl⟩ rfl) allFastInputs h
  unfold State.sample
  dsimp only
  split
  · refine State.OutputsSound.foldl (fun l k => ?_) allSlowLines fast
    unfold State.sampleSlowLine
    dsimp only
    split <;> exact k.same ⟨rfl, rfl, rfl, rfl, rfl⟩ rfl
  · exact fast

/-! ### Every command -/

/-- Every command keeps the laws of the outputs. -/
theorem exec_outputs (c : Instr) {s : State} (inv : s.Inv) : OutputsKept (exec c s) := by
  have h := inv.outputsSound
  cases c with
  | coldStart straps => exact (State.cold_outputsSound _ _ _ _).kept
  | loadingComplete image => exact execLoadingComplete_outputs inv image
  | listeningTimerExpiry => exact execListeningTimerExpiry_outputs h
  | supplyOkAsserted => exact h.kept_onSlowEvent fun accepted => accepted.supplyReturns
  | supplyOkDeasserted => exact h.kept_onSlowEvent fun accepted => accepted.supplyFails
  | ignAcceptedLow => exact h.kept_onSlowEvent fun accepted => accepted.ignitionOff
  | ignAcceptedHigh => exact h.kept_onSlowEvent fun accepted => accepted.ignitionOn
  | sleepDelayExpiry => exact h.kept_ite fun _ => h.enterParking.finish s
  | parkingTimerExpiry => exact execParkingTimerExpiry_outputs h
  | leavingTimerExpiry => exact h.kept_ite fun ⟨parking, _⟩ => (h.enterSleep (by rw [parking]; decide)).finish s
  | allowanceArrival nodeField b0 b1 b2 => exact h.kept_hears _
  | demandArrival sender data => exact h.kept_hears _
  | panelArrival data => exact h.kept_hears _
  | conditionRead => exact h.kept_hears _
  | conditionClear b1 b2 b3 => exact h.kept_hears _
  | conditionRelease => exact h.kept_hears _
  | channelUnlock b1 => exact h.kept_hears _
  | rehomeDampers => exact h.kept_hears _
  | ignoredFrame f => exact h.kept_ite fun _ => h.reception (h.hears _)
  | outsideExchangeFrame f b => exact h.kept_ite fun _ => h.reception (h.hears _)
  | receiveError => exact (h.reception (h.countReception true)).kept
  | addressConflict f => exact h.kept_ite fun _ => h.reception (h.hears _)
  | errorWindowClose r => exact h.kept_ite fun _ => h.reception (h.receives r)
  | offerFrame => exact h.offer.kept
  | lostArbitration => exact (h.mapLine _).kept
  | transmitFailure => exact (h.failOffer.finish s).kept
  | lineOff => exact h.kept_ite fun _ => h.failOffer.finish s
  | demandCompletion => exact execDemandCompletion_outputs h
  | frameCompletion => exact execFrameCompletion_outputs h
  | lineOffTimerExpiry => exact h.kept_ite fun _ => ((h.mapLine _).lower _).finish s
  | inhibitTimerExpiry => exact h.kept_ite fun _ => ((h.mapLine _).when fun _ => (h.mapLine _).handDemand).finish s
  | refreshTimerExpiry => exact h.kept_ite fun _ => ((h.mapLine _).when fun _ => (h.mapLine _).handDemand).finish s
  | statusTimerExpiry =>
    exact h.kept_ite fun _ => (h.same (by simp [State.sameGrounds]) (by simp)).finish s
  | statusBGuardExpiry => exact h.kept_ite fun _ => (h.mapLine _).finish s
  | silenceTimerExpiry => exact h.kept_ite fun _ => (h.mapLine _).setIsolated.finish s
  | peerAging n => exact h.kept_ite fun _ => (h.mapPeers _).finish s
  | peerStale n => exact h.kept_ite fun _ => (h.mapPeers _).finish s
  | peerHoldLimit n => exact h.kept_ite fun _ => (h.mapPeers _).finish s
  | allowanceTimeout => exact h.kept_ite fun _ => ((h.mapAllowance _).raise _).finish s
  | shareExpiry => exact h.kept_ite fun ⟨running, _⟩ => (h.changeTake fun rests => absurd running rests).finish s
  | airExpiry => exact h.kept_ite fun ⟨running, _⟩ => (h.airWork running).finish s
  | clearingHoldComplete => exact h.kept_ite fun ⟨running, _⟩ => (h.airWork running).finish s
  | doorCloseEvent d => exact h.kept_onSlowEvent fun accepted => accepted.doorCloses d
  | doorOpenEvent d => exact h.kept_onSlowEvent fun accepted => accepted.doorOpens d
  | boostTimerExpiry =>
    exact h.kept_ite fun _ => (State.OutputsSound.sourceChanged (h.mapAir (f := AirUnit.endBoost) rfl)).finish s
  | purgeTimerExpiry =>
    exact h.kept_ite fun _ => (State.OutputsSound.sourceChanged ((h.raise _).mapAir (f := AirUnit.purgeTimedOut) rfl)).finish s
  | lockoutTimerExpiry =>
    exact h.kept_ite fun _ => ((h.mapAir (f := fun a => { a with lockout := .expired }) rfl).lower _).finish s
  | minimumOnExpiry => exact h.kept_ite fun _ => h.mapAir rfl
  | minimumOffExpiry => exact h.kept_ite fun _ => h.mapAir rfl
  | overrideLifetimeExpiry =>
    exact h.kept_ite fun _ => (State.OutputsSound.settleFresh (h.mapAir (f := AirUnit.lapse) rfl)).finish s
  | temperatureEdge t rising capture => exact (h.onCapturedEdge t.line rising capture _).kept
  | smokeEdge k rising capture => exact (h.onCapturedEdge k.line rising capture _).kept
  | tachEdge => exact (h.onEdge .tach true fun accepted => accepted.mapInput _).kept
  | edgeTimeoutExpiry x => exact h.kept_ite fun _ => h.mapInput _
  | windowClose => exact execWindowClose_outputs h
  | hallEdge d => exact execHallEdge_outputs h d
  | overCurrentAsserted c => exact execOverCurrentAsserted_outputs h c
  | channelLock c cause => exact execChannelLock_outputs h c cause
  | overCurrentCleared c => exact h.kept_onSlowEvent fun accepted => accepted.setChannel (OutputChannel.lineCleared_readsAs _)
  | rampTimerExpiry => exact execRampTimerExpiry_outputs h
  | blowerStallExpiry =>
    exact h.kept_ite fun ⟨_, running⟩ => (h.trip (c := .blower) .stall ((OutputChannel.driving_iff _).2 (.inr running))).finish s
  | cooldownTimerExpiry c =>
    exact h.kept_ite fun ⟨cooldown, _⟩ => (h.channelEntersOff (by rw [cooldown]; rfl)).finish s
  | cleanRunExpiry c => exact h.kept_ite fun _ => h.setChannel (c := c) (.of_state rfl)
  | damperStall d => exact h.kept_actuator d fun _ driven => Actuator.stall_drivenUnder _ _ driven
  | coastTimerExpiry d => exact execCoastTimerExpiry_outputs h d
  | reversalTimerExpiry d =>
    exact h.kept_actuator d fun ⟨state, _⟩ driven =>
      Actuator.reversalExpired_drivenUnder _ (driven.idle (by simp [state]) (by simp [state]))
  | homingTimerExpiry d => exact h.kept_actuator d fun _ _ => Actuator.homingExpired_drivenUnder _ _
  | retryTimerExpiry d =>
    exact h.kept_actuator d fun ⟨state, _⟩ driven =>
      Actuator.retryExpired_drivenUnder _ (driven.idle (by simp [state]) (by simp [state]))
  | autoReleaseExpiry => exact h.kept_ite fun _ => (h.mapCond _).finish s
  | frameDiscardedForLength f => exact h.kept_ite fun _ => h.reception (h.hears _)

/-! ### Every step -/

theorem step_keeps_outputs {s t : State} (inv : s.Inv) (h : step s = .next t) : t.OutputsSound := by
  unfold step at h
  split at h
  case h_1 c rest _ => exact exec_outputs c (inv.with_queue rest s.choices) t h
  case h_2 =>
    unfold idle at h
    split at h
    case h_1 =>
      cases h
      exact inv.outputsSound.advance.sample
    case h_2 c _ => exact exec_outputs c (inv.with_queue s.pending (s.choices + 1)) t h

/-- Settles O57: the laws of the outputs, which the invariant gives of every state, hold through each act of the channels, of the
actuators and of the take, and the pins are computed from what is driven. -/
theorem outputsWithinTakeKept : Obligations.OutputsWithinTakeKept := by
  intro s t inv h
  have sound := step_keeps_outputs inv h
  exact ⟨sound.withinTake, sound.withinPlan, sound.heaterSafe, sound.outputLaws, sound.pinsDriven⟩

end Sys2Proof.Machine
end

section
/-! The dampers within their travel (R131): what each act of an actuator makes of its position estimate and its target count. -/

namespace Sys2Proof.Machine

/-! ### Position and target count -/

/-- The position estimate and the target count of an actuator. -/
def Actuator.counts (a : Actuator) : Nat × Nat := (a.position, a.target)

/-- The position estimate and the target count lie within the full travel (R131). -/
structure Actuator.Within (travel : Nat) (a : Actuator) : Prop where
  position : a.position ≤ travel
  target : a.target ≤ travel

theorem Actuator.Within.congr {travel : Nat} {a b : Actuator} (h : a.Within travel) (counts : b.counts = a.counts) :
    b.Within travel := by
  obtain ⟨position, target⟩ := Prod.mk.inj counts
  exact ⟨position ▸ h.position, target ▸ h.target⟩

/-! ### Acts that leave both -/

@[simp] theorem Actuator.stopDrive_counts (a : Actuator) : a.stopDrive.counts = a.counts := by
  unfold Actuator.stopDrive
  split <;> rfl

@[simp] theorem Actuator.startTest_counts (held asleep : Bool) (a : Actuator) : (a.startTest held asleep).counts = a.counts := by
  unfold Actuator.startTest
  (repeat' split) <;> rfl

@[simp] theorem Actuator.completedMove_counts (held asleep : Bool) (a : Actuator) :
    (a.completedMove held asleep).act.counts = a.counts :=
  Actuator.startTest_counts held asleep { a with state := .idle, stalls := 0 }

@[simp] theorem Actuator.idleAndTest_counts (held asleep : Bool) (a : Actuator) :
    (a.idleAndTest held asleep).act.counts = a.counts := by
  unfold Actuator.idleAndTest
  split
  · exact Actuator.completedMove_counts held asleep a
  · exact Actuator.startTest_counts held asleep { a with state := .idle }

@[simp] theorem Actuator.enterHoming_counts (a : Actuator) : a.enterHoming.counts = a.counts := rfl

@[simp] theorem Actuator.hold_counts (r : Resume) (a : Actuator) : (a.hold r).counts = a.counts := a.stopDrive_counts

@[simp] theorem Actuator.resumed_counts (asleep : Bool) (a : Actuator) : (a.resumed asleep).act.counts = a.counts := by
  unfold Actuator.resumed
  dsimp only
  split
  · rfl
  · rfl
  all_goals exact Actuator.idleAndTest_counts false asleep { a with resume := none }

@[simp] theorem Actuator.takePlan_counts (held asleep : Bool) (a : Actuator) : (a.takePlan held asleep).act.counts = a.counts := by
  unfold Actuator.takePlan
  (repeat' split) <;> simp [Actuator.quietly]

@[simp] theorem Actuator.homingExpired_counts (a : Actuator) : a.homingExpired.act.counts = a.counts := a.stopDrive_counts

@[simp] theorem Actuator.retryExpired_counts (held asleep : Bool) (a : Actuator) :
    (a.retryExpired held asleep).act.counts = a.counts := by
  unfold Actuator.retryExpired
  split
  · rfl
  · exact Actuator.idleAndTest_counts held asleep { a with retry := .stopped }

@[simp] theorem Actuator.reversalExpired_counts (held asleep : Bool) (a : Actuator) :
    (a.reversalExpired held asleep).act.counts = a.counts :=
  Actuator.idleAndTest_counts held asleep { a with reversal := .stopped }

@[simp] theorem Actuator.rehome_counts (held : Bool) (a : Actuator) : (a.rehome held).act.counts = a.counts := by
  unfold Actuator.rehome
  dsimp only
  split <;> exact a.stopDrive_counts

@[simp] theorem Actuator.sleep_counts (a : Actuator) : a.sleep.counts = a.counts := by
  unfold Actuator.sleep
  dsimp only
  split <;> exact a.stopDrive_counts

/-! ### Acts that move the one or take the other -/

/-- A target of at most 1000 thousandths is a count within the travel (R131). -/
theorem Actuator.handTarget_within {travel target : Nat} (held asleep : Bool) {a : Actuator} (h : a.Within travel)
    (most : target ≤ 1000) : (a.handTarget travel held asleep target).act.Within travel := by
  have count : target * travel / 1000 ≤ travel :=
    Nat.div_le_of_le_mul (Nat.mul_le_mul_right travel most)
  have taken : ({ a with target := target * travel / 1000 } : Actuator).Within travel := ⟨h.position, count⟩
  unfold Actuator.handTarget
  extract_lets c b
  split
  · exact h
  · split
    · exact taken.congr (b.startTest_counts _ _)
    · split
      · exact taken.congr ((Actuator.completedMove_counts _ _ _).trans b.stopDrive_counts)
      · split
        · exact taken
        · exact taken.congr b.stopDrive_counts
    all_goals exact taken

/-- An edge moves the estimate by one within 0 and the travel (R132). -/
theorem Actuator.moved_within {travel : Nat} (d : Direction) {a : Actuator} (h : a.Within travel) :
    (a.moved travel d).Within travel := by
  cases d with
  | towardZero => exact ⟨(Nat.sub_le _ _).trans h.position, h.target⟩
  | towardFull =>
    refine ⟨?_, h.target⟩
    dsimp only [Actuator.moved]
    split
    next below => exact below
    next => exact h.position

theorem Actuator.edge_within {travel : Nat} (held asleep : Bool) {a : Actuator} (h : a.Within travel) :
    (a.edge travel held asleep).act.Within travel := by
  unfold Actuator.edge
  split
  next d _ =>
    have moved := Actuator.moved_within d h
    dsimp only
    split
    · exact moved.congr (by simp; rfl)
    · exact moved.congr rfl
  next =>
    have moved := Actuator.moved_within a.last h
    split
    · dsimp only
      split
      · exact moved.congr (Actuator.startTest_counts _ _ _)
      · exact moved
    · exact h

/-- A damper that has found its closed or cold end stands at 0 (R134, R137). -/
theorem Actuator.homed_within {travel : Nat} (held asleep : Bool) {a : Actuator} (h : a.Within travel) :
    (a.homed held asleep).act.Within travel := by
  obtain ⟨-, target⟩ := h.congr a.stopDrive_counts
  exact Actuator.Within.congr (a := { a.stopDrive with position := 0, homing := .stopped }) ⟨Nat.zero_le _, target⟩
    (Actuator.completedMove_counts _ _ _)

theorem Actuator.stall_within {travel : Nat} (held asleep : Bool) {a : Actuator} (h : a.Within travel) :
    (a.stall travel held asleep).act.Within travel := by
  unfold Actuator.stall
  (repeat' split)
  · exact Actuator.homed_within held asleep h
  · exact Actuator.homed_within held asleep h
  · exact h.congr a.stopDrive_counts
  · exact h.congr a.stopDrive_counts
  all_goals exact h

/-! ### The two dampers under the acts of the channels and of a plan -/

/-- The position estimates and the target counts of both dampers. -/
def DriveUnit.travels (d : DriveUnit) : (Nat × Nat) × (Nat × Nat) := (d.fresh.counts, d.blend.counts)

theorem DriveUnit.counts_of_travels {d e : DriveUnit} (h : e.travels = d.travels) (x : Damper) :
    (e.actuator x).counts = (d.actuator x).counts := by
  obtain ⟨fresh, blend⟩ := Prod.mk.inj h
  cases x
  exacts [fresh, blend]

theorem DriveUnit.travels_of_dampers {d e : DriveUnit} (h : e.dampers = d.dampers) : e.travels = d.travels := by
  obtain ⟨-, actuators⟩ := DriveUnit.eq_of_dampers h
  exact congrArg₂ (fun a b : Actuator => (a.counts, b.counts)) (actuators .fresh) (actuators .blend)

theorem DriveUnit.setActuator_travels {d : DriveUnit} {a : Actuator} {x : Damper} (h : a.counts = (d.actuator x).counts) :
    (d.setActuator a x).travels = d.travels := by
  cases x
  · exact congrArg (·, d.blend.counts) h
  · exact congrArg (d.fresh.counts, ·) h

@[simp] theorem DriveUnit.setChannel_travels (d : DriveUnit) (x : OutputChannel) (c : Channel) :
    (d.setChannel x c).travels = d.travels :=
  DriveUnit.travels_of_dampers (d.setChannel_dampers x c)

@[simp] theorem State.settleHeater_travels (s : State) : s.settleHeater.drive.travels = s.drive.travels :=
  DriveUnit.travels_of_dampers s.settleHeater_dampers

@[simp] theorem State.trip_travels (c : Channel) (k : TripCause) (s : State) : (s.trip c k).drive.travels = s.drive.travels :=
  DriveUnit.travels_of_dampers (s.trip_dampers c k)

@[simp] theorem State.channelEntersOff_travels (c : Channel) (s : State) :
    (s.channelEntersOff c).drive.travels = s.drive.travels :=
  DriveUnit.travels_of_dampers (s.channelEntersOff_dampers c)

@[simp] theorem State.unlockChannel_travels (c : Channel) (s : State) : (s.unlockChannel c).drive.travels = s.drive.travels := by
  unfold State.unlockChannel
  split <;> simp

@[simp] theorem State.channelsTakePlan_travels (s : State) : s.channelsTakePlan.drive.travels = s.drive.travels := by
  obtain ⟨-, actuators⟩ := s.channelsTakePlan_dampers
  exact congrArg₂ (fun a b : Actuator => (a.counts, b.counts)) (actuators .fresh) (actuators .blend)

@[simp] theorem State.handPlan_travels (q : Plan) (s : State) : (s.handPlan q).drive.travels = s.drive.travels := by
  rw [State.handPlan_drive]
  simp [DriveUnit.travels]

@[simp] theorem State.makePlan_travels (s : State) : s.makePlan.drive.travels = s.drive.travels := by
  simp [State.makePlan]

@[simp] theorem State.changeTake_travels (f : ShareUnit → ShareUnit) (s : State) :
    (s.changeTake f).drive.travels = s.drive.travels := by
  unfold State.changeTake
  dsimp only
  split <;> simp

end Sys2Proof.Machine
end

section
/-! The samples in progress at the Input Unit (R103 to R105, R107): what a new level, an edge, a window and a microsecond make of
them. -/

namespace Sys2Proof.Machine

/-! ### The sensors and their inputs -/

/-- The fast input of a sensor (Table 7-1). -/
def Sensor.line : Sensor → FastInput
  | .cabTemp => .tempCab
  | .dischargeTemp => .tempDis
  | .intakeTemp => .tempInt
  | .intakeSmoke => .smkInt
  | .cabSmoke => .smkCab

theorem Sensor.line_inj {x y : Sensor} (h : x.line = y.line) : x = y := by
  revert h
  cases x <;> cases y <;> simp [Sensor.line]

theorem TempInput.sensor_line (x : TempInput) : x.sensor.line = x.line := by cases x <;> rfl

theorem SmokeInput.sensor_line (k : SmokeInput) : k.sensor.line = k.line := by cases k <;> rfl

/-- Both edges of a sensor's input are events (R103). -/
theorem Sensor.line_seen (x : Sensor) : x.line.fallsUnseen = false := by cases x <;> rfl

/-- Every sample in progress is as its edges and its edge timeout leave it. -/
def InputUnit.Paced (i : InputUnit) : Prop :=
  ∀ x : Sensor, (i.sensors.get x).paced i.captureTimer (i.fast.get x.line).accepted = true

theorem State.sampleLaws_iff (s : State) : s.sampleLaws ↔ s.input.Paced := by
  refine ⟨fun ⟨temperature, smoke⟩ x => ?_, fun paced => ⟨fun x => ?_, fun k => ?_⟩⟩
  · cases x with
    | cabTemp => exact temperature .cab
    | dischargeTemp => exact temperature .discharge
    | intakeTemp => exact temperature .intake
    | intakeSmoke => exact smoke .intake
    | cabSmoke => exact smoke .cab
  · rw [State.samplePaced, ← x.sensor_line]; exact paced x.sensor
  · rw [State.samplePaced, ← k.sensor_line]; exact paced k.sensor

/-! ### New levels and edges -/

/-- Before the first acceptance of its input a sensor has no sample in progress. -/
theorem SensorEntry.paced_of_unaccepted {e : SensorEntry} {now : BitVec 16} (h : e.paced now none = true) (now' : BitVec 16)
    (level : Option Bool) : e.paced now' level = true := by
  refine SensorEntry.paced_of_none ?_ _ _
  unfold SensorEntry.paced at h
  split at h
  · assumption
  all_goals simp at h

/-- A level taken on a fast input without an edge of a sensor. -/
theorem InputUnit.Paced.setFast {i : InputUnit} (h : i.Paced) {l : FastInput} {v : Sampler} {pins : Pins}
    (still : v.accepted = (i.fast.get l).accepted ∨ (i.fast.get l).accepted = none ∨ ∀ x : Sensor, x.line ≠ l) :
    ({ i with fast := i.fast.set v l, pins := pins } : InputUnit).Paced := fun x => by
  have paced := h x
  dsimp only
  by_cases own : x.line = l
  · subst own
    rw [FastSamplers.get_set]
    rcases still with level | first | other
    · rw [level]; exact paced
    · rw [first] at paced; exact SensorEntry.paced_of_unaccepted paced _ _
    · exact absurd rfl (other x)
  · rw [FastSamplers.get_set_of_ne _ _ own]
    exact paced

/-- An entry replaced at one sensor, its input's level with it. -/
theorem InputUnit.Paced.setEdge {i : InputUnit} (h : i.Paced) {x : Sensor} {v : Sampler} {e : SensorEntry} {pins : Pins}
    (paced : e.paced i.captureTimer v.accepted = true) :
    ({ i with fast := i.fast.set v x.line, pins := pins, sensors := i.sensors.set e x } : InputUnit).Paced := fun y => by
  dsimp only
  by_cases same : y = x
  · subst same
    rw [FastSamplers.get_set, SensorTable.get_set]
    exact paced
  · rw [FastSamplers.get_set_of_ne _ _ fun line => same (Sensor.line_inj line), SensorTable.get_set_of_ne _ _ same]
    exact h y

/-! ### Entries -/

/-- Entries changed without touching a sample but to discard it. -/
theorem InputUnit.Paced.of_entries {i j : InputUnit} (h : i.Paced) (timer : j.captureTimer = i.captureTimer) (fast : j.fast = i.fast)
    (entries : ∀ x : Sensor, (j.sensors.get x).sample = .none ∨
      (j.sensors.get x).sample = (i.sensors.get x).sample ∧ (j.sensors.get x).edgeTimeout = (i.sensors.get x).edgeTimeout) :
    j.Paced := fun x => by
  rcases entries x with none | ⟨sample, timeout⟩
  · exact SensorEntry.paced_of_none none _ _
  · rw [SensorEntry.paced_congr sample timeout, timer, fast]
    exact h x

theorem InputUnit.Paced.same {i j : InputUnit} (h : i.Paced) (timer : j.captureTimer = i.captureTimer) (fast : j.fast = i.fast)
    (sensors : j.sensors = i.sensors) : j.Paced :=
  h.of_entries timer fast fun _ => .inr (by rw [sensors]; exact ⟨rfl, rfl⟩)

theorem SensorTable.get_map (f : SensorEntry → SensorEntry) (t : SensorTable) (x : Sensor) : (t.map f).get x = f (t.get x) := by
  cases x <;> rfl

/-- One entry changed without touching its sample but to discard it. -/
theorem InputUnit.Paced.mapSensor {i : InputUnit} (h : i.Paced) (x : Sensor) {f : SensorEntry → SensorEntry}
    (entry : ∀ e, (f e).sample = .none ∨ (f e).sample = e.sample ∧ (f e).edgeTimeout = e.edgeTimeout) :
    ({ i with sensors := i.sensors.set (f (i.sensors.get x)) x } : InputUnit).Paced :=
  h.of_entries rfl rfl fun y => by
    by_cases same : y = x
    · subst same
      rw [SensorTable.get_set]
      exact entry _
    · rw [SensorTable.get_set_of_ne _ _ same]
      exact .inr ⟨rfl, rfl⟩

theorem SensorEntry.close_sample (e : SensorEntry) : e.close.sample = e.sample ∧ e.close.edgeTimeout = e.edgeTimeout := by
  unfold SensorEntry.close
  dsimp only
  (repeat' split) <;> exact ⟨rfl, rfl⟩

theorem InputUnit.Paced.startWindows {i : InputUnit} (h : i.Paced) : i.startWindows.Paced :=
  h.of_entries rfl rfl fun x => .inr (by rw [InputUnit.startWindows, SensorTable.get_map]; exact ⟨rfl, rfl⟩)

theorem InputUnit.sleep_paced (i : InputUnit) : i.sleep.Paced := fun x =>
  SensorEntry.paced_of_none (by rw [InputUnit.sleep, SensorTable.get_map]; rfl) _ _

theorem InputUnit.cold_paced (pins : Pins) : (InputUnit.cold pins).Paced := fun x =>
  SensorEntry.paced_of_none (by cases x <;> rfl) _ _

/-! ### One microsecond -/

/-- A microsecond passes only while no edge timeout is due (R104). -/
theorem InputUnit.Paced.tick {i : InputUnit} (h : i.Paced)
    (before : ∀ x : Sensor, (i.sensors.get x).edgeTimeout.due edgeTimeoutLimit = false) : i.tick.Paced := fun x => by
  rw [InputUnit.tick]
  dsimp only
  rw [SensorTable.get_map]
  exact SensorEntry.tick_paced (h x) (before x)

/-- With nothing due, no edge timeout is. -/
theorem timeouts_of_nothing_due {s : State} (h : dueEvents s = []) (x : Sensor) :
    (s.input.sensors.get x).edgeTimeout.due edgeTimeoutLimit = false := by
  have input : dueInput s = [] := by
    simp only [dueEvents, List.append_eq_nil_iff] at h
    exact h.1.2
  have listed : x ∈ allSensors := by cases x <;> decide
  simp only [dueInput, List.append_eq_nil_iff, List.flatMap_eq_nil_iff] at input
  simpa [dueWhen] using input.1 x listed

theorem Sampler.sample_accepted {v : Sampler} {level : Bool} (h : (v.sample level).2 = none) :
    (v.sample level).1.accepted = v.accepted ∨ v.accepted = none := by
  unfold Sampler.sample at h ⊢
  dsimp only at h ⊢
  (repeat' split) <;> simp_all

theorem Sampler.await_accepted (v : Sampler) (level : Bool) :
    (v.await level).accepted = v.accepted ∨ v.accepted = none := by
  unfold Sampler.await
  split
  next y silent =>
    have kept := Sampler.sample_accepted (v := v) (level := level) (by rw [silent])
    rw [silent] at kept
    exact kept
  next => exact .inl rfl

/-- Sampling a fast input leaves the edge of a sensor to its command (R103). -/
theorem State.sampleFastInput_paced {s : State} (h : s.input.Paced) (l : FastInput) : (s.sampleFastInput l).input.Paced := by
  unfold State.sampleFastInput
  extract_lets v level
  split
  next silent =>
    refine h.setFast (pins := s.input.pins) ?_
    cases event : (v.sample level).2 with
    | none => exact (Sampler.sample_accepted event).imp_right .inl
    | some b =>
      rw [event, Option.bind_some] at silent
      refine .inr (.inr fun x line => ?_)
      subst line
      cases x <;> exact nomatch silent
  next => exact h.setFast (pins := s.input.pins) ((v.await_accepted level).imp_right .inl)

end Sys2Proof.Machine
end

section
/-! The laws of the Air Unit's source machine, overrides and damper targets (R71 to R79, R81, R84, R88, R144, R146) through its own
acts. -/

namespace Sys2Proof.Machine

/-! ### The laws -/

/-- The source machine's timers, counts and sets belong to its source (R72 to R79). -/
structure AirUnit.SourceSound (a : AirUnit) : Prop where
  boost : a.boost.isRunning = true ↔ a.source = .pressurize
  purge : a.purge.isRunning = true ↔ a.source = .purge
  unheld : a.source ≠ .recirculate → a.clearingHold = 0
  holdBound : a.clearingHold ≤ 8
  unled : a.source ≠ .purge → a.leadSet = [] ∧ a.ownClear = 0
  clearBound : a.ownClear ≤ 3
  unlocked : a.source = .purge → a.lockout.isRunning = false

/-- What the Air Unit keeps in every node state: the laws of its source, of the override timer and of the positions it hands to the
dampers (R75, R81, R88, R144). -/
structure AirUnit.Sound (own : Node) (a : AirUnit) : Prop where
  source : a.SourceSound
  unseen : own ∉ a.purgeSeen
  override : a.overrides.inForce = true ↔ a.overrideTimer.isRunning = true
  blend : a.blend ≤ 1000
  freshTarget : a.freshTarget ≤ 1000
  forcedBlend : a.overrides.blend.getD 0 ≤ 100

/-- What the Air Unit keeps outside Running (R67, R84, R146). -/
structure AirUnit.Resting (a : AirUnit) : Prop where
  unboosted : a.source ≠ .pressurize
  unpurged : a.source ≠ .purge
  timer : a.timer = .stopped
  overrides : a.overrides = Overrides.none
  overrideTimer : a.overrideTimer = .stopped

/-- The source with its timers, counts and lead set. -/
def AirUnit.sourcePart (a : AirUnit) : Source × Timer × Timer × Timer × Nat × Nat × List Node :=
  (a.source, a.boost, a.purge, a.lockout, a.clearingHold, a.ownClear, a.leadSet)

/-- What the laws rest on. -/
def AirUnit.grounds (a : AirUnit) :
    (Source × Timer × Timer × Timer × Nat × Nat × List Node) × List Node × Timer × Overrides × Timer × Nat × Nat :=
  (a.sourcePart, a.purgeSeen, a.timer, a.overrides, a.overrideTimer, a.blend, a.freshTarget)

theorem AirUnit.SourceSound.congr {a b : AirUnit} (k : a.SourceSound) (h : b.sourcePart = a.sourcePart) : b.SourceSound := by
  simp only [AirUnit.sourcePart, Prod.mk.injEq] at h
  obtain ⟨source, boost, purge, lockout, hold, clear, lead⟩ := h
  constructor <;> simp only [source, boost, purge, lockout, hold, clear, lead]
  exacts [k.boost, k.purge, k.unheld, k.holdBound, k.unled, k.clearBound, k.unlocked]

theorem AirUnit.Sound.congr {own : Node} {a b : AirUnit} (k : a.Sound own) (h : b.grounds = a.grounds) : b.Sound own := by
  simp only [AirUnit.grounds, Prod.mk.injEq] at h
  obtain ⟨source, seen, -, overrides, timer, blend, fresh⟩ := h
  refine ⟨k.source.congr source, ?_, ?_, ?_, ?_, ?_⟩ <;> simp only [seen, overrides, timer, blend, fresh]
  exacts [k.unseen, k.override, k.blend, k.freshTarget, k.forcedBlend]

theorem AirUnit.timer_of_grounds {a b : AirUnit} (h : b.grounds = a.grounds) : b.timer = a.timer := by
  simp only [AirUnit.grounds, Prod.mk.injEq] at h
  exact h.2.2.1

theorem AirUnit.Resting.same {a b : AirUnit} (k : a.Resting)
    (h : (b.source, b.timer, b.overrides, b.overrideTimer) = (a.source, a.timer, a.overrides, a.overrideTimer)) : b.Resting := by
  simp only [Prod.mk.injEq] at h
  obtain ⟨source, timer, overrides, overrideTimer⟩ := h
  exact ⟨source ▸ k.unboosted, source ▸ k.unpurged, timer ▸ k.timer, overrides ▸ k.overrides, overrideTimer ▸ k.overrideTimer⟩

theorem AirUnit.Resting.congr {a b : AirUnit} (k : a.Resting) (h : b.grounds = a.grounds) : b.Resting := by
  simp only [AirUnit.grounds, AirUnit.sourcePart, Prod.mk.injEq] at h
  obtain ⟨⟨source, -⟩, -, timer, overrides, overrideTimer, -⟩ := h
  exact k.same (by rw [source, timer, overrides, overrideTimer])

/-! ### The source machine -/

/-- Going to a source other than Pressurize and Purge ends what belongs to the one left (R71, R72, R74, R77). -/
theorem AirUnit.goTo_sound {x : Source} (unboosted : x ≠ .pressurize) (unpurged : x ≠ .purge) (a : AirUnit) :
    (a.goTo x).SourceSound where
  boost := ⟨fun runs => (nomatch runs), fun is => absurd is unboosted⟩
  purge := ⟨fun runs => (nomatch runs), fun is => absurd is unpurged⟩
  unheld _ := rfl
  holdBound := Nat.zero_le _
  unled _ := ⟨rfl, rfl⟩
  clearBound := Nat.zero_le _
  unlocked is := absurd is unpurged

theorem AirUnit.sourceByCause_sound (cause : Bool) (a : AirUnit) : (a.sourceByCause cause).SourceSound := by
  rw [AirUnit.sourceByCause_eq]
  cases cause <;> exact AirUnit.goTo_sound (by decide) (by decide) a

/-- A purge begins only while no lockout runs (R76). -/
theorem AirUnit.sourcePurge_sound (lead : List Node) {a : AirUnit} (unlocked : a.lockout.isRunning = false) :
    (a.sourcePurge lead).SourceSound where
  boost := ⟨fun runs => (nomatch runs), fun is => (nomatch is)⟩
  purge := ⟨fun _ => rfl, fun _ => rfl⟩
  unheld _ := rfl
  holdBound := Nat.zero_le _
  unled other := absurd rfl other
  clearBound := Nat.zero_le _
  unlocked _ := unlocked

/-- The clearing hold count stays below 8 while the source stays Recirculate (R72). -/
theorem AirUnit.SourceSound.settleClearing {a : AirUnit} (h : a.SourceSound) (source : a.source = .recirculate) (cause : Bool) :
    (a.settleClearing cause).SourceSound := by
  have counted {n : Nat} (bound : n ≤ 8) : ({ a with clearingHold := n } : AirUnit).SourceSound :=
    ⟨h.boost, h.purge, fun other => absurd source other, bound, h.unled, h.clearBound, h.unlocked⟩
  unfold AirUnit.settleClearing
  split
  · exact counted (Nat.zero_le _)
  · split
    next below => exact counted (Nat.le_of_lt below)
    next => exact AirUnit.goTo_sound (x := .fresh) (by decide) (by decide) a

theorem AirUnit.SourceSound.settlePurge {a : AirUnit} (h : a.SourceSound) (source : a.source = .purge) (purging : List Node)
    (clear : Bool) : (a.settlePurge purging clear).SourceSound := by
  refine ⟨h.boost, h.purge, h.unheld, h.holdBound, fun other => absurd source other, ?_, h.unlocked⟩
  dsimp only [AirUnit.settlePurge]
  split
  · exact Nat.min_le_left _ _
  · exact Nat.zero_le _

/-- The tests of an air expiry keep the laws of the source (R70, Table 5-1). -/
theorem State.sourceTests_sound {s : State} (h : s.air.SourceSound) : s.sourceTests.SourceSound := by
  have enters (entry : s.purgeEntry = true) : (s.air.sourcePurge (purgingPeers s)).SourceSound := by
    refine AirUnit.sourcePurge_sound _ ?_
    simp only [State.purgeEntry, Bool.and_eq_true, Bool.not_eq_true'] at entry
    exact entry.1
  have recirculates : s.air.sourceRecirculate.SourceSound :=
    AirUnit.goTo_sound (x := .recirculate) (by decide) (by decide) s.air
  unfold State.sourceTests
  extract_lets a cause
  split
  · split
    · exact h
    · exact AirUnit.goTo_sound (x := .off) (by decide) (by decide) a
  · split
    case h_1 => exact AirUnit.sourceByCause_sound _ _
    case h_4 source =>
      split
      next entry => exact enters entry
      next => exact h.settleClearing source _
    case h_5 source =>
      split
      · exact AirUnit.sourceByCause_sound _ _
      · exact h.settlePurge source _ _
    all_goals
      split
      next entry => exact enters entry
      next =>
        split
        · exact recirculates
        · exact h

/-- A boost begins in Fresh (R73). -/
theorem AirUnit.SourceSound.startBoost {a : AirUnit} (h : a.SourceSound) (source : a.source = .fresh) :
    a.startBoost.SourceSound where
  boost := ⟨fun _ => rfl, fun _ => rfl⟩
  purge := ⟨fun runs => absurd (source.symm.trans (h.purge.1 runs)) (by decide), fun is => (nomatch is)⟩
  unheld _ := h.unheld (by rw [source]; decide)
  holdBound := h.holdBound
  unled _ := h.unled (by rw [source]; decide)
  clearBound := h.clearBound
  unlocked is := (nomatch is)

/-- A boost ends in Fresh (R74). -/
theorem AirUnit.SourceSound.endBoost {a : AirUnit} (h : a.SourceSound) (source : a.source = .pressurize) :
    a.endBoost.SourceSound where
  boost := ⟨fun runs => (nomatch runs), fun is => (nomatch is)⟩
  purge := ⟨fun runs => absurd (source.symm.trans (h.purge.1 runs)) (by decide), fun is => (nomatch is)⟩
  unheld _ := h.unheld (by rw [source]; decide)
  holdBound := h.holdBound
  unled _ := h.unled (by rw [source]; decide)
  clearBound := h.clearBound
  unlocked is := (nomatch is)

/-- A purge that runs out its time ends in Recirculate (R78). -/
theorem AirUnit.SourceSound.purgeTimedOut {a : AirUnit} (h : a.SourceSound) (source : a.source = .purge) :
    a.purgeTimedOut.SourceSound where
  boost := ⟨fun runs => absurd (source.symm.trans (h.boost.1 runs)) (by decide), fun is => (nomatch is)⟩
  purge := ⟨fun runs => (nomatch runs), fun is => (nomatch is)⟩
  unheld other := absurd rfl other
  holdBound := Nat.zero_le _
  unled _ := ⟨rfl, rfl⟩
  clearBound := Nat.zero_le _
  unlocked is := (nomatch is)

/-- At the leaving of Running a boost and a purge end, and the clearing hold count is 0 (R84). -/
theorem AirUnit.SourceSound.leaveSource {a : AirUnit} (h : a.SourceSound) :
    a.leaveSource.SourceSound ∧ a.leaveSource.source ≠ .pressurize ∧ a.leaveSource.source ≠ .purge := by
  have stays (other : a.source ≠ .pressurize) (away : a.source ≠ .purge) :
      ({ a with clearingHold := 0 } : AirUnit).SourceSound ∧ a.source ≠ .pressurize ∧ a.source ≠ .purge :=
    ⟨⟨h.boost, h.purge, fun _ => rfl, Nat.zero_le _, h.unled, h.clearBound, h.unlocked⟩, other, away⟩
  unfold AirUnit.leaveSource
  split
  next source =>
    have ended := h.endBoost source
    exact ⟨⟨ended.boost, ended.purge, fun _ => rfl, Nat.zero_le _, ended.unled, ended.clearBound, ended.unlocked⟩,
      fun is => (nomatch is), fun is => (nomatch is)⟩
  next source =>
    have still : a.boost.isRunning = false := Bool.eq_false_iff.2 fun runs => nomatch source.symm.trans (h.boost.1 runs)
    have next : (if a.recircCause then Source.recirculate else .fresh) ≠ .pressurize ∧
        (if a.recircCause then Source.recirculate else .fresh) ≠ .purge := by split <;> decide
    refine ⟨⟨?_, ⟨fun runs => (nomatch runs), fun is => absurd is next.2⟩, fun _ => rfl, Nat.zero_le _, fun _ => ⟨rfl, rfl⟩,
      Nat.zero_le _, fun is => absurd is next.2⟩, next⟩
    dsimp only
    rw [still]
    exact ⟨fun runs => (nomatch runs), fun is => absurd is next.1⟩
  all_goals
    next source => exact stays (by rw [source]; decide) (by rw [source]; decide)

/-! ### The whole Air Unit -/

/-- The source machine moved, the rest left. -/
theorem AirUnit.Sound.of_source {own : Node} {a b : AirUnit} (h : a.Sound own) (source : b.SourceSound)
    (rest : b.purgeSeen = a.purgeSeen ∧ b.overrides = a.overrides ∧ b.overrideTimer = a.overrideTimer ∧ b.blend = a.blend ∧
      b.freshTarget = a.freshTarget) : b.Sound own := by
  obtain ⟨seen, overrides, timer, blend, fresh⟩ := rest
  refine ⟨source, ?_, ?_, ?_, ?_, ?_⟩ <;> simp only [seen, overrides, timer, blend, fresh]
  exacts [h.unseen, h.override, h.blend, h.freshTarget, h.forcedBlend]

/-- Overrides taken or lapsed, with the lifetime timer (R144, R146). -/
theorem AirUnit.Sound.withOverrides {own : Node} {a b : AirUnit} (h : a.Sound own) (forced : b.overrides.blend.getD 0 ≤ 100)
    (timer : b.overrides.inForce = true ↔ b.overrideTimer.isRunning = true)
    (rest : b.grounds = { a with overrides := b.overrides, overrideTimer := b.overrideTimer }.grounds) : b.Sound own :=
  AirUnit.Sound.congr (a := { a with overrides := b.overrides, overrideTimer := b.overrideTimer })
    ⟨h.source.congr rfl, h.unseen, timer, h.blend, h.freshTarget, forced⟩ rest

theorem AirUnit.Sound.lapse {own : Node} {a : AirUnit} (h : a.Sound own) : a.lapse.Sound own :=
  h.withOverrides (Nat.zero_le _) (by simp [AirUnit.lapse, Overrides.inForce]) rfl

/-- A forced blend position of a Panel record is at most 100 percent (R144). -/
theorem PanelBytes.overrides_blend (d : PanelBytes) : d.overrides.blend.getD 0 ≤ 100 := by
  unfold PanelBytes.overrides
  split
  · exact Nat.zero_le _
  · dsimp only
    split
    · exact Nat.min_le_left _ _
    · exact Nat.zero_le _

theorem AirUnit.Sound.takeOverrides {own : Node} {a : AirUnit} (h : a.Sound own) (d : PanelBytes) :
    (a.takeOverrides d).Sound own := by
  unfold AirUnit.takeOverrides
  split
  next forced => exact h.withOverrides d.overrides_blend ⟨fun _ => rfl, fun _ => forced⟩ rfl
  next => exact h.lapse

theorem freshTargetOf_le (n : NodeState) (a : AirUnit) : freshTargetOf n a ≤ 1000 := by
  unfold freshTargetOf
  split
  · exact Nat.zero_le _
  · split
    · exact Nat.le_refl _
    · exact Nat.zero_le _
    · cases a.source <;> decide

theorem AirUnit.Sound.withFreshTarget {own : Node} {a : AirUnit} (h : a.Sound own) {v : Nat} (most : v ≤ 1000) :
    ({ a with freshTarget := v } : AirUnit).Sound own :=
  ⟨h.source.congr rfl, h.unseen, h.override, h.blend, most, h.forcedBlend⟩

/-- The blend position stays within 0 to 1000 (R88). -/
theorem State.blendNow_le {s : State} (blend : s.air.blend ≤ 1000) (forced : s.air.overrides.blend.getD 0 ≤ 100) :
    s.blendNow ≤ 1000 := by
  unfold State.blendNow
  split
  next f set =>
    rw [set, Option.getD_some] at forced
    omega
  next =>
    split
    · exact Nat.le_refl _
    · split
      · exact blend
      · split
        · exact blend
        · rw [blendStep, clampInt_eq (by decide)]
          omega

/-- The entry into Sleep from a state at rest (R84, R101, R146). -/
theorem AirUnit.Sound.sleep {own : Node} {a : AirUnit} (h : a.Sound own) (rests : a.Resting) :
    a.sleep.Sound own ∧ a.sleep.Resting := by
  have source : a.sleep.SourceSound :=
    (AirUnit.goTo_sound (x := .off) (by decide) (by decide) { a with lockout := .stopped }).congr rfl
  exact ⟨⟨source, List.not_mem_nil, by simp [AirUnit.sleep, AirUnit.lapse, Overrides.inForce], h.blend, Nat.zero_le _, Nat.zero_le _⟩,
    ⟨fun is => (nomatch is), fun is => (nomatch is), rests.timer, rfl, rfl⟩⟩

end Sys2Proof.Machine
end

section
/-! The laws of the air, of the dampers' travel and of the samples through what the blocks do in an event (R64, R67, R72 to R88, R131,
R144 to R146, R156 to R159). -/

namespace Sys2Proof.Machine

/-! ### The laws -/

/-- The laws of the source machine, the overrides, the dampers' travel and the samples in progress, block by block. -/
structure State.AirSound (s : State) : Prop where
  air : s.air.Sound s.node.own
  running : s.node.state = .running → s.air.timer.isRunning = true
  rests : s.node.state ≠ .running → s.air.Resting
  travel : ∀ x : Damper, (s.drive.actuator x).Within (s.params.travel x)
  samples : s.input.Paced

theorem State.AirSound.laws {s : State} (h : s.AirSound) :
    s.sourceLaws ∧ s.overrideLaws ∧ s.withinTravel ∧ s.sampleLaws := by
  obtain ⟨⟨⟨boost, purge, unheld, holdBound, unled, clearBound, unlocked⟩, unseen, override, blend, freshTarget, forcedBlend⟩,
    running, rests, travel, samples⟩ := h
  exact ⟨⟨boost, purge, unheld, holdBound, unled, clearBound, unlocked, fun k => ⟨(rests k).unboosted, (rests k).unpurged⟩, unseen,
      running, fun k => (rests k).timer⟩,
    ⟨override, fun k => ⟨(rests k).overrides, (rests k).overrideTimer⟩⟩,
    ⟨fun x => ⟨(travel x).position, (travel x).target⟩, blend, freshTarget, forcedBlend⟩, s.sampleLaws_iff.2 samples⟩

theorem State.Inv.airSound {s : State} (h : s.Inv) : s.AirSound := by
  obtain ⟨boost, purge, unheld, holdBound, unled, clearBound, unlocked, ended, unseen, running, stopped⟩ := h.source
  obtain ⟨override, lapsed⟩ := h.override
  obtain ⟨travel, blend, freshTarget, forcedBlend⟩ := h.travel
  exact ⟨⟨⟨boost, purge, unheld, holdBound, unled, clearBound, unlocked⟩, unseen, override, blend, freshTarget, forcedBlend⟩,
    running, fun k => ⟨(ended k).1, (ended k).2, stopped k, (lapsed k).1, (lapsed k).2⟩, fun x => ⟨(travel x).1, (travel x).2⟩,
    s.sampleLaws_iff.1 h.samples⟩

/-! ### What the drives leave of the Air Unit -/

@[simp] theorem State.tripChannel_grounds (c : Channel) (k : TripCause) (s : State) :
    (s.tripChannel c k).air.grounds = s.air.grounds := by
  unfold State.tripChannel State.when
  dsimp only
  (repeat' split) <;> simp [AirUnit.clutchReleased, AirUnit.grounds, AirUnit.sourcePart]

@[simp] theorem State.clutchTakesPlan_grounds (s : State) : s.clutchTakesPlan.air.grounds = s.air.grounds := by
  obtain ⟨-, air⟩ := s.clutchTakesPlan_reported
  rw [air]
  rfl

@[simp] theorem State.channelTakesPlan_grounds (c : Channel) (s : State) :
    (State.channelTakesPlan c s).air.grounds = s.air.grounds := by
  cases c <;> simp [State.channelTakesPlan]

@[simp] theorem State.channelsTakePlan_grounds (s : State) : s.channelsTakePlan.air.grounds = s.air.grounds := by
  simp [State.channelsTakePlan]

@[simp] theorem State.trip_grounds (c : Channel) (k : TripCause) (s : State) : (s.trip c k).air.grounds = s.air.grounds := by
  simp [State.trip]

@[simp] theorem State.channelEntersOff_grounds (c : Channel) (s : State) :
    (s.channelEntersOff c).air.grounds = s.air.grounds := by
  unfold State.channelEntersOff State.when
  dsimp only
  split <;> simp

@[simp] theorem State.unlockChannel_grounds (c : Channel) (s : State) : (s.unlockChannel c).air.grounds = s.air.grounds := by
  unfold State.unlockChannel
  split <;> simp

@[simp] theorem State.handPlan_grounds (q : Plan) (s : State) : (s.handPlan q).air.grounds = s.air.grounds := by
  obtain ⟨-, air⟩ := s.handPlan_reported q
  rw [air]
  rfl

@[simp] theorem State.makePlan_grounds (s : State) : s.makePlan.air.grounds = s.air.grounds := by
  simp [State.makePlan]

@[simp] theorem State.changeTake_grounds (f : ShareUnit → ShareUnit) (s : State) :
    (s.changeTake f).air.grounds = s.air.grounds := by
  unfold State.changeTake
  dsimp only
  split <;> simp

/-! ### What leaves the laws' grounds alone -/

/-- Between `s` and `t` nothing has changed that the laws rest on. -/
structure State.AirStill (s t : State) : Prop where
  params : t.params = s.params
  state : t.node.state = s.node.state
  own : t.node.own = s.node.own
  air : t.air.grounds = s.air.grounds
  travels : t.drive.travels = s.drive.travels
  input : t.input = s.input

theorem State.AirStill.refl (s : State) : s.AirStill s := ⟨rfl, rfl, rfl, rfl, rfl, rfl⟩

theorem State.AirStill.trans {s t u : State} (h : s.AirStill t) (k : t.AirStill u) : s.AirStill u :=
  ⟨k.params.trans h.params, k.state.trans h.state, k.own.trans h.own, k.air.trans h.air, k.travels.trans h.travels,
    k.input.trans h.input⟩

theorem State.AirStill.when {s t : State} {b : Bool} {f : State → State} (h : s.AirStill t) (k : t.AirStill (f t)) :
    s.AirStill (t.when b f) := by
  cases b with
  | false => exact h
  | true => exact h.trans k

theorem State.AirSound.still {s t : State} (h : s.AirSound) (k : s.AirStill t) : t.AirSound where
  air := by rw [k.own]; exact h.air.congr k.air
  running now := by
    rw [AirUnit.timer_of_grounds k.air]
    exact h.running (k.state ▸ now)
  rests now := (h.rests (k.state ▸ now)).congr k.air
  travel x := by
    rw [k.params]
    exact (h.travel x).congr (DriveUnit.counts_of_travels k.travels x)
  samples := k.input ▸ h.samples

theorem State.mapLine_airStill (f : LineInterface → LineInterface) (s : State) : s.AirStill (s.mapLine f) :=
  ⟨rfl, rfl, rfl, rfl, rfl, rfl⟩

theorem State.mapPeers_airStill (f : PeerTable → PeerTable) (s : State) : s.AirStill (s.mapPeers f) :=
  ⟨rfl, rfl, rfl, rfl, rfl, rfl⟩

theorem State.mapAllowance_airStill (f : AllowanceStore → AllowanceStore) (s : State) : s.AirStill (s.mapAllowance f) :=
  ⟨rfl, rfl, rfl, rfl, rfl, rfl⟩

theorem State.mapShare_airStill (f : ShareUnit → ShareUnit) (s : State) : s.AirStill (s.mapShare f) :=
  ⟨rfl, rfl, rfl, rfl, rfl, rfl⟩

theorem State.mapCond_airStill (f : ConditionUnit → ConditionUnit) (s : State) : s.AirStill (s.mapCond f) :=
  ⟨rfl, rfl, rfl, rfl, rfl, rfl⟩

theorem State.mapNode_airStill {f : NodeControl → NodeControl} {s : State} (state : (f s.node).state = s.node.state)
    (own : (f s.node).own = s.node.own) : s.AirStill (s.mapNode f) :=
  ⟨rfl, state, own, rfl, rfl, rfl⟩

theorem State.mapAir_airStill {f : AirUnit → AirUnit} {s : State} (grounds : (f s.air).grounds = s.air.grounds) :
    s.AirStill (s.mapAir f) :=
  ⟨rfl, rfl, rfl, grounds, rfl, rfl⟩

theorem State.mapDrive_airStill {f : DriveUnit → DriveUnit} {s : State} (travels : (f s.drive).travels = s.drive.travels) :
    s.AirStill (s.mapDrive f) :=
  ⟨rfl, rfl, rfl, rfl, travels, rfl⟩

theorem State.raise_airStill (c : Condition) (s : State) : s.AirStill (s.raise c) := by constructor <;> simp

theorem State.lower_airStill (c : Condition) (s : State) : s.AirStill (s.lower c) := by constructor <;> simp

theorem State.setCond_airStill (b : Bool) (c : Condition) (s : State) : s.AirStill (s.setCond b c) := by constructor <;> simp

theorem State.handDemand_airStill (s : State) : s.AirStill s.handDemand := s.mapLine_airStill _

theorem State.applyActuator_airStill {s : State} {x : Damper} {r : ActuatorStep}
    (counts : r.act.counts = (s.drive.actuator x).counts) : s.AirStill (s.applyActuator x r) :=
  ⟨by simp, by simp, by simp, by simp, by rw [State.applyActuator_drive]; exact DriveUnit.setActuator_travels counts, by simp⟩

theorem State.changeTake_airStill (f : ShareUnit → ShareUnit) (s : State) : s.AirStill (s.changeTake f) := by
  constructor <;> simp

theorem State.setIsolated_airStill (s : State) : s.AirStill s.setIsolated :=
  ((s.mapLine_airStill _).trans (State.raise_airStill .isolated _)).trans (State.changeTake_airStill _ _)

theorem State.clearIsolated_airStill (s : State) : s.AirStill s.clearIsolated :=
  ((s.mapLine_airStill _).trans (State.lower_airStill .isolated _)).trans (State.changeTake_airStill _ _)

/-! ### Acts on one block -/

theorem State.AirSound.mapAir {s : State} (h : s.AirSound) {f : AirUnit → AirUnit} (sound : (f s.air).Sound s.node.own)
    (running : s.node.state = .running → (f s.air).timer.isRunning = true)
    (rests : s.node.state ≠ .running → (f s.air).Resting) : (s.mapAir f).AirSound :=
  ⟨sound, running, rests, h.travel, h.samples⟩

/-- The source machine moves in Running (R70 to R79). -/
theorem State.AirSound.moveSource {s : State} (h : s.AirSound) (now : s.node.state = .running) {f : AirUnit → AirUnit}
    (source : (f s.air).SourceSound) (rest : (f s.air).purgeSeen = s.air.purgeSeen ∧ (f s.air).overrides = s.air.overrides ∧
      (f s.air).overrideTimer = s.air.overrideTimer ∧ (f s.air).blend = s.air.blend ∧ (f s.air).freshTarget = s.air.freshTarget)
    (timer : (f s.air).timer = s.air.timer) : (s.mapAir f).AirSound :=
  h.mapAir (h.air.of_source source rest) (fun _ => by rw [timer]; exact h.running now) fun away => absurd now away

theorem State.AirSound.mapInput {s : State} (h : s.AirSound) {f : InputUnit → InputUnit} (samples : (f s.input).Paced) :
    (s.mapInput f).AirSound :=
  ⟨h.air, h.running, h.rests, h.travel, samples⟩

theorem State.AirSound.applyActuator {s : State} (h : s.AirSound) {x : Damper} {r : ActuatorStep}
    (within : r.act.Within (s.params.travel x)) : (s.applyActuator x r).AirSound := by
  refine ⟨by simpa using h.air, by simpa using h.running, by simpa using h.rests, fun y => ?_, by simpa using h.samples⟩
  rw [State.applyActuator_drive, (State.applyActuator_frame x r s).1]
  by_cases same : y = x
  · subst same; rw [DriveUnit.actuator_setActuator]; exact within
  · rw [DriveUnit.actuator_setActuator_of_ne _ _ same]; exact h.travel y

/-- The fresh damper target settled and handed (R81, R131). -/
theorem State.AirSound.settleFresh {s : State} (h : s.AirSound) : s.settleFresh.AirSound := by
  have target := freshTargetOf_le s.node.state s.air
  have set : (s.mapAir fun a => { a with freshTarget := freshTargetOf s.node.state s.air }).AirSound :=
    h.mapAir (h.air.withFreshTarget target) h.running fun away => (h.rests away).same rfl
  exact set.applyActuator (x := .fresh) (Actuator.handTarget_within _ _ (set.travel .fresh) target)

theorem State.AirSound.sourceChanged {s : State} (h : s.AirSound) : s.sourceChanged.AirSound :=
  (h.still (State.mapAir_airStill rfl)).settleFresh

theorem State.AirSound.handPlan {s : State} (h : s.AirSound) (q : Plan) : (s.handPlan q).AirSound :=
  h.still (by constructor <;> simp)

/-! ### The air expiry -/

/-- No station is in its own view of purging peers (R18, R29). -/
theorem State.peersInRange.own_unpurging {s : State} (h : s.peersInRange) : s.node.own ∉ purgingPeers s := by
  rw [purgingPeers, PeerTable.mem_select]
  rintro ⟨e, slot, -⟩
  rw [h.slot_own] at slot
  exact nomatch slot

/-- The stages of an air expiry up to the fresh damper target (R67). -/
theorem State.AirSound.airStages {s : State} (h : s.AirSound) (peers : s.peersInRange) (running : s.node.state = .running) :
    (s.mapAir fun a => { a with timer := Timer.start }).airStages.AirSound := by
  have judged : s.judged.air.SourceSound := h.air.source.congr (by rw [s.judged_air]; rfl)
  obtain ⟨reads, drive, air, -⟩ := s.runSource_spec
  have leaves := s.judged.sourceTests_leaves
  rw [s.judged_air] at leaves
  have ran : s.judged.runSource.AirSound := by
    refine ⟨⟨?_, ?_, ?_, ?_, ?_, ?_⟩, fun _ => ?_, fun away => absurd (reads.node ▸ running) away, fun x => ?_, ?_⟩
    · rw [air]; exact (State.sourceTests_sound judged).congr rfl
    · rw [air, reads.node]; exact peers.own_unpurging
    · rw [air, leaves]; exact h.air.override
    · rw [air, leaves]; exact h.air.blend
    · rw [air, leaves]; exact h.air.freshTarget
    · rw [air, leaves]; exact h.air.forcedBlend
    · rw [air, leaves]; rfl
    · rw [drive, reads.params]; exact h.travel x
    · rw [reads.input]; exact h.samples
  rw [s.airStages_eq]
  generalize s.judged.runSource = r at ran
  exact ((ran.still (State.mapAir_airStill rfl)).still (State.mapAir_airStill rfl)).settleFresh

/-- The wants of an air expiry, among them the blend position handed to its damper (R86, R88). -/
theorem State.AirSound.airWants {s : State} (h : s.AirSound) (found : Bool) : (s.airWants found).AirSound := by
  have blend : (s.airWants found).air.blend ≤ 1000 := by
    rw [(s.airWants_settled found).blend]
    exact State.blendNow_le (s := s.settleDischarge) h.air.blend h.air.forcedBlend
  have kept := (s.airWants_settled found).kept
  have drive := (s.airWants_settled found).drive
  obtain ⟨params, node, -, -, -, input, -⟩ := s.airWants_frame found
  generalize s.airWants found = t at *
  have source : t.air.SourceSound := h.air.source.congr (by rw [kept]; rfl)
  refine ⟨?_, ?_, ?_, fun x => ?_, input ▸ h.samples⟩
  · refine ⟨source, ?_, ?_, blend, ?_, ?_⟩ <;> rw [kept]
    · rw [node]; exact h.air.unseen
    · exact h.air.override
    · exact h.air.freshTarget
    · exact h.air.forcedBlend
  · rw [node, kept]; exact h.running
  · rw [node, kept]
    exact fun away => (h.rests away).same rfl
  · rw [drive, params]
    cases x with
    | fresh => exact h.travel .fresh
    | blend => exact Actuator.handTarget_within _ _ (h.travel .blend) blend

theorem State.AirSound.airWork {s : State} (h : s.AirSound) (peers : s.peersInRange) (running : s.node.state = .running) :
    s.airWork.AirSound :=
  ((h.airStages peers running).airWants s.air.defrost).handPlan _

/-! ### Sleep and the end of an event -/

/-- An entry into Sleep (R84, R101, R116, R140, R146, R159). -/
theorem State.AirSound.enterSleep {s : State} (h : s.AirSound) (away : s.node.state ≠ .running) : s.enterSleep.AirSound := by
  let u := ((s.lowerAtSleep.mapNode NodeControl.sleep).mapDrive fun d => { d with plan := d.plan.sleep }).channelsTakePlan
  have air : u.air.grounds = s.air.grounds := by simp [u]
  have travels : u.drive.travels = s.drive.travels := by
    rw [State.channelsTakePlan_travels]
    simp [DriveUnit.travels]
  have own : s.enterSleep.node.own = s.node.own := by rw [s.enterSleep_node]; rfl
  have state : s.enterSleep.node.state = .sleep := by rw [s.enterSleep_node]; rfl
  obtain ⟨sound, rests⟩ := (h.air.congr air).sleep ((h.rests away).congr air)
  have slept : s.enterSleep.air = u.air.sleep := rfl
  have input : s.enterSleep.input = u.input.sleep := rfl
  refine ⟨?_, fun now => ?_, fun _ => slept ▸ rests, fun x => ?_, input ▸ InputUnit.sleep_paced _⟩
  · rw [own, slept]; exact sound
  · rw [state] at now; exact nomatch now
  · have actuator : s.enterSleep.drive.actuator x = (u.drive.actuator x).sleep := by cases x <;> rfl
    rw [actuator, s.enterSleep_frame.1]
    exact (h.travel x).congr ((Actuator.sleep_counts _).trans (DriveUnit.counts_of_travels travels x))

theorem State.AirSound.beginLeaving {s : State} (h : s.AirSound) (parking : s.node.state = .parking) :
    s.beginLeaving.AirSound := by
  have leaving := h.still (State.mapNode_airStill (f := fun n => { n with leaving := true }) rfl rfl)
  unfold State.beginLeaving
  dsimp only
  split
  · exact leaving.enterSleep (by simp [parking])
  · exact (leaving.still (State.mapNode_airStill (f := fun n => { n with leavingTimer := Timer.start }) rfl rfl)).still
      (State.handDemand_airStill _)

/-- The end of an event keeps the laws. -/
theorem State.AirSound.finish {s : State} (h : s.AirSound) (b : State) : (s.finish b).AirSound := by
  have parked : (s.settleParking b).AirSound := by
    unfold State.settleParking
    split
    next waits =>
      simp only [Bool.and_eq_true, decide_eq_true_eq] at waits
      obtain ⟨⟨⟨parking, -⟩, -⟩, -⟩ := waits
      exact h.beginLeaving parking
    next => exact h
  exact parked.still (by constructor <;> simp [State.finish])

/-! ### The changes of the node state -/

/-- An entry into Running: the air timer starts (R67, R156). -/
theorem State.AirSound.enterRunning {s : State} (h : s.AirSound) (fromListening : Bool) :
    (s.enterRunning fromListening).AirSound := by
  have entered : (s.startRunning fromListening).AirSound :=
    ⟨⟨h.air.source.congr rfl, h.air.unseen, h.air.override, h.air.blend, h.air.freshTarget, h.air.forcedBlend⟩, fun _ => rfl,
      fun away => absurd rfl away, h.travel, h.samples⟩
  rw [State.enterRunning_eq, State.startSleepDelay_eq]
  exact (entered.settleFresh.still (State.mapNode_airStill rfl rfl)).still (State.handDemand_airStill _)

/-- What the leaving of Running leaves of the overrides and of the positions handed to the dampers. -/
theorem AirUnit.leaveSource_frame (a : AirUnit) : a.leaveSource.purgeSeen = a.purgeSeen ∧ a.leaveSource.overrides = a.overrides ∧
    a.leaveSource.overrideTimer = a.overrideTimer ∧ a.leaveSource.blend = a.blend ∧ a.leaveSource.freshTarget = a.freshTarget := by
  unfold AirUnit.leaveSource
  split <;> exact ⟨rfl, rfl, rfl, rfl, rfl⟩

/-- A leaving of Running: the air timer stops, the overrides lapse, a boost or a purge ends (R67, R84, R146). -/
theorem State.AirSound.leaveRunning {s : State} (h : s.AirSound) {dest : NodeState} (away : dest ≠ .running) :
    (s.leaveRunning dest).AirSound := by
  obtain ⟨source, unboosted, unpurged⟩ := h.air.lapse.source.leaveSource
  have frame := s.air.lapse.leaveSource_frame
  have sound := h.air.lapse.of_source source frame
  obtain ⟨-, overrides, timer, -⟩ := frame
  unfold State.leaveRunning
  extract_lets t u v
  have resting : u.AirSound :=
    ⟨⟨source.congr rfl, sound.unseen, sound.override, sound.blend, sound.freshTarget, sound.forcedBlend⟩,
      fun now => absurd now away, fun _ => ⟨unboosted, unpurged, rfl, overrides, timer⟩, h.travel, h.samples⟩
  have lowered := (resting.still (State.lower_airStill .holderConflict _)).still (State.lower_airStill .coolingUnavailable _)
  exact ((lowered.handPlan _).still (State.mapAir_airStill rfl)).settleFresh

end Sys2Proof.Machine
end

section
/-! The laws of the air, of the dampers' travel and of the samples through the node's changes of state and the receptions (R84, R108,
R139, R142 to R146, R154 to R159). -/

namespace Sys2Proof.Machine

/-! ### Node Control -/

theorem State.AirSound.enterParking {s : State} (h : s.AirSound) : s.enterParking.AirSound := by
  unfold State.enterParking
  split
  · have state : (s.leaveRunning .parking).node.state = .parking := by rw [State.leaveRunning_node]
    exact (h.leaveRunning (by decide)).still (State.mapNode_airStill (f := NodeControl.startParking) state.symm rfl)
  next away =>
    have rests := h.rests away
    have parked : ((s.mapNode NodeControl.startParking).mapAir AirUnit.lapse).AirSound :=
      ⟨h.air.lapse, fun now => (nomatch now), fun _ => ⟨rests.unboosted, rests.unpurged, rests.timer, rfl, rfl⟩, h.travel, h.samples⟩
    exact (parked.still (State.lower_airStill .supplyLow _)).settleFresh

theorem State.AirSound.enterListening {s : State} (h : s.AirSound) (away : s.node.state ≠ .running) :
    s.enterListening.AirSound :=
  ⟨h.air, fun now => (nomatch now), fun _ => h.rests away, h.travel, h.samples.startWindows⟩

theorem State.AirSound.supplyReturns {s : State} (h : s.AirSound) : s.supplyReturns.AirSound := by
  unfold State.supplyReturns
  split
  case h_1 => exact (h.still (State.lower_airStill .supplyLow _)).enterRunning false
  case h_2 =>
    split
    · exact h.enterRunning true
    · exact h
  all_goals exact h

theorem State.AirSound.supplyFails {s : State} (h : s.AirSound) : s.supplyFails.AirSound := by
  unfold State.supplyFails
  split
  · exact (h.leaveRunning (dest := .supplyLow) (by decide)).still (State.raise_airStill .supplyLow _)
  · exact h

theorem State.AirSound.unpark {s : State} (h : s.AirSound) (away : s.node.state ≠ .running) : s.unpark.AirSound := by
  unfold State.unpark
  extract_lets t
  have stopped : t.AirSound := h.still (State.mapNode_airStill rfl rfl)
  split
  · exact stopped.enterRunning false
  · have low : (t.mapNode fun n => { n with state := .supplyLow }).AirSound :=
      ⟨h.air, fun now => (nomatch now), fun _ => h.rests away, h.travel, h.samples⟩
    exact (low.still (State.raise_airStill .supplyLow _)).settleFresh

theorem State.AirSound.ignitionOff {s : State} (h : s.AirSound) : s.ignitionOff.AirSound :=
  h.still ((State.AirStill.refl s).when (State.mapNode_airStill rfl rfl))

theorem State.AirSound.ignitionOn {s : State} (h : s.AirSound) : s.ignitionOn.AirSound := by
  unfold State.ignitionOn
  extract_lets t
  have stopped : t.AirSound := h.still (State.mapNode_airStill rfl rfl)
  split
  case h_1 parking => exact stopped.unpark (by simp [t, parking])
  case h_2 asleep => exact stopped.enterListening (by simp [t, asleep])
  all_goals exact stopped

/-! ### Start-up -/

theorem Actuator.cold_within (travel : Nat) : Actuator.cold.Within travel := ⟨Nat.zero_le _, Nat.zero_le _⟩

theorem AirUnit.cold_sound (own : Node) (p : Params) : (AirUnit.cold p).Sound own :=
  ⟨(AirUnit.goTo_sound (x := .off) (by decide) (by decide) (AirUnit.cold p)).congr rfl, List.not_mem_nil,
    iff_of_false Bool.false_ne_true Bool.false_ne_true, Nat.le_of_ble_eq_true rfl, Nat.zero_le _, Nat.zero_le _⟩

theorem AirUnit.cold_resting (p : Params) : (AirUnit.cold p).Resting :=
  ⟨fun is => (nomatch is), fun is => (nomatch is), rfl, rfl, rfl⟩

theorem State.cold_airSound (straps : Straps) (pins : Pins) (pending : List Instr) (choices : Nat) :
    (State.cold straps pins pending choices).AirSound where
  air := AirUnit.cold_sound _ _
  running now := nomatch now
  rests _ := AirUnit.cold_resting _
  travel x := by cases x <;> exact Actuator.cold_within _
  samples := InputUnit.cold_paced _

/-- A configuration put in force in Loading finds the dampers as at cold start (R131, R155). -/
theorem State.Inv.applyConfig_airSound {s : State} (inv : s.Inv) (loading : s.node.state = .loading) (p : Params) :
    (s.applyConfig p).AirSound := by
  obtain ⟨air, running, rests, -, samples⟩ := inv.airSound
  obtain ⟨fresh, blend, -⟩ := inv.loading loading
  refine ⟨air.congr rfl, running, fun away => (rests away).congr rfl, fun x => ?_, samples.same rfl rfl rfl⟩
  cases x with
  | fresh => exact (Actuator.cold_within _).congr (congrArg Actuator.counts fresh)
  | blend => exact (Actuator.cold_within _).congr (congrArg Actuator.counts blend)

/-! ### Receptions -/

theorem State.countReception_airStill (bad : Bool) (s : State) : s.AirStill (s.countReception bad) := by
  constructor <;> simp

theorem State.heardWellFormed_airStill (s : State) : s.AirStill s.heardWellFormed := by
  rw [State.heardWellFormed_eq]
  exact (s.mapLine_airStill _).when (State.clearIsolated_airStill _)

theorem State.heardGood_airStill (s : State) : s.AirStill s.heardGood :=
  (s.countReception_airStill false).trans (State.heardWellFormed_airStill _)

theorem State.heardConflict_airStill (s : State) : s.AirStill s.heardConflict := by
  have counted := (s.countReception_airStill false).trans (State.mapLine_airStill (LineInterface.restartSilence s.params) _)
  unfold State.heardConflict
  dsimp only
  split
  · exact counted
  · exact ((counted.trans (State.raise_airStill .addressConflict _)).trans (State.setIsolated_airStill _)).trans
      (State.mapLine_airStill _ _)

theorem State.channelEntersOff_airStill (c : Channel) (s : State) : s.AirStill (s.channelEntersOff c) := by
  constructor <;> simp

theorem State.trip_airStill (c : Channel) (k : TripCause) (s : State) : s.AirStill (s.trip c k) := by
  constructor <;> simp

theorem State.unlockChannel_airStill (c : Channel) (s : State) : s.AirStill (s.unlockChannel c) := by
  constructor <;> simp

theorem State.channelsUnlock_airStill (b1 : Byte) (s : State) : s.AirStill (s.channelsUnlock b1) :=
  (((State.AirStill.refl s).when (State.unlockChannel_airStill .blower _)).when (State.unlockChannel_airStill .heater _)).when
    (State.unlockChannel_airStill .clutch _)

theorem State.rehome_airStill (x : Damper) (s : State) : s.AirStill (s.rehome x) :=
  State.applyActuator_airStill (Actuator.rehome_counts _ _)

/-- A Panel record's settings, and in Running its overrides (R142 to R146). -/
theorem State.AirSound.panelArrives {s : State} (h : s.AirSound) (d : PanelBytes) : (s.panelArrives d).AirSound := by
  have settings : (s.mapAir (AirUnit.takeSettings d)).AirSound := h.still (State.mapAir_airStill rfl)
  have timer (a : AirUnit) : (a.takeOverrides d).timer = a.timer := by
    unfold AirUnit.takeOverrides
    split <;> rfl
  unfold State.panelArrives
  dsimp only
  split
  next now =>
    refine State.AirSound.settleFresh (settings.mapAir (settings.air.takeOverrides d) (fun running => ?_) fun away => absurd now away)
    rw [timer]
    exact settings.running running
  next => exact settings

/-- A frame taken in keeps the laws, whatever its sorting. -/
theorem State.AirSound.hears {s : State} (h : s.AirSound) (o : Sorted) : (s.hears o).AirSound := by
  have good := h.still s.heardGood_airStill
  cases o with
  | outside => exact h.still s.heardWellFormed_airStill
  | conflict => exact h.still s.heardConflict_airStill
  | badLength => exact h.still (s.countReception_airStill true)
  | ignored => exact good
  | allowance b0 b1 b2 => exact (good.still (State.mapAllowance_airStill _ _)).still (State.lower_airStill _ _)
  | demand n d => exact good.still (State.mapPeers_airStill _ _)
  | panel d => exact good.panelArrives d
  | conditionRead => exact (good.still (State.mapCond_airStill _ _)).still (State.mapLine_airStill _ _)
  | conditionClear b1 b2 b3 => exact good.still (State.mapCond_airStill _ _)
  | conditionRelease => exact good.still (State.mapCond_airStill _ _)
  | channelUnlock b1 => exact good.still (State.channelsUnlock_airStill b1 _)
  | rehome => exact (good.still (State.rehome_airStill .fresh _)).still (State.rehome_airStill .blend _)

theorem State.AirSound.receives {s : State} (h : s.AirSound) (r : Reception) : (s.receives r).AirSound := by
  cases r with
  | error => exact h.still (s.countReception_airStill true)
  | frame f => exact h.hears _

end Sys2Proof.Machine
end

section
/-! Every command and every step keeps the laws of the air, of the dampers' travel and of the samples. -/

namespace Sys2Proof.Machine

/-! ### Answers -/

/-- A command's answer meets the laws. -/
def AirKept (o : Host.Outcome State Fault Refusal) : Prop := ∀ t, o = .next t → t.AirSound

theorem State.AirSound.kept {s : State} (h : s.AirSound) : AirKept (.next s) := fun _ e => Host.Outcome.next.inj e ▸ h

/-- An event that may not be under way. -/
theorem State.AirSound.kept_ite {s u : State} (h : s.AirSound) {p : Prop} [Decidable p] (k : p → u.AirSound) :
    AirKept (.next (if p then u else s)) := by
  refine State.AirSound.kept ?_
  split
  next hp => exact k hp
  next => exact h

/-- An event that changes nothing the laws rest on. -/
theorem State.AirSound.kept_still {s u : State} (h : s.AirSound) {p : Prop} [Decidable p] (k : s.AirStill u) :
    AirKept (.next (if p then u.finish s else s)) :=
  h.kept_ite fun _ => (h.still k).finish s

/-- A level commanded on a slow line. -/
theorem State.AirSound.kept_onSlowEvent {s : State} (h : s.AirSound) {l : SlowLine} {b : Bool} {f : State → State}
    (k : (s.accept l b).AirSound → (f (s.accept l b)).AirSound) : AirKept (.next (s.onSlowEvent l b f)) := by
  have accepted : (s.accept l b).AirSound := h.mapInput (h.samples.same rfl rfl rfl)
  rcases s.onSlowEvent_cases l b f with ⟨-, e⟩ | ⟨-, e⟩ | ⟨-, e⟩ <;> rw [e]
  · exact ((k accepted).finish s).kept
  · exact accepted.kept
  · exact h.kept

/-- An event at the receiver (R15). -/
theorem State.AirSound.reception {s : State} (h : s.AirSound) {f : State → State} (k : (f s).AirSound) :
    (s.reception f).AirSound := by
  unfold State.reception
  split
  · exact k.finish s
  · exact h

theorem State.AirSound.kept_hears {s : State} (h : s.AirSound) (o : Sorted) : AirKept (.next (s.reception (State.hears o))) :=
  (h.reception (h.hears o)).kept

/-! ### Edges -/

/-- An accepted edge on an input that is no sensor's (R111, R112). -/
theorem State.AirSound.onEdge {s : State} (h : s.AirSound) {x : FastInput} (rising : Bool) {f : State → State}
    (other : ∀ y : Sensor, y.line ≠ x) (k : (s.acceptFast x rising).AirSound → (f (s.acceptFast x rising)).AirSound) :
    (s.onEdge x rising f).AirSound := by
  have accepted : (s.acceptFast x rising).AirSound := h.mapInput (h.samples.setFast (.inr (.inr other)))
  rcases s.onEdge_cases x rising f with ⟨-, e⟩ | ⟨-, e⟩ | ⟨-, -, e⟩ <;> rw [e]
  · exact k accepted
  · exact accepted
  · exact h

/-- An edge of a sensor's input is accepted only on the other level (R103). -/
theorem State.accepted_of_acceptsEdge {s : State} {x : Sensor} {rising : Bool} (h : s.acceptsEdge x.line rising = true) :
    (s.input.fast.get x.line).accepted = some !rising := by
  unfold State.acceptsEdge at h
  rw [x.line_seen] at h
  cases level : (s.input.fast.get x.line).accepted with
  | none => simp [level] at h
  | some old => cases old <;> cases rising <;> simp_all

/-- An edge of a sensor's input, its capture value the capture timer's, leaves the sample of that sensor paced (R103 to R107). -/
theorem State.AirSound.onCapturedEdge {s : State} (h : s.AirSound) (x : Sensor) (rising : Bool) (capture : BitVec 16)
    {f : SensorEntry → SensorEntry} (paced : ∀ e : SensorEntry, e.paced capture (some !rising) = true →
      (f e).paced capture (some rising) = true) :
    (s.onCapturedEdge x.line rising capture (State.mapSensor x f)).AirSound := by
  unfold State.onCapturedEdge State.when
  split
  next now =>
    have now : capture = s.input.captureTimer := of_decide_eq_true now
    rcases s.onEdge_cases x.line rising (State.mapSensor x f) with ⟨edge, e⟩ | ⟨first, e⟩ | ⟨-, -, e⟩ <;> rw [e]
    · have before := h.samples x
      rw [State.accepted_of_acceptsEdge edge, ← now] at before
      subst now
      have taken := h.samples.setEdge (x := x) (v := ⟨some rising, some rising⟩) (pins := s.input.pins.setFast rising x.line)
        (paced _ before)
      exact ⟨h.air, h.running, h.rests, h.travel, taken⟩
    · exact h.mapInput (h.samples.setFast (.inr (.inl first)))
    · exact h
  next => exact h

theorem Damper.line_unsensed (d : Damper) (x : Sensor) : x.line ≠ d.line := by
  cases d <;> cases x <;> decide

theorem State.AirSound.foldl {α : Type} {f : State → α → State} (step : ∀ {s : State} (a : α), s.AirSound → (f s a).AirSound) :
    ∀ (l : List α) {s : State}, s.AirSound → (l.foldl f s).AirSound
  | [], _, h => h
  | a :: l, _, h => State.AirSound.foldl step l (step a h)

/-! ### Windows -/

theorem State.AirSound.closeSensor {s : State} (h : s.AirSound) (x : Sensor) : (s.closeSensor x).AirSound := by
  unfold State.closeSensor
  dsimp only
  split
  · have closed : (s.mapSensor x SensorEntry.close).AirSound :=
      h.mapInput (h.samples.mapSensor x fun e => .inr e.close_sample)
    exact closed.still (State.setCond_airStill _ _ _)
  · exact h.mapInput (h.samples.mapSensor x fun e => .inr ⟨rfl, rfl⟩)

theorem State.handTach_airStill (s : State) : s.AirStill s.handTach := by
  unfold State.handTach
  split
  · exact .refl s
  · refine State.mapDrive_airStill ?_
    unfold DriveUnit.judgeTach
    (repeat' split) <;> rfl

theorem execWindowClose_air {s : State} (h : s.AirSound) : AirKept (execWindowClose s) := by
  refine h.kept_ite fun _ => State.AirSound.finish (State.AirSound.still ?_ (State.handTach_airStill _)) s
  have closed := State.AirSound.foldl (fun x k => k.closeSensor x) allSensors
    (h.mapInput (f := fun i => { i with windowTimer := Timer.start }) (h.samples.same rfl rfl rfl))
  exact closed.mapInput (closed.samples.same rfl rfl rfl)

/-! ### The node and the line -/

theorem execLoadingComplete_air {s : State} (inv : s.Inv) (image : Vector Byte 83) : AirKept (execLoadingComplete image s) := by
  refine inv.airSound.kept_ite fun loading => State.AirSound.finish ?_ s
  have applied := inv.applyConfig_airSound loading (takeImage s.node.cfgm image).1
  have away : (s.applyConfig (takeImage s.node.cfgm image).1).node.state ≠ .running := fun running =>
    absurd (loading.symm.trans running) (by decide)
  cases (takeImage s.node.cfgm image).2 with
  | image => exact applied.enterListening away
  | clampedImage => exact (applied.still (State.raise_airStill .configClamped _)).enterListening (by simpa using away)
  | defaults => exact (applied.still (State.raise_airStill .configDefault _)).enterListening (by simpa using away)

theorem execListeningTimerExpiry_air {s : State} (h : s.AirSound) : AirKept (execListeningTimerExpiry s) := by
  refine h.kept_ite fun _ => State.AirSound.finish ?_ s
  have expired := h.still (State.mapNode_airStill (f := fun n => { n with listening := .expired }) rfl rfl)
  split
  · exact expired.enterRunning true
  · exact expired

theorem execParkingTimerExpiry_air {s : State} (h : s.AirSound) : AirKept (execParkingTimerExpiry s) := by
  refine h.kept_ite fun ⟨parking, _⟩ => State.AirSound.finish ?_ s
  have expired := h.still (State.mapNode_airStill (f := fun n => { n with parking := .expired }) rfl rfl)
  split
  · exact expired
  · exact expired.beginLeaving parking

theorem State.offer_airStill (s : State) : s.AirStill s.offer := by
  unfold State.offer
  split
  · split
    · exact .refl s
    · exact s.mapLine_airStill _
  · exact .refl s

theorem State.failOffer_airStill (s : State) : s.AirStill s.failOffer := by constructor <;> simp

theorem State.refreshStatus_airStill (s : State) : s.AirStill s.refreshStatus := by constructor <;> simp

/-- The completion of a leaving Demand ends in Sleep (R159). -/
theorem State.AirSound.demandCompletes {s : State} (h : s.AirSound) (c : Demand) (replaced : Bool) :
    (s.demandCompletes c replaced).AirSound := by
  have completed := (h.still (s.mapLine_airStill (LineInterface.demandCompleted c replaced))).still
    (State.mapShare_airStill (ShareUnit.complete c.take) _)
  unfold State.demandCompletes State.when
  dsimp only
  split
  next leaves =>
    simp only [Bool.and_eq_true, decide_eq_true_eq] at leaves
    exact completed.enterSleep (by rw [leaves.1.2]; decide)
  next => exact completed

theorem execDemandCompletion_air {s : State} (h : s.AirSound) : AirKept (execDemandCompletion s) := by
  refine State.AirSound.kept ?_
  split
  case h_1 => exact h
  case h_2 o _ =>
    split
    case h_1 c _ =>
      split
      · exact h.still (s.mapLine_airStill _)
      · exact (h.demandCompletes c o.replaced).finish s
    all_goals exact h

theorem execFrameCompletion_air {s : State} (h : s.AirSound) : AirKept (execFrameCompletion s) := by
  refine State.AirSound.kept ?_
  split
  case h_1 => exact h
  case h_2 =>
    split
    case h_1 => exact h
    all_goals
      split
      · exact h.still (s.mapLine_airStill _)
      · exact (h.still (s.mapLine_airStill _)).finish s

/-- A Demand handed after a change of the Line Interface. -/
theorem State.AirSound.lineThenDemand {s : State} (h : s.AirSound) (f : LineInterface → LineInterface) (b : Bool) :
    ((s.mapLine f).when b State.handDemand).AirSound :=
  h.still ((s.mapLine_airStill f).when (State.handDemand_airStill _))

/-! ### The Air Unit -/

/-- A boost begun, and the class and the fresh damper target settled after it (R73). -/
theorem State.AirSound.doorCloses {s : State} (h : s.AirSound) (d : Door) : (s.doorCloses d).AirSound := by
  unfold State.doorCloses
  split
  next closes =>
    obtain ⟨now, -, source, -⟩ := closes
    exact (h.moveSource now (h.air.source.startBoost source) ⟨rfl, rfl, rfl, rfl, rfl⟩ rfl).sourceChanged
  next => exact h

/-- A boost is under way in Running alone (R84). -/
theorem State.AirSound.running_of_boost {s : State} (h : s.AirSound) (source : s.air.source = .pressurize) :
    s.node.state = .running := by_contra fun away => (h.rests away).unboosted source

theorem State.AirSound.running_of_purge {s : State} (h : s.AirSound) (source : s.air.source = .purge) :
    s.node.state = .running := by_contra fun away => (h.rests away).unpurged source

theorem State.AirSound.endsBoost {s : State} (h : s.AirSound) (source : s.air.source = .pressurize) :
    (s.mapAir AirUnit.endBoost).sourceChanged.AirSound :=
  (h.moveSource (h.running_of_boost source) (h.air.source.endBoost source) ⟨rfl, rfl, rfl, rfl, rfl⟩ rfl).sourceChanged

theorem State.AirSound.doorOpens {s : State} (h : s.AirSound) (d : Door) : (s.doorOpens d).AirSound := by
  unfold State.doorOpens
  split
  next opens =>
    obtain ⟨-, -, source⟩ := opens
    exact h.endsBoost source
  next => exact h

/-- A purge timed out (R78). -/
theorem State.AirSound.purgeTimesOut {s : State} (h : s.AirSound) (source : s.air.source = .purge) :
    ((s.raise .purgeTimeout).mapAir AirUnit.purgeTimedOut).sourceChanged.AirSound := by
  have raised := h.still (State.raise_airStill .purgeTimeout s)
  have source' : (s.raise .purgeTimeout).air.source = .purge := by simpa using source
  exact (raised.moveSource (raised.running_of_purge source') (raised.air.source.purgeTimedOut source') ⟨rfl, rfl, rfl, rfl, rfl⟩
    rfl).sourceChanged

/-- The lockout's end (R79). -/
theorem State.AirSound.lockoutEnds {s : State} (h : s.AirSound) :
    ((s.mapAir fun a => { a with lockout := .expired }).lower .purgeTimeout).AirSound := by
  have source : ({ s.air with lockout := .expired } : AirUnit).SourceSound :=
    ⟨h.air.source.boost, h.air.source.purge, h.air.source.unheld, h.air.source.holdBound, h.air.source.unled,
      h.air.source.clearBound, fun _ => rfl⟩
  exact (h.mapAir (h.air.of_source source ⟨rfl, rfl, rfl, rfl, rfl⟩) h.running fun away =>
    (h.rests away).same rfl).still (State.lower_airStill _ _)

/-- The overrides lapse (R146). -/
theorem State.AirSound.lapses {s : State} (h : s.AirSound) : (s.mapAir AirUnit.lapse).AirSound :=
  h.mapAir h.air.lapse h.running fun away => ⟨(h.rests away).unboosted, (h.rests away).unpurged, (h.rests away).timer, rfl, rfl⟩

/-! ### The channels and the actuators -/

theorem execChannelLock_air {s : State} (h : s.AirSound) (c : Channel) (k : TripCause) : AirKept (execChannelLock c k s) := by
  refine h.kept_ite fun _ => State.AirSound.finish (State.AirSound.still ?_ (State.trip_airStill c k _)) s
  cases k with
  | overCurrent =>
    have accepted : (s.accept c.line true).AirSound := h.mapInput (h.samples.same rfl rfl rfl)
    exact accepted
  | stall => exact h

theorem execRampTimerExpiry_air {s : State} (h : s.AirSound) : AirKept (execRampTimerExpiry s) := by
  have ramped : s.AirStill (s.mapDrive DriveUnit.rampExpired) := State.mapDrive_airStill <| by
    unfold DriveUnit.rampExpired
    dsimp only
    split <;> rfl
  exact h.kept_still (ramped.trans (by constructor <;> simp))

/-- An expiry at an actuator that leaves it within its travel. -/
theorem State.AirSound.kept_actuator {s : State} (h : s.AirSound) (d : Damper) {p : Prop} [Decidable p] {r : ActuatorStep}
    (within : (s.drive.actuator d).Within (s.params.travel d) → r.act.Within (s.params.travel d)) :
    AirKept (.next (if p then (s.applyActuator d r).finish s else s)) :=
  h.kept_ite fun _ => (h.applyActuator (within (h.travel d))).finish s

theorem execHallEdge_air {s : State} (h : s.AirSound) (d : Damper) : AirKept (execHallEdge d s) :=
  State.AirSound.kept <| h.onEdge true d.line_unsensed fun accepted =>
    (accepted.applyActuator (Actuator.edge_within _ _ (accepted.travel d))).finish s

/-! ### One microsecond -/

theorem AirUnit.Sound.tick {own : Node} {a : AirUnit} (h : a.Sound own) : a.tick.Sound own := by
  obtain ⟨⟨boost, purge, unheld, holdBound, unled, clearBound, unlocked⟩, unseen, override, blend, freshTarget, forcedBlend⟩ := h
  refine ⟨⟨?_, ?_, unheld, holdBound, unled, clearBound, ?_⟩, unseen, ?_, blend, freshTarget, forcedBlend⟩ <;>
    simpa only [AirUnit.tick, Timer.isRunning_tick]

/-- A microsecond passes only while no edge timeout is due (R104). -/
theorem State.AirSound.advance {s : State} (h : s.AirSound) (undue : dueEvents s = []) : s.advance.AirSound where
  air := h.air.tick
  running now := (Timer.isRunning_tick _).trans (h.running now)
  rests away := by
    obtain ⟨unboosted, unpurged, timer, overrides, overrideTimer⟩ := h.rests away
    exact ⟨unboosted, unpurged, by simp [State.advance, AirUnit.tick, timer, Timer.tick], overrides,
      by simp [State.advance, AirUnit.tick, overrideTimer, Timer.tick]⟩
  travel x := by
    cases x with
    | fresh => exact (h.travel .fresh).congr rfl
    | blend => exact (h.travel .blend).congr rfl
  samples := h.samples.tick (timeouts_of_nothing_due undue)

/-- Sampling reaches no more of the laws than the samples in progress. -/
theorem State.AirSound.sampleFastInput {s : State} (h : s.AirSound) (x : FastInput) : (s.sampleFastInput x).AirSound := by
  have samples := State.sampleFastInput_paced h.samples x
  unfold State.sampleFastInput at samples ⊢
  dsimp only at samples ⊢
  split at samples
  · exact ⟨h.air, h.running, h.rests, h.travel, samples⟩
  · exact ⟨h.air, h.running, h.rests, h.travel, samples⟩

theorem State.AirSound.sampleSlowLine {s : State} (h : s.AirSound) (l : SlowLine) : (s.sampleSlowLine l).AirSound := by
  unfold State.sampleSlowLine
  dsimp only
  split <;> exact ⟨h.air, h.running, h.rests, h.travel, h.samples.same rfl rfl rfl⟩

theorem State.AirSound.sample {s : State} (h : s.AirSound) : s.sample.AirSound := by
  have fast := State.AirSound.foldl (fun x k => k.sampleFastInput x) allFastInputs h
  unfold State.sample
  dsimp only
  split
  · exact State.AirSound.foldl (fun l k => k.sampleSlowLine l) allSlowLines fast
  · exact fast

/-! ### Every command -/

/-- Every command keeps the laws. -/
theorem exec_air (c : Instr) {s : State} (inv : s.Inv) : AirKept (exec c s) := by
  have h := inv.airSound
  cases c with
  | coldStart straps => exact (State.cold_airSound _ _ _ _).kept
  | loadingComplete image => exact execLoadingComplete_air inv image
  | listeningTimerExpiry => exact execListeningTimerExpiry_air h
  | supplyOkAsserted => exact h.kept_onSlowEvent fun accepted => accepted.supplyReturns
  | supplyOkDeasserted => exact h.kept_onSlowEvent fun accepted => accepted.supplyFails
  | ignAcceptedLow => exact h.kept_onSlowEvent fun accepted => accepted.ignitionOff
  | ignAcceptedHigh => exact h.kept_onSlowEvent fun accepted => accepted.ignitionOn
  | sleepDelayExpiry => exact h.kept_ite fun _ => h.enterParking.finish s
  | parkingTimerExpiry => exact execParkingTimerExpiry_air h
  | leavingTimerExpiry => exact h.kept_ite fun ⟨parking, _⟩ => (h.enterSleep (by rw [parking]; decide)).finish s
  | allowanceArrival nodeField b0 b1 b2 => exact h.kept_hears _
  | demandArrival sender data => exact h.kept_hears _
  | panelArrival data => exact h.kept_hears _
  | conditionRead => exact h.kept_hears _
  | conditionClear b1 b2 b3 => exact h.kept_hears _
  | conditionRelease => exact h.kept_hears _
  | channelUnlock b1 => exact h.kept_hears _
  | rehomeDampers => exact h.kept_hears _
  | ignoredFrame f => exact h.kept_ite fun _ => h.reception (h.hears _)
  | outsideExchangeFrame f b => exact h.kept_ite fun _ => h.reception (h.hears _)
  | receiveError => exact (h.reception (h.receives .error)).kept
  | addressConflict f => exact h.kept_ite fun _ => h.reception (h.hears _)
  | errorWindowClose r => exact h.kept_ite fun _ => h.reception (h.receives r)
  | offerFrame => exact (h.still s.offer_airStill).kept
  | lostArbitration => exact (h.still (s.mapLine_airStill _)).kept
  | transmitFailure => exact ((h.still s.failOffer_airStill).finish s).kept
  | lineOff => exact h.kept_still s.failOffer_airStill
  | demandCompletion => exact execDemandCompletion_air h
  | frameCompletion => exact execFrameCompletion_air h
  | lineOffTimerExpiry => exact h.kept_still ((s.mapLine_airStill _).trans (State.lower_airStill _ _))
  | inhibitTimerExpiry => exact h.kept_ite fun _ => (h.lineThenDemand _ _).finish s
  | refreshTimerExpiry => exact h.kept_ite fun _ => (h.lineThenDemand _ _).finish s
  | statusTimerExpiry => exact h.kept_still ((s.mapLine_airStill _).trans (State.refreshStatus_airStill _))
  | statusBGuardExpiry => exact h.kept_still (s.mapLine_airStill _)
  | silenceTimerExpiry => exact h.kept_still ((s.mapLine_airStill _).trans (State.setIsolated_airStill _))
  | peerAging n => exact h.kept_still (s.mapPeers_airStill _)
  | peerStale n => exact h.kept_still (s.mapPeers_airStill _)
  | peerHoldLimit n => exact h.kept_still (s.mapPeers_airStill _)
  | allowanceTimeout => exact h.kept_still ((s.mapAllowance_airStill _).trans (State.raise_airStill _ _))
  | shareExpiry => exact h.kept_still (s.changeTake_airStill _)
  | airExpiry => exact h.kept_ite fun ⟨running, _⟩ => (h.airWork inv.peers running).finish s
  | clearingHoldComplete => exact h.kept_ite fun ⟨running, _⟩ => (h.airWork inv.peers running).finish s
  | doorCloseEvent d => exact h.kept_onSlowEvent fun accepted => accepted.doorCloses d
  | doorOpenEvent d => exact h.kept_onSlowEvent fun accepted => accepted.doorOpens d
  | boostTimerExpiry => exact h.kept_ite fun ⟨_, source⟩ => (h.endsBoost source).finish s
  | purgeTimerExpiry => exact h.kept_ite fun ⟨_, source⟩ => (h.purgeTimesOut source).finish s
  | lockoutTimerExpiry => exact h.kept_ite fun _ => h.lockoutEnds.finish s
  | minimumOnExpiry => exact h.kept_ite fun _ => h.still (State.mapAir_airStill rfl)
  | minimumOffExpiry => exact h.kept_ite fun _ => h.still (State.mapAir_airStill rfl)
  | overrideLifetimeExpiry => exact h.kept_ite fun _ => h.lapses.settleFresh.finish s
  | temperatureEdge t rising capture =>
    have sound := h.onCapturedEdge t.sensor rising capture fun _ paced =>
      SensorEntry.temperatureEdge_paced (s.samplesCount t.sensor) rising paced
    rw [t.sensor_line] at sound
    exact sound.kept
  | smokeEdge k rising capture =>
    have sound := h.onCapturedEdge k.sensor rising capture fun e _ =>
      SensorEntry.smokeEdge_paced (s.samplesCount k.sensor) rising capture e
    rw [k.sensor_line] at sound
    exact sound.kept
  | tachEdge =>
    refine (h.onEdge true (fun y => by cases y <;> decide) fun accepted => accepted.mapInput ?_).kept
    unfold InputUnit.countTach
    split
    · exact accepted.samples.same rfl rfl rfl
    · exact accepted.samples
  | edgeTimeoutExpiry x => exact h.kept_ite fun _ => h.mapInput (h.samples.mapSensor x fun _ => .inl rfl)
  | windowClose => exact execWindowClose_air h
  | hallEdge d => exact execHallEdge_air h d
  | overCurrentAsserted c =>
    exact h.kept_onSlowEvent fun accepted => accepted.still ((State.AirStill.refl _).when (State.trip_airStill c .overCurrent _))
  | channelLock c cause => exact execChannelLock_air h c cause
  | overCurrentCleared c =>
    exact h.kept_onSlowEvent fun accepted => accepted.still (State.mapDrive_airStill (DriveUnit.setChannel_travels _ _ _))
  | rampTimerExpiry => exact execRampTimerExpiry_air h
  | blowerStallExpiry => exact h.kept_still (State.trip_airStill _ _ _)
  | cooldownTimerExpiry c => exact h.kept_still (State.channelEntersOff_airStill c _)
  | cleanRunExpiry c => exact h.kept_ite fun _ => h.still (State.mapDrive_airStill (DriveUnit.setChannel_travels _ _ _))
  | damperStall d => exact h.kept_actuator d fun within => Actuator.stall_within _ _ within
  | coastTimerExpiry d =>
    exact h.kept_ite fun _ => h.still (State.mapDrive_airStill (DriveUnit.setActuator_travels rfl))
  | reversalTimerExpiry d => exact h.kept_actuator d fun within => within.congr (Actuator.reversalExpired_counts _ _ _)
  | homingTimerExpiry d => exact h.kept_actuator d fun within => within.congr (Actuator.homingExpired_counts _)
  | retryTimerExpiry d => exact h.kept_actuator d fun within => within.congr (Actuator.retryExpired_counts _ _ _)
  | autoReleaseExpiry => exact h.kept_still (s.mapCond_airStill _)
  | frameDiscardedForLength f => exact h.kept_ite fun _ => h.reception (h.hears _)

/-! ### Every step -/

/-- Time passes only while nothing is due. -/
theorem nothing_due_of_chooseDue {k : Nat} {l : List Instr} (h : chooseDue k l = none) : l = [] := by
  unfold chooseDue at h
  split at h
  · rfl
  all_goals exact nomatch h

theorem step_keeps_air {s t : State} (inv : s.Inv) (h : step s = .next t) : t.AirSound := by
  unfold step at h
  split at h
  case h_1 c rest _ => exact exec_air c (inv.with_queue rest s.choices) t h
  case h_2 =>
    unfold idle at h
    split at h
    case h_1 undue =>
      cases h
      exact (inv.airSound.advance (nothing_due_of_chooseDue undue)).sample
    case h_2 c _ => exact exec_air c (inv.with_queue s.pending (s.choices + 1)) t h

/-- Settles O60: the laws of the source, of the overrides, of the dampers' travel and of the samples, which the invariant gives of every
state, hold through each act of the Air Unit, of the actuators and of the inputs; and a microsecond passes only while no edge timeout
is due. -/
theorem airTravelAndSampleLawsKept : Obligations.AirTravelAndSampleLawsKept := by
  intro s t inv h
  exact (step_keeps_air inv h).laws

end Sys2Proof.Machine
end

section
/-! What the Air Unit's own timers and the doors do (R73, R74, R78, R79, R81, R83, R95, R146): the source machine moved, and the class
and the fresh damper target settled at the end of the event. -/

namespace Sys2Proof.Machine

/-! ### The fresh damper target settled at an event's end -/

/-- An event that ends with the fresh damper target settled, outside Parking (R8, R9, R81). -/
theorem State.settleFresh_finish {u t : State} (b : State) (awake : u.node.state ≠ .parking) (end_ : u.settleFresh.finish b = t) :
    t.air = { u.air with freshTarget := t.air.freshTarget } ∧ u.freshSettled t ∧ u.condsSameBut [.freshDamperStall] t ∧
    u.line.sameOutsideSlots t.line ∧ u.sameExcept [.air, .drive, .cond, .line] t := by
  subst end_
  obtain ⟨settled, conds, air⟩ := u.settleFresh_settled
  have unmarked := u.settleFresh_unmarked
  have blocks : u.sameExcept [.air, .drive, .cond, .line] u.settleFresh := by simp [State.sameExcept]
  have node := u.settleFresh_frame.2.1
  generalize u.settleFresh = v at *
  obtain ⟨ends, same⟩ := State.finish_of_not_waiting v b (.inl (by rwa [node]))
  have whole := State.sameExcept_trans blocks ends (by simp)
  simp only [State.sameExcept, List.mem_singleton, reduceCtorEq, false_or, true_or, true_and] at ends
  obtain ⟨-, tNode, -, -, -, tAir, -, tDrive, tCond, -, -⟩ := ends
  refine ⟨by rw [tAir]; exact air, State.freshSettled_congr settled rfl rfl rfl (by rw [tNode]) tAir tDrive tCond, ?_,
    LineInterface.sameOutsideSlots_trans (LineInterface.sameOutsideSlots_of_unmarked unmarked) same, whole⟩
  rw [State.condsSameBut, tCond]
  exact conds

/-- A change of the Air Unit, the fresh damper target settled after it at the end of the event, outside Parking. -/
theorem State.mapAir_settleFresh_finish {s t : State} {f : AirUnit → AirUnit} (b : State) (awake : s.node.state ≠ .parking)
    (ends : (s.mapAir f).settleFresh.finish b = t) :
    t.air = { f s.air with freshTarget := t.air.freshTarget } ∧ s.freshSettled t ∧ s.condsSameBut [.freshDamperStall] t ∧
    s.line.sameOutsideSlots t.line ∧ s.sameExcept [.air, .drive, .cond, .line] t := by
  obtain ⟨air, settled, conds, same, blocks⟩ := State.settleFresh_finish (u := s.mapAir f) b awake ends
  exact ⟨air, State.freshSettled_congr settled rfl rfl rfl rfl rfl rfl rfl, conds, same,
    State.sameExcept_trans (by simp [State.sameExcept]) blocks (by simp)⟩

/-- A change of the source, the class and the fresh damper target settled after it at the end of the event, outside Parking (R81,
R83). -/
theorem State.mapAir_sourceChanged_finish {s t : State} {f : AirUnit → AirUnit} (b : State) (awake : s.node.state ≠ .parking)
    (ends : (s.mapAir f).sourceChanged.finish b = t) :
    t.air = { f s.air with cls := classOf s.params t.air (s.reading .cabTemp), freshTarget := t.air.freshTarget } ∧
    s.freshSettled t ∧ s.condsSameBut [.freshDamperStall] t ∧ s.line.sameOutsideSlots t.line ∧
    s.sameExcept [.air, .drive, .cond, .line] t := by
  have composed : (s.mapAir f).sourceChanged =
      (s.mapAir fun a => { f a with cls := classOf s.params (f a) (s.reading .cabTemp) }).settleFresh := rfl
  rw [composed] at ends
  obtain ⟨air, rest⟩ := State.mapAir_settleFresh_finish b awake ends
  have cls : classOf s.params t.air (s.reading .cabTemp) = classOf s.params (f s.air) (s.reading .cabTemp) := by rw [air]; rfl
  exact ⟨by rw [cls]; exact air, rest⟩

/-! ### The timers -/

/-- A boost and a purge run in Running alone (R84). -/
theorem State.not_parking_of_timed {s : State} (h : s.sourceLaws)
    (timed : s.air.boost.isRunning = true ∨ s.air.purge.isRunning = true) : s.node.state ≠ .parking := fun parked => by
  obtain ⟨boost, purge, -, -, -, -, -, ended, -⟩ := h
  obtain ⟨unboosted, unpurged⟩ := ended (by rw [parked]; decide)
  exact timed.elim (fun runs => unboosted (boost.1 runs)) fun runs => unpurged (purge.1 runs)

/-- An override is in force in Running alone (R146). -/
theorem State.not_parking_of_override {s : State} (h : s.overrideLaws) (runs : s.air.overrideTimer.isRunning = true) :
    s.node.state ≠ .parking := fun parked => by
  rw [(h.2 (by rw [parked]; decide)).2] at runs
  exact nomatch runs

theorem execBoostTimerExpiry_of_running {s : State} (laws : s.sourceLaws) (runs : s.air.boost.isRunning = true) :
    execBoostTimerExpiry s = .next ((s.mapAir AirUnit.endBoost).sourceChanged.finish s) :=
  congrArg Host.Outcome.next (if_pos ⟨runs, laws.1.1 runs⟩)

theorem execPurgeTimerExpiry_of_running {s : State} (laws : s.sourceLaws) (runs : s.air.purge.isRunning = true) :
    execPurgeTimerExpiry s = .next (((s.raise .purgeTimeout).mapAir AirUnit.purgeTimedOut).sourceChanged.finish s) :=
  congrArg Host.Outcome.next (if_pos ⟨runs, laws.2.1.1 runs⟩)

/-- Settles O42, by the timer that expires. -/
theorem airTimersEnd : Obligations.AirTimersEnd := by
  refine ⟨⟨fun s laws runs => ?_, fun s laws runs => ?_, fun s runs => ?_⟩, fun s runs => ?_, fun s runs => ?_,
    fun s laws runs => ?_⟩
  · exact ⟨_, execBoostTimerExpiry_of_running laws runs,
      State.mapAir_sourceChanged_finish s (State.not_parking_of_timed laws (.inl runs)) rfl⟩
  · refine ⟨_, execPurgeTimerExpiry_of_running laws runs, ?_⟩
    obtain ⟨air, fresh, conds, same, blocks⟩ := State.mapAir_sourceChanged_finish (s := s.raise .purgeTimeout)
      (f := AirUnit.purgeTimedOut) s (by simpa using State.not_parking_of_timed laws (.inr runs)) rfl
    simp only [State.reading, State.raise_frame] at air
    refine ⟨air, ?_, ?_, conds, LineInterface.sameOutsideSlots_trans (s.raise_same _) same,
      State.sameExcept_trans (by simp [State.sameExcept]) blocks (by simp)⟩
    · rw [conds.2 .purgeTimeout (by decide), State.raise_active]
      simp
    · exact State.freshSettled_congr fresh (by simp) (by simp) (by simp [State.raise_active]) rfl rfl rfl rfl
  · refine ⟨_, congrArg Host.Outcome.next (if_pos runs), ?_⟩
    let v := s.mapAir fun a => { a with lockout := .expired }
    let u := v.lower .purgeTimeout
    obtain ⟨blocks, same⟩ := State.finish_undriven (s := s) (u := u) (by simp [u, v]) (by simp [u, v])
    have whole : s.sameExcept [.air, .cond, .line] (u.finish s) :=
      State.sameExcept_trans (by simp [State.sameExcept, u, v]) blocks (by simp)
    simp only [State.sameExcept, List.mem_singleton, reduceCtorEq, false_or, true_or, true_and] at blocks
    obtain ⟨-, -, -, -, -, air, -, -, cond, -⟩ := blocks
    refine ⟨air.trans (by simp [u, v]), cond.trans ?_, LineInterface.sameOutsideSlots_trans (v.lower_same .purgeTimeout) same,
      whole⟩
    rw [State.lower_cond, State.lower_cond]
    rfl
  · exact congrArg Host.Outcome.next (if_pos runs)
  · exact congrArg Host.Outcome.next (if_pos runs)
  · exact ⟨_, congrArg Host.Outcome.next (if_pos runs),
      State.mapAir_settleFresh_finish s (State.not_parking_of_override laws runs) rfl⟩

end Sys2Proof.Machine
end

section
/-! What the doors do (R73, R74, R81, R83, R113): the close of the last open fitted door and the opening of a fitted one. -/

namespace Sys2Proof.Machine

/-! ### The doors' lines -/

/-- A door's line reads low only once it has been accepted so (R113). -/
theorem State.doorLevel_low_iff (d : Door) (s : State) :
    s.lineLevel d.line = false ↔ (s.input.slow.get d.line).accepted = some false := by
  have inactive : d.line.inactive = true := by cases d <;> rfl
  rw [State.lineLevel, inactive]
  cases (s.input.slow.get d.line).accepted <;> simp

/-- A door is fitted by the count of door inputs fitted (R73, R74). -/
theorem Params.doorFitted_iff (d : Door) (p : Params) :
    p.doorFitted d = true ↔ (d = .door1 ∧ 1 ≤ p.doorsFitted) ∨ (d = .door2 ∧ 2 ≤ p.doorsFitted) := by
  cases d <;> simp [Params.doorFitted]

theorem Params.doorFitted_eq_false (d : Door) (p : Params) :
    p.doorFitted d = false ↔ p.doorsFitted < (match d with | .door1 => 1 | .door2 => 2) := by
  cases d <;> exact decide_eq_false_iff_not.trans Nat.not_le

/-- The door just closed is the last fitted one to be so (R73). -/
theorem State.lastDoor_iff (d : Door) (s : State) :
    (s.params.doorFitted d = true ∧ (s.accept d.line false).allDoorsClosed = true) ↔
      ((d = .door1 ∧ 1 ≤ s.params.doorsFitted ∧ (s.params.doorsFitted < 2 ∨ s.input.slow.door2.accepted = some false)) ∨
        (d = .door2 ∧ 2 ≤ s.params.doorsFitted ∧ s.input.slow.door1.accepted = some false)) := by
  have closed : (s.accept d.line false).lineLevel d.line = false := (s.accept_spec d.line false).1
  have kept {e : Door} (h : e.line ≠ d.line) : (s.accept d.line false).lineLevel e.line = false ↔
      (s.input.slow.get e.line).accepted = some false := by
    rw [s.accept_lineLevel_of_ne false h, State.doorLevel_low_iff]
  simp only [State.allDoorsClosed, Bool.and_eq_true, Bool.or_eq_true, Bool.not_eq_true', State.accept_params,
    Params.doorFitted_eq_false, Params.doorFitted_iff]
  cases d with
  | door1 =>
    have other := kept (e := .door2) (by decide)
    simp only [Door.line, SlowSamplers.get] at closed other ⊢
    simp [closed, other]
  | door2 =>
    have other := kept (e := .door1) (by decide)
    simp only [Door.line, SlowSamplers.get] at closed other ⊢
    simp only [closed, other, or_true, and_true, true_and, reduceCtorEq, false_and, false_or]
    exact and_congr_right fun two => or_iff_right (by omega)

/-! ### What they do to the source -/

theorem State.input_of_sameExcept {bs : List Block} {s t : State} (h : s.sameExcept bs t) (other : Block.input ∉ bs) :
    t.input = s.input := by
  obtain ⟨-, -, -, -, -, -, -, input, -⟩ := h
  exact input.resolve_left other

/-- A level accepted on a slow line, and nothing done with it. -/
theorem State.accept_finish (l : SlowLine) (level : Bool) (s : State) : s.onlyAccepted l level ((s.accept l level).finish s) := by
  obtain ⟨blocks, same⟩ := State.finish_undriven (s := s) (u := s.accept l level) rfl rfl
  exact ⟨State.input_of_sameExcept blocks (by decide), same, State.sameExcept_trans (by simp [State.sameExcept]) blocks (by simp)⟩

/-- In Running a door's event moves the source, with the class and the fresh damper target settled after it. -/
theorem State.door_finish {s t : State} {l : SlowLine} {level : Bool} {f : AirUnit → AirUnit} (running : s.node.state = .running)
    (ends : ((s.accept l level).mapAir f).sourceChanged.finish s = t) :
    t.air = { f s.air with cls := classOf s.params t.air (s.reading .cabTemp), freshTarget := t.air.freshTarget } ∧
    s.freshSettled t ∧ t.input = (s.accept l level).input ∧ s.condsSameBut [.freshDamperStall] t ∧
    s.line.sameOutsideSlots t.line ∧ s.sameExcept [.air, .input, .drive, .cond, .line] t := by
  obtain ⟨air, fresh, conds, same, blocks⟩ := State.mapAir_sourceChanged_finish (s := s.accept l level) s
    (by rw [State.accept_node, running]; decide) ends
  exact ⟨air, State.freshSettled_congr fresh rfl rfl rfl rfl rfl rfl rfl, State.input_of_sameExcept blocks (by decide), conds, same,
    State.sameExcept_trans (by simp [State.sameExcept]) blocks (by simp)⟩

/-- Settles O41, by whether the door's event is the one that begins or ends a boost. -/
theorem doorsBoost : Obligations.DoorsBoost := by
  refine ⟨fun d s accepts => ?_, fun d s accepts => ?_, fun p a cab => rfl⟩
  · refine ⟨_, by rw [exec, execDoorCloseEvent, State.onSlowEvent, if_pos accepts], ?_⟩
    split
    next begins =>
      obtain ⟨running, source, last⟩ := begins
      obtain ⟨fitted, closed⟩ := (s.lastDoor_iff d).2 last
      rw [State.doorCloses, if_pos ⟨running, fitted, source, closed⟩]
      exact State.door_finish running rfl
    next other =>
      rw [State.doorCloses, if_neg fun ⟨running, fitted, source, closed⟩ =>
        other ⟨running, source, (s.lastDoor_iff d).1 ⟨fitted, closed⟩⟩]
      exact s.accept_finish _ _
  · refine ⟨_, by rw [exec, execDoorOpenEvent, State.onSlowEvent, if_pos accepts], ?_⟩
    split
    next ends =>
      obtain ⟨running, source, fitted⟩ := ends
      rw [State.doorOpens, if_pos ⟨running, (Params.doorFitted_iff d s.params).2 fitted, source⟩]
      exact State.door_finish running rfl
    next other =>
      rw [State.doorOpens, if_neg fun ⟨running, fitted, source⟩ =>
        other ⟨running, source, (Params.doorFitted_iff d s.params).1 fitted⟩]
      exact s.accept_finish _ _

end Sys2Proof.Machine
end

section
/-! The leaving of Running, and Parking entered from Running or SupplyLow (R49, R65, R67, R81, R84, R101, R129, R140, R146, R158,
R159). -/

namespace Sys2Proof.Machine

/-! ### Every output off -/

/-- Outside Running no output is driven (R100, R129). -/
theorem State.OutputsSound.allOff {s : State} (h : s.OutputsSound) (away : s.node.state ≠ .running) : s.drive.allOff := by
  obtain ⟨-, -, clutchOff, dutyOff, stagesOff⟩ := h.rests away
  have duty : s.drive.duty = 0 := Nat.le_zero.1 (dutyOff ▸ h.drive.follow.duty)
  have stages : s.drive.stages = 0 := Nat.le_zero.1 (stagesOff ▸ h.drive.stages.within)
  have minDuty : 0 < s.params.minDuty := by
    obtain ⟨-, ⟨-, -, -, -, -, ⟨least, -⟩, -⟩, -⟩ := h.params
    omega
  refine ⟨duty, stages, ?_, ?_, ?_, clutchOff, dutyOff, stagesOff⟩
  · refine Bool.eq_false_iff.2 fun drives => ?_
    have least := h.drive.stand.blower.on drives
    omega
  · refine Bool.eq_false_iff.2 fun drives => ?_
    have running := ((OutputChannel.driving_iff _).1 drives).resolve_left h.drive.stand.heater.steady
    have on := h.drive.stand.heater.on.2 running
    omega
  · refine Bool.eq_false_iff.2 fun drives => ?_
    have running := ((OutputChannel.driving_iff _).1 drives).resolve_left h.drive.stand.clutch.steady
    exact Bool.false_ne_true (clutchOff.symm.trans (h.drive.follow.clutch running))

/-! ### What a leaving of Running does before its plan -/

/-- The Air Unit at a leaving of Running (R67, R84, R101, R146). -/
def AirUnit.leave (a : AirUnit) : AirUnit := { a.lapse.leaveSource.clearWants with timer := .stopped }

theorem AirUnit.leave_eq {a : AirUnit} (h : a.SourceSound) : a.leave =
    { a with
      timer := .stopped, overrides := Overrides.none, overrideTimer := .stopped, source := a.sourceLeft
      boost := a.leave.boost, purge := a.leave.purge, leadSet := [], ownClear := 0, clearingHold := 0, heaterWant := 0
      changeTimer := none, riseTimer := none, level := 0, wantedDuty := 0, cooling := false, actingHolder := false
      clutchWant := false, clutchCall := false, request := 0 } := by
  have unled := h.unled
  unfold AirUnit.leave AirUnit.leaveSource AirUnit.sourceLeft
  split <;> simp_all [AirUnit.lapse, AirUnit.clearWants]

/-- At a leaving of Running a boost and a purge have ended (R84). -/
theorem AirUnit.leave_untimed {a : AirUnit} (h : a.SourceSound) :
    a.leave.boost.isRunning = false ∧ a.leave.purge.isRunning = false := by
  obtain ⟨source, unboosted, unpurged⟩ := (h.congr (b := a.lapse) rfl).leaveSource
  exact ⟨Bool.eq_false_iff.2 fun runs => unboosted (source.boost.1 runs),
    Bool.eq_false_iff.2 fun runs => unpurged (source.purge.1 runs)⟩

/-- The blocks at a leaving of Running before the plan of the event is made. -/
def State.ceaseRunning (dest : NodeState) (s : State) : State :=
  ((((s.mapNode fun n => { n with state := dest }).mapShare ShareUnit.leave).mapAir AirUnit.leave).lower .holderConflict).lower
    .coolingUnavailable

theorem State.leaveRunning_eq (dest : NodeState) (s : State) : s.leaveRunning dest =
    ((s.ceaseRunning dest).handPlan ((s.ceaseRunning dest).leavingPlan dest)).composeClass.settleFresh := rfl

theorem State.ceaseRunning_frame (dest : NodeState) (s : State) :
    (s.ceaseRunning dest).params = s.params ∧ (s.ceaseRunning dest).node = { s.node with state := dest } ∧
    (s.ceaseRunning dest).share = s.share.leave ∧ (s.ceaseRunning dest).air = s.air.leave ∧
    (s.ceaseRunning dest).input = s.input ∧ (s.ceaseRunning dest).drive = s.drive := by
  simp [State.ceaseRunning]

theorem State.ceaseRunning_active (dest : NodeState) (s : State) (d : Condition) : inSet (s.ceaseRunning dest).cond.active d =
    (inSet s.cond.active d && !decide (d = .holderConflict) && !decide (d = .coolingUnavailable)) := by
  simp [State.ceaseRunning]

/-- What a plan does at the channels rests on the Drive Unit, the configuration, the over-current lines and the conditions of the
drives. -/
theorem State.channelsTook_before {s v t : State} (h : v.channelsTook t) (drive : v.drive = s.drive) (params : v.params = s.params)
    (input : v.input = s.input) (active : ∀ d : Condition, d.ofDrive = true → inSet v.cond.active d = inSet s.cond.active d) :
    s.channelsTook t := by
  simpa only [State.channelsTook, State.blowerTook, State.heaterTook, State.clutchTook, State.blowerMeetsFault,
    State.heaterMeetsFault, State.clutchMeetsFault, State.stagesPermitted, State.overCurrent_congr input, drive, params,
    active .blowerTrip rfl, active .blowerStall rfl, active .heaterTrip rfl, active .clutchTrip rfl, active .channelLocked rfl]
    using h

/-! ### What it leaves -/

/-- The class rests on the Defrost flag, the source and the target of the Air Unit. -/
theorem classOf_congr {p : Params} {a b : AirUnit} {cab : Option Int}
    (h : (b.defrost, b.source, b.target) = (a.defrost, a.source, a.target)) : classOf p b cab = classOf p a cab := by
  obtain ⟨defrost, rest⟩ := Prod.mk.inj h
  obtain ⟨source, target⟩ := Prod.mk.inj rest
  simp only [classOf, defrost, source, target]

/-- A leaving of Running for SupplyLow or Parking, block by block, and the hold its plan puts on the dampers (R65, R84, R101, R129,
R140, R146). -/
theorem State.leaveRunning_left {s : State} {dest : NodeState} (source : s.air.SourceSound) (outputs : s.OutputsSound)
    (goes : dest = .supplyLow ∨ dest = .parking) : s.leftRunning (s.leaveRunning dest) ∧
    (s.leaveRunning dest).drive.plan.held = (decide (dest = .supplyLow) || decide (0 < s.params.baseLoad)) := by
  have off := (outputs.leaveRunning dest).allOff (by
    rw [State.leaveRunning_node]
    rcases goes with rfl | rfl <;> exact fun h => nomatch h)
  have line := s.leaveRunning_unmarked dest
  have blocks : s.sameExcept [.node, .share, .air, .line, .drive, .cond, .input] (s.leaveRunning dest) := by
    simp [State.sameExcept]
  rw [State.leaveRunning_eq] at *
  obtain ⟨params, node, share, air, input, drive⟩ := s.ceaseRunning_frame dest
  have active := s.ceaseRunning_active dest
  generalize s.ceaseRunning dest = v at *
  obtain ⟨⟨channels, dampers⟩, plan⟩ := v.handPlan_took (v.leavingPlan dest)
  obtain ⟨reported, handedAir⟩ := v.handPlan_reported (v.leavingPlan dest)
  obtain ⟨handedParams, handedNode, -, -, handedShare, handedInput, -⟩ := v.handPlan_frame (v.leavingPlan dest)
  have others (d : Condition) (h : d.ofDrive = false) := v.handPlan_active_of_other (v.leavingPlan dest) h
  generalize v.handPlan (v.leavingPlan dest) = w at *
  obtain ⟨⟨-, settledDrive, fresh, freshStall⟩, ⟨-, conds⟩, settledAir⟩ := w.composeClass.settleFresh_settled
  obtain ⟨-, settledNode, -, -, settledShare, -⟩ := w.composeClass.settleFresh_frame
  generalize w.composeClass.settleFresh = t at *
  have driven {d : Condition} (h : d.ofDrive = true) : inSet v.cond.active d = inSet s.cond.active d := by
    rw [active]
    simp [(Condition.ne_of_ofDrive (d := .holderConflict) rfl h).symm, (Condition.ne_of_ofDrive (d := .coolingUnavailable) rfl h).symm]
  have asleep : v.asleep = false ∧ t.asleep = false := by
    have awake : v.node.state ≠ .sleep := by rw [node]; rcases goes with rfl | rfl <;> exact fun h => nomatch h
    have state : t.node = v.node := settledNode.trans handedNode
    simpa [State.asleep, state] using awake
  have plan' : t.drive.plan = w.drive.plan := by rw [settledDrive]; rfl
  have clutch : t.drive.clutch = w.drive.clutch := by rw [settledDrive]; rfl
  have blend : t.drive.blend = w.drive.blend := by rw [settledDrive]; rfl
  have shortCycle : t.air.minOn = w.air.minOn ∧ t.air.minOff = w.air.minOff := by rw [settledAir]; exact ⟨rfl, rfl⟩
  have cls : t.air.cls = classOf s.params t.air (s.reading .cabTemp) := by
    have composed : t.air.cls = classOf w.params w.air (w.reading .cabTemp) := by rw [settledAir]; rfl
    rw [composed, handedParams, params, State.reading, handedInput, input]
    exact classOf_congr (by rw [settledAir]; rfl)
  have left : t.air = { s.air.leave with
      minOn := t.air.minOn, minOff := t.air.minOff, cls := t.air.cls, freshTarget := t.air.freshTarget } := by
    rw [settledAir, ← air]
    change ({ w.air with cls := _, freshTarget := _ } : AirUnit) = _
    rw [handedAir]
    rfl
  refine ⟨⟨?_, ?_, ?_, ?_, cls, off, ?_, ?_, ?_, ?_, ⟨w.drive.fresh, ?_, ?_, ?_⟩, ?_, ?_,
    LineInterface.sameOutsideSlots_of_unmarked line, blocks⟩, ?_⟩
  · rw [settledShare]; exact handedShare.trans share
  · have boost : t.air.boost = s.air.leave.boost := by rw [left]
    have purge : t.air.purge = s.air.leave.purge := by rw [left]
    rw [boost, purge]
    refine left.trans ?_
    rw [AirUnit.leave_eq source]
  · rw [left]; exact (AirUnit.leave_untimed source).1
  · rw [left]; exact (AirUnit.leave_untimed source).2
  · have kept : v.air.minOn = s.air.minOn ∧ v.air.minOff = s.air.minOff := by
      rw [air, AirUnit.leave_eq source]
      exact ⟨rfl, rfl⟩
    have before : v.clutchDriven = s.clutchDriven := by rw [State.clutchDriven, drive]; rfl
    have after : t.clutchDriven = w.clutchDriven := by rw [State.clutchDriven, clutch]; rfl
    simpa only [State.clutchReported, before, after, kept, shortCycle] using reported
  · have took := State.channelsTook_before channels drive params input fun d h => driven h
    exact State.channelsTook_congr took (by rw [settledDrive]; rfl) fun d other => conds d (by simpa [Damper.stallCondition] using other .fresh)
  · have taken := (dampers .blend).1
    rw [asleep.1, drive, ← plan'] at taken
    exact blend ▸ taken
  · have stall := (dampers .blend).2
    rw [drive, ← plan'] at stall
    rw [conds .blendDamperStall (by decide)]
    exact stall.trans (by rw [driven (d := Damper.blend.stallCondition) rfl]; rfl)
  · have taken := (dampers .fresh).1
    rw [asleep.1, drive, ← plan'] at taken
    exact taken
  · rw [asleep.2] at fresh
    rw [plan', ← params, ← handedParams]
    exact fresh
  · have stall := (dampers .fresh).2
    rw [drive, ← plan'] at stall
    rw [← params, ← handedParams]
    refine freshStall.trans (congrArg (· && _) (stall.trans ?_))
    rw [driven (d := Damper.fresh.stallCondition) rfl]
    rfl
  · rw [conds .holderConflict (by decide)]
    exact (others .holderConflict rfl).trans (by simp [active])
  · rw [conds .coolingUnavailable (by decide)]
    exact (others .coolingUnavailable rfl).trans (by simp [active])
  · rw [plan', plan, State.leavingPlan, params]

/-- A leaving of Running as the end of its event leaves it. -/
theorem State.leftRunning_congr {s u t : State} (h : s.leftRunning u) (same : u.line.sameOutsideSlots t.line)
    (blocks : u.sameExcept [.node, .line] t) : s.leftRunning t := by
  obtain ⟨share', air', boost, purge, cls, off, reported, channels, blend, blendStall, fresh, conflict, unavailable, line, others⟩ := h
  have whole := State.sameExcept_trans others blocks (by simp)
  simp only [State.sameExcept, List.mem_cons, List.not_mem_nil, reduceCtorEq, false_or, or_false, true_or, or_true, true_and]
    at blocks
  obtain ⟨-, -, -, share, air, -, drive, cond, -⟩ := blocks
  have reported' : s.clutchReported t := State.clutchReported_congr (t' := u) reported rfl rfl (by rw [drive]) air.symm
  have channels' : s.channelsTook t := State.channelsTook_congr channels (by rw [drive]) fun d _ => by rw [cond]
  rw [← share] at share'
  rw [← air] at air' boost purge cls fresh
  rw [← drive] at off blend blendStall fresh
  rw [← cond] at blendStall fresh conflict unavailable
  exact ⟨share', air', boost, purge, cls, off, reported', channels', blend, blendStall, fresh, conflict, unavailable,
    LineInterface.sameOutsideSlots_trans line same, whole⟩

/-! ### Parking (R158, R159) -/

/-- A leaving Demand handed waits through the end of the event (R8, R159). -/
theorem State.handDemand_leavingWaits {z : State} (c : Demand) (leaving : z.node.leaving = true)
    (hearing : z.line.listenOnly = false) : (z.handDemand.settleDemand c).settleStatus.line.leavingWaits := by
  have content : (demandContent z).leaving = true ∧ (demandContent z).take = 0 ∧ (demandContent z).request = 0 := by
    simp [demandContent, leaving]
  have slot : (z.handDemand.settleDemand c).settleStatus.line.demandSlot = some (demandContent z) := by
    rw [State.settleStatus_demandSlot]
    rcases z.handDemand.settleDemand_cases c with ⟨again, -⟩ | ⟨still, -⟩
    · simp [again, State.handDemand_line, hearing]
    · simp [still, State.handDemand_line, hearing]
  rw [LineInterface.leavingWaits, slot]
  exact content

/-- The test of Parking at the entry: where the fresh actuator rests the leaving Demand is handed and the leaving timer starts
(R159). -/
theorem State.finish_entersParking {u s t : State} (parking : u.node.state = .parking) (waits : u.node.leaving = false)
    (entered : s.node.state ≠ .parking) (hearing : u.line.listenOnly = false) (ends : u.finish s = t) :
    t.node =
      { u.node with leaving := u.freshRests, leavingTimer := if u.freshRests then .running 0 else u.node.leavingTimer } ∧
    (u.freshRests = true → t.line.leavingWaits) ∧ u.line.sameOutsideSlots t.line ∧ u.sameExcept [.node, .line] t := by
  subst ends
  by_cases rests : u.freshRests = true
  · have begun : u.settleParking s = u.beginLeaving := by simp [State.settleParking, parking, waits, rests, entered]
    let z := u.mapNode fun n => { n with leaving := true, leavingTimer := .running 0 }
    have handed : u.beginLeaving = z.handDemand := by
      unfold State.beginLeaving
      exact if_neg (by simp [hearing])
    have node : z.node = { u.node with leaving := true, leavingTimer := .running 0 } := rfl
    have blocks : u.sameExcept [.node, .line] z := by simp [z, State.sameExcept]
    have slot := State.handDemand_leavingWaits (z := z) (demandContent s) rfl hearing
    have same : u.line.sameOutsideSlots z.handDemand.line := z.handDemand_same
    rw [State.finish, begun, handed, rests]
    clear_value z
    refine ⟨?_, fun _ => slot, LineInterface.sameOutsideSlots_trans same
      (LineInterface.sameOutsideSlots_trans (State.settleDemand_same _ _) (State.settleStatus_same _)),
      State.sameExcept_trans blocks (cs := [.line]) (by simp [State.sameExcept]) (by simp)⟩
    simp [node]
  · have waited : u.settleParking s = u := by simp [State.settleParking, rests]
    rw [State.finish, waited]
    refine ⟨?_, fun h => absurd h rests, LineInterface.sameOutsideSlots_trans (State.settleDemand_same _ _) (State.settleStatus_same _),
      by simp [State.sameExcept]⟩
    have unchanged : u.node = { u.node with leaving := false } := by rw [← waits]
    simpa [rests] using unchanged

theorem State.enterParking_of_running {s : State} (running : s.node.state = .running) :
    s.enterParking = (s.leaveRunning .parking).mapNode NodeControl.startParking := if_pos running

theorem State.enterParking_of_not_running {s : State} (away : s.node.state ≠ .running) : s.enterParking =
    (((s.mapNode NodeControl.startParking).mapAir AirUnit.lapse).lower .supplyLow).settleFresh := if_neg away

theorem State.enterParking_node (s : State) : s.enterParking.node = s.node.startParking := by
  unfold State.enterParking
  split <;> simp [State.endSupplyLow, NodeControl.startParking]

theorem State.enterParking_unmarked (s : State) : s.enterParking.line.unmarked = s.line.unmarked := by
  unfold State.enterParking
  split <;> simp [State.endSupplyLow]

theorem State.freshRests_eq (s : State) : s.freshRests =
    decide (s.drive.fresh.state = .idle ∨ s.drive.fresh.state = .stalled ∨ s.drive.fresh.state = .failed) := by
  simp [State.freshRests, Bool.decide_or, Bool.or_assoc]

/-- The entry into Parking from Running (R84, R140, R158). -/
theorem State.enterParking_from_running {s : State} (inv : s.Inv) (running : s.node.state = .running) :
    s.leftRunning s.enterParking ∧ s.enterParking.drive.plan.held = decide (0 < s.params.baseLoad) ∧
    s.enterParking.air.freshTarget = 0 := by
  obtain ⟨left, held⟩ := State.leaveRunning_left inv.airSound.air.source inv.outputsSound (dest := .parking) (.inr rfl)
  have target : (s.leaveRunning .parking).air.freshTarget = 0 := by
    have parking : (s.leaveRunning .parking).node.state = .parking := by rw [State.leaveRunning_node]
    rw [State.leaveRunning_eq] at parking ⊢
    exact (State.settleFresh_settled _).1.1.trans (if_pos parking)
  rw [State.enterParking_of_running running]
  exact ⟨State.leftRunning_congr left (LineInterface.sameOutsideSlots_refl _) (by simp [State.sameExcept]), by simpa using held,
    target⟩

/-- The entry into Parking from SupplyLow, block by block (R81, R146, R158). -/
theorem State.enterParking_from_supplyLow {s : State} (away : s.node.state ≠ .running) (laws : s.overrideLaws) :
    inSet s.enterParking.cond.active .supplyLow = false ∧ s.freshSettled s.enterParking ∧
    s.enterParking.air = { s.air with freshTarget := 0 } ∧
    s.condsSameBut [.supplyLow, .freshDamperStall] s.enterParking ∧ s.line.sameOutsideSlots s.enterParking.line ∧
    s.sameExcept [.node, .air, .line, .drive, .cond] s.enterParking := by
  obtain ⟨overrides, timer⟩ := laws.2 away
  have lapsed : s.air.lapse = s.air := by rw [AirUnit.lapse, ← overrides, ← timer]
  have unlapsed : (s.mapNode NodeControl.startParking).mapAir AirUnit.lapse = s.mapNode NodeControl.startParking := by
    rw [State.mapAir, State.mapNode_air, lapsed]
    rfl
  let u := (s.mapNode NodeControl.startParking).lower .supplyLow
  have entered : s.enterParking = u.settleFresh := by rw [State.enterParking_of_not_running away, unlapsed]
  have blocks : s.sameExcept [.node, .air, .line, .drive, .cond] u.settleFresh := by simp [State.sameExcept, u]
  have line : s.line.sameOutsideSlots u.settleFresh.line := LineInterface.sameOutsideSlots_of_unmarked (by simp [u])
  have parking : u.settleFresh.node.state = .parking := by rw [u.settleFresh_frame.2.1]; simp [u, NodeControl.startParking]
  obtain ⟨settled, ⟨rest, conds⟩, air⟩ := u.settleFresh_settled
  have low : u.cond = { s.cond with active := u.cond.active } := by
    rw [State.lower_cond, State.mapNode_cond]
    by_cases held : inSet s.cond.active .supplyLow = true <;> simp [held]
  have active (d : Condition) : inSet u.cond.active d = (inSet s.cond.active d && !decide (d = .supplyLow)) := by simp [u]
  have target : u.settleFresh.air.freshTarget = 0 := settled.1.trans (if_pos parking)
  rw [entered]
  refine ⟨?_, State.freshSettled_congr settled (by simp [u]) (by simp [u]) (by simp [active]) rfl rfl rfl rfl, ?_,
    ⟨?_, fun d other => ?_⟩, line, blocks⟩
  · rw [conds .supplyLow (by decide)]
    simp [active]
  · rw [air, target]
    simp [u]
  · rw [rest, low]
  · simp only [List.mem_cons, List.not_mem_nil, or_false, not_or] at other
    rw [conds d (by simpa using other.2)]
    simp [active, other.1]

theorem State.share_of_sameExcept {bs : List Block} {s t : State} (h : s.sameExcept bs t) (other : Block.share ∉ bs) :
    t.share = s.share := by
  obtain ⟨-, -, -, -, -, share, -⟩ := h
  exact share.resolve_left other

/-- Parking begins without a take, without overrides and with the fresh damper to be closed (R81, R146, R158). -/
theorem State.enterParking_spent {s : State} (inv : s.Inv) (found : s.node.state = .running ∨ s.node.state = .supplyLow) :
    s.enterParking.air.freshTarget = 0 ∧ s.enterParking.air.overrides = Overrides.none ∧
    s.enterParking.air.overrideTimer = .stopped ∧ s.enterParking.share.applied = 0 ∧ s.enterParking.share.announced = 0 ∧
    s.enterParking.share.grant = 0 := by
  rcases found with running | low
  · obtain ⟨⟨share, air, -⟩, -, target⟩ := State.enterParking_from_running inv running
    exact ⟨target, by rw [air], by rw [air], by rw [share], by rw [share], by rw [share]⟩
  · have away : s.node.state ≠ .running := by rw [low]; decide
    obtain ⟨-, -, air, -, -, blocks⟩ := State.enterParking_from_supplyLow away inv.override
    have share := State.share_of_sameExcept blocks (by decide)
    obtain ⟨overrides, timer⟩ := inv.override.2 away
    obtain ⟨-, -, -, -, -, -, -, -, untaken⟩ := inv.take
    obtain ⟨grant, applied, announced, -⟩ := untaken away
    rw [air, share]
    exact ⟨rfl, overrides, timer, applied, announced, grant⟩

/-- Settles O10: the entry into Parking from each of the two states, and the test of Parking at the end of the event. -/
theorem sleepDelayParks : Obligations.SleepDelayParks := by
  intro s inv runs hearing found
  have entry : s.enterParking.node = s.node.startParking := s.enterParking_node
  have line := LineInterface.sameOutsideSlots_of_unmarked s.enterParking_unmarked
  have sound := inv.outputsSound.enterParking
  have fromRunning := State.enterParking_from_running inv
  have fromSupplyLow (low : s.node.state = .supplyLow) := State.enterParking_from_supplyLow (by rw [low]; decide) inv.override
  have spent := State.enterParking_spent inv found
  refine ⟨s.enterParking.finish s, congrArg Host.Outcome.next (if_pos ⟨runs, found⟩), ?_⟩
  generalize s.enterParking = u at *
  obtain ⟨node, slot, same, blocks⟩ := State.finish_entersParking (u := u) (s := s) (by rw [entry]; rfl) (by rw [entry]; rfl)
    (by rcases found with h | h <;> rw [h] <;> decide) ((LineInterface.listenOnly_of_same line).trans hearing) rfl
  generalize u.finish s = t at *
  have left (running : s.node.state = .running) := State.leftRunning_congr (fromRunning running).1 same blocks
  have whole (low : s.node.state = .supplyLow) : s.sameExcept [.node, .air, .line, .drive, .cond] t := by
    obtain ⟨-, -, -, -, -, before⟩ := fromSupplyLow low
    exact State.sameExcept_trans before blocks (by simp)
  simp only [State.sameExcept, List.mem_cons, List.not_mem_nil, reduceCtorEq, false_or, or_false, true_or, or_true, true_and]
    at blocks
  obtain ⟨-, -, -, share, air, -, drive, cond, -⟩ := blocks
  rw [u.freshRests_eq, ← drive] at node slot
  obtain ⟨target, overrides, timer, applied, announced, grant⟩ := spent
  rw [← air] at target overrides timer
  rw [← share] at applied announced grant
  have off : t.drive.allOff := by
    rw [drive]
    exact sound.allOff (by rw [entry]; exact fun h => nomatch h)
  refine ⟨⟨by rw [node, entry]; rfl, slot⟩, target, overrides, timer, applied, announced, grant, off, fun running => ?_, fun low => ?_⟩
  · exact ⟨left running, by rw [drive]; exact (fromRunning running).2.1⟩
  · obtain ⟨ended, fresh, airLow, conds, sameLow, blocksLow⟩ := fromSupplyLow low
    have state : t.node.state = u.node.state := by rw [node]
    exact ⟨by rw [cond]; exact ended, State.freshSettled_congr fresh rfl rfl rfl state air drive cond, (share.trans (State.share_of_sameExcept blocksLow (by decide))).symm,
      air.trans airLow, by rw [State.condsSameBut, cond]; exact conds, LineInterface.sameOutsideSlots_trans sameLow same, whole low⟩

end Sys2Proof.Machine
end

section
/-! The split of the take step by step, and the wanted duty of a blower level (R92, R98, R99, Table 6-1). -/

namespace Sys2Proof.Machine

/-! ### The stages taken one at a time -/

theorem takeStages_le (current : Nat) : ∀ want budget : Nat, (takeStages current want budget).1 ≤ want
  | 0, _ => Nat.le_refl 0
  | want + 1, budget => by
    unfold takeStages
    split
    · exact Nat.succ_le_succ (takeStages_le current want _)
    · exact Nat.zero_le _

/-- Where fewer stages are taken than wanted, what is left covers no further one (R98 step 4). -/
theorem takeStages_left_lt (current : Nat) : ∀ want budget : Nat, (takeStages current want budget).1 < want →
    (takeStages current want budget).2 < current
  | 0, _ => fun fewer => absurd fewer (Nat.not_lt_zero _)
  | want + 1, budget => by
    unfold takeStages
    split
    · exact fun fewer => takeStages_left_lt current want _ (Nat.lt_of_succ_lt_succ fewer)
    next uncovered => exact fun _ => Nat.lt_of_not_le uncovered

/-! ### What each step of the split leaves to the next -/

/-- What the base load leaves of the take (R98 step 1). -/
def leftByBase (p : Params) (take : Nat) (w : Wants) : Nat := if (split p take w).held then take else take - p.baseLoad

/-- What the clutch leaves of that (R98 step 2). -/
def leftByClutch (p : Params) (take : Nat) (w : Wants) : Nat :=
  if (split p take w).clutch then leftByBase p take w - p.clutchCurrent else leftByBase p take w

/-- The blower is served: a duty is wanted, and what is left covers the current at MinDuty (R98 step 3). -/
def servesBlower (p : Params) (take : Nat) (w : Wants) : Prop :=
  0 < w.duty ∧ blowerCurrent p p.minDuty ≤ leftByClutch p take w

section
variable (p : Params) (take : Nat) (w : Wants)

theorem split_held : (split p take w).held = !(w.baseCounted && decide (p.baseLoad ≤ take)) := by
  unfold split
  extract_lets
  split <;> rfl

theorem leftByBase_eq :
    leftByBase p take w = if w.baseCounted && decide (p.baseLoad ≤ take) then take - p.baseLoad else take := by
  rw [leftByBase, split_held]
  cases w.baseCounted && decide (p.baseLoad ≤ take) <;> rfl

theorem leftByBase_le : leftByBase p take w ≤ take := by
  rw [leftByBase_eq]
  split
  · exact Nat.sub_le _ _
  · exact Nat.le_refl _

theorem split_clutch : (split p take w).clutch = (w.clutchCall && decide (p.clutchCurrent ≤ leftByBase p take w)) := by
  rw [leftByBase_eq]
  unfold split
  extract_lets
  split <;> rfl

/-- The blower and the stages are the last steps of the split, and stand or fall together (R98 steps 3 to 5). -/
theorem split_eq : split p take w =
    let stages := takeStages p.stageCurrent w.stages (leftByClutch p take w - blowerCurrent p p.minDuty)
    if 0 < w.duty ∧ blowerCurrent p p.minDuty ≤ leftByClutch p take w then
      { held := (split p take w).held, clutch := (split p take w).clutch
        duty := min w.duty (100 * (blowerCurrent p p.minDuty + stages.2) / p.blowerFull), stages := stages.1 }
    else { held := (split p take w).held, clutch := (split p take w).clutch, duty := 0, stages := 0 } := by
  rw [leftByClutch, split_held, split_clutch, leftByBase_eq]
  rfl
end

section
variable {p : Params} {take : Nat} {w : Wants}

theorem split_of_unserved (h : ¬ servesBlower p take w) : (split p take w).duty = 0 ∧ (split p take w).stages = 0 := by
  rw [split_eq]
  exact ⟨congrArg Plan.duty (if_neg h), congrArg Plan.stages (if_neg h)⟩

theorem split_stages_of_served (h : servesBlower p take w) : (split p take w).stages =
    (takeStages p.stageCurrent w.stages (leftByClutch p take w - blowerCurrent p p.minDuty)).1 := by
  rw [split_eq]
  exact congrArg Plan.stages (if_pos h)

/-- The duty is the most that is wanted and that what the stages leave covers (R98 step 5). -/
theorem split_duty_of_served (h : servesBlower p take w) : (split p take w).duty =
    min w.duty (100 * (leftByClutch p take w - (split p take w).stages * p.stageCurrent) / p.blowerFull) := by
  have budget := takeStages_budget p.stageCurrent w.stages (leftByClutch p take w - blowerCurrent p p.minDuty)
  rw [← split_stages_of_served h] at budget
  have least := h.2
  have left : blowerCurrent p p.minDuty +
        (takeStages p.stageCurrent w.stages (leftByClutch p take w - blowerCurrent p p.minDuty)).2 =
      leftByClutch p take w - (split p take w).stages * p.stageCurrent := by omega
  rw [← left, split_eq]
  exact congrArg Plan.duty (if_pos h)

/-- The current at MinDuty is kept from the stages (R98 step 4). -/
theorem split_stages_covered (h : servesBlower p take w) :
    (split p take w).stages * p.stageCurrent ≤ leftByClutch p take w - blowerCurrent p p.minDuty := by
  have budget := takeStages_budget p.stageCurrent w.stages (leftByClutch p take w - blowerCurrent p p.minDuty)
  rw [split_stages_of_served h]
  omega

/-- A served blower runs at MinDuty or above (R98). -/
theorem split_duty_of_served_pos (range : p.inRange) (h : servesBlower p take w) (wanted : p.minDuty ≤ w.duty) :
    p.minDuty ≤ (split p take w).duty ∧ 0 < (split p take w).duty := by
  obtain ⟨-, ⟨-, -, -, -, ⟨full, -⟩, ⟨least, -⟩, -⟩, -⟩ := range
  have paid : p.blowerFull * p.minDuty ≤ 100 * blowerCurrent p p.minDuty := ceilDiv_hundred_le.1 le_rfl
  have covered : p.minDuty ≤ (split p take w).duty := by
    have kept := split_stages_covered h
    have afforded := h.2
    rw [split_duty_of_served h]
    refine Nat.le_min.2 ⟨wanted, (Nat.le_div_iff_mul_le (by omega)).2 ?_⟩
    rw [Nat.mul_comm]
    omega
  exact ⟨covered, by omega⟩

theorem split_duty_pos_iff (range : p.inRange) (wanted : w.duty = 0 ∨ p.minDuty ≤ w.duty) :
    0 < (split p take w).duty ↔ servesBlower p take w := by
  refine ⟨fun pos => ?_, fun served => (split_duty_of_served_pos range served (wanted.resolve_left served.1.ne')).2⟩
  by_contra unserved
  exact pos.ne' (split_of_unserved unserved).1

end

/-! ### The statements -/

/-- Settles O38: the estimated current by `split_current_le`, the rest by whether the blower is served. -/
theorem splitWithinTake : Obligations.SplitWithinTake := by
  intro p take w range wanted
  have clutch : (split p take w).clutch = true → w.clutchCall = true ∧ p.clutchCurrent ≤ take := fun on => by
    rw [split_clutch, Bool.and_eq_true, decide_eq_true_eq] at on
    exact ⟨on.1, on.2.trans (leftByBase_le p take w)⟩
  have held : (split p take w).held = false ↔ w.baseCounted = true ∧ p.baseLoad ≤ take := by
    rw [split_held]
    simp
  by_cases served : servesBlower p take w
  · obtain ⟨least, pos⟩ := split_duty_of_served_pos range served (wanted.resolve_left served.1.ne').1
    have within : (split p take w).duty ≤ w.duty := by
      rw [split_duty_of_served served]
      exact Nat.min_le_left _ _
    have stages : (split p take w).stages ≤ w.stages := by
      rw [split_stages_of_served served]
      exact takeStages_le _ _ _
    exact ⟨split_current_le p take w, .inr ⟨least, within⟩, stages, fun none => absurd none pos.ne', clutch, held⟩
  · obtain ⟨duty, stages⟩ := split_of_unserved served
    exact ⟨split_current_le p take w, .inl duty, stages ▸ Nat.zero_le _, fun _ => stages, clutch, held⟩

/-- Settles O39: the clutch by what the base leaves, the blower by what the clutch leaves, and the stages taken until what is left
covers no further one. -/
theorem splitByRule : Obligations.SplitByRule := by
  intro p take w range wanted q b1 b2 m
  have serves : 0 < q.duty ↔ servesBlower p take w := split_duty_pos_iff range (wanted.imp_right And.left)
  refine ⟨?_, serves, fun pos => ?_⟩
  · change (split p take w).clutch = true ↔ w.clutchCall = true ∧ p.clutchCurrent ≤ leftByBase p take w
    rw [split_clutch, Bool.and_eq_true, decide_eq_true_eq]
  · have served := serves.1 pos
    have stages : q.stages = (takeStages p.stageCurrent w.stages (b2 - m)).1 := split_stages_of_served served
    have budget := takeStages_budget p.stageCurrent w.stages (b2 - m)
    have left := takeStages_left_lt p.stageCurrent w.stages (b2 - m)
    rw [← stages] at budget left
    refine ⟨split_stages_covered served, fun fewer => ?_, split_duty_of_served served⟩
    rw [Nat.succ_mul]
    have short := left fewer
    omega

/-- Settles O40: level 8 is the full duty, every level between stays within 0, MinDuty and 100, and the two columns of Table 6-1. -/
theorem dutyOfLevel : Obligations.DutyOfLevel := by
  have level (p : Params) {k : Nat} (on : 1 ≤ k) : dutyOf p k = p.minDuty + (100 - p.minDuty) * (k - 1) / 7 :=
    if_neg (by omega)
  refine ⟨fun _ => rfl, fun p _ on _ => level p on, fun p range => ?_, by decide, by decide⟩
  obtain ⟨-, ⟨-, -, -, -, -, ⟨-, most⟩, -⟩, -⟩ := range
  refine ⟨by simp [level], by rw [level p (by decide)]; omega, fun k upTo => ?_⟩
  by_cases off : k = 0
  · exact .inl (if_pos off)
  · have share : (100 - p.minDuty) * (k - 1) / 7 ≤ 100 - p.minDuty :=
      Nat.div_le_of_le_mul (by rw [Nat.mul_comm 7]; exact Nat.mul_le_mul_left _ (by omega))
    rw [level p (by omega)]
    exact .inr ⟨by omega, by omega⟩

end Sys2Proof.Machine
end

section
/-! The heater want and its timers at an air expiry (R89, R90, R145). -/

namespace Sys2Proof.Machine

/-! ### The heater step -/

/-- A timer that advances has reached the stage dwell when it stands there (R89). -/
theorem dwellReached_advance (p : Params) (x : Option Nat) :
    dwellReached p (dwellAdvance p x) = decide (dwellAdvance p x = some (1000 * p.stageDwell)) := by
  cases x with
  | none => simp [dwellReached, dwellAdvance, eq_comm]
  | some ms =>
    simp only [dwellReached, dwellAdvance, decide_eq_decide, Option.some.injEq]
    omega

/-- The heater want of an air expiry: the forced count, or by the source, the rise rule and the fall rule in turn (R89, R90, R145). -/
def heaterWantOf (p : Params) (e : Option Int) (found : Bool) (a : AirUnit) : Nat :=
  match a.overrides.stages with
  | some f => min f p.stagesFitted
  | none =>
    if a.source = .off then 0
    else if decide (a.heaterWant < p.stagesFitted) && riseCondition p a e && dwellReached p a.riseTimer then a.heaterWant + 1
    else if fallCondition found a e && dwellReached p a.changeTimer then a.heaterWant - 1
    else a.heaterWant

/-- Both heater timers restart: at a change of the want and, unforced, with the source Off (R89, R90; log entry 20). -/
def heaterRestarts (p : Params) (e : Option Int) (found : Bool) (a : AirUnit) : Bool :=
  decide (heaterWantOf p e found a ≠ a.heaterWant) || (a.overrides.stages.isNone && decide (a.source = .off))

section
variable (p : Params) (e : Option Int) (found : Bool) (a : AirUnit)

/-- The rise timer's own restart is nothing where both restart. -/
theorem AirUnit.wantChanged_unrisen (b : Bool) (w : Nat) :
    (if b then a else { a with riseTimer := some 0 }).wantChanged w = a.wantChanged w := by
  cases b <;> rfl

/-- The heater step restarts both timers at the new want, or keeps the want and restarts the rise timer alone where the rise condition
fails (R89, R90). -/
theorem heaterStep_eq : heaterStep p e found a =
    if heaterRestarts p e found a then a.wantChanged (heaterWantOf p e found a)
    else if riseCondition p a e then a else { a with riseTimer := some 0 } := by
  unfold heaterStep heaterRestarts heaterWantOf
  cases a.overrides.stages with
  | some f =>
    by_cases same : min f p.stagesFitted = a.heaterWant
    · simp [same]
    · simp [same, AirUnit.wantChanged_unrisen]
  | none =>
    by_cases off : a.source = .off
    · simp [off]
    by_cases rises : (decide (a.heaterWant < p.stagesFitted) && riseCondition p a e && dwellReached p a.riseTimer) = true
    · simp [off, rises]
    by_cases falls : (fallCondition found a e && dwellReached p a.changeTimer) = true
    · have some : a.heaterWant ≠ 0 := by
        intro none
        simp [fallCondition, none] at falls
      have changes : a.heaterWant - 1 ≠ a.heaterWant := by omega
      simp [off, rises, falls, AirUnit.wantChanged_unrisen, changes]
    · simp [off, rises, falls]

theorem heaterStep_heaterWant : (heaterStep p e found a).heaterWant = heaterWantOf p e found a := by
  rw [heaterStep_eq]
  cases restarts : heaterRestarts p e found a with
  | true => rfl
  | false =>
    have kept : heaterWantOf p e found a = a.heaterWant := by
      simp only [heaterRestarts, Bool.or_eq_false_iff, decide_eq_false_iff_not, not_not] at restarts
      exact restarts.1
    rw [kept]
    cases riseCondition p a e <;> rfl

theorem heaterStep_changeTimer : (heaterStep p e found a).changeTimer =
    if heaterRestarts p e found a then some 0 else a.changeTimer := by
  rw [heaterStep_eq]
  cases heaterRestarts p e found a <;> cases riseCondition p a e <;> rfl

theorem heaterStep_riseTimer : (heaterStep p e found a).riseTimer =
    if heaterRestarts p e found a || !riseCondition p a e then some 0 else a.riseTimer := by
  rw [heaterStep_eq]
  cases heaterRestarts p e found a <;> cases riseCondition p a e <;> rfl

end

/-! ### The heater step of an air expiry -/

/-- The heater want and its two timers. -/
def AirUnit.heaterPart (a : AirUnit) : Nat × Option Nat × Option Nat := (a.heaterWant, a.changeTimer, a.riseTimer)

/-- Two Air Units alike in all that a heater step reads (R89, R90, R145). -/
structure AirUnit.HeatsAs (a b : AirUnit) : Prop where
  part : b.heaterPart = a.heaterPart
  overrides : b.overrides = a.overrides
  source : b.source = a.source
  defrost : b.defrost = a.defrost
  blend : b.blend = a.blend

theorem AirUnit.HeatsAs.step {a b : AirUnit} (h : a.HeatsAs b) (p : Params) (e : Option Int) (found : Bool) :
    (heaterStep p e found b).heaterPart = (heaterStep p e found a).heaterPart := by
  obtain ⟨heaterWant, changeTimer, riseTimer⟩ :
      b.heaterWant = a.heaterWant ∧ b.changeTimer = a.changeTimer ∧ b.riseTimer = a.riseTimer := by
    simpa [AirUnit.heaterPart] using h.part
  have rise : riseCondition p b e = riseCondition p a e := by
    simp only [riseCondition, h.defrost, heaterWant, h.blend]
  have fall : fallCondition found b e = fallCondition found a e := by
    simp only [fallCondition, h.defrost, heaterWant, h.blend]
  have want : heaterWantOf p e found b = heaterWantOf p e found a := by
    simp only [heaterWantOf, h.overrides, h.source, heaterWant, changeTimer, riseTimer, rise, fall]
  have restarts : heaterRestarts p e found b = heaterRestarts p e found a := by
    simp only [heaterRestarts, want, h.overrides, h.source, heaterWant]
  simp only [AirUnit.heaterPart, heaterStep_heaterWant, heaterStep_changeTimer, heaterStep_riseTimer, want, restarts, rise,
    changeTimer, riseTimer]

/-- `b` with the heater want of `a` and its timers advanced: what the heater step of an air expiry that finds `a` works on, where `b` has
the results settled before it (R86, R89, R90). -/
def AirUnit.beforeHeater (p : Params) (a b : AirUnit) : AirUnit :=
  { b with
    heaterWant := a.heaterWant, changeTimer := dwellAdvance p a.changeTimer, riseTimer := dwellAdvance p a.riseTimer }

theorem AirUnit.beforeHeater_part {a a' : AirUnit} (h : a'.heaterPart = a.heaterPart) (p : Params) (b b' : AirUnit) :
    (a'.beforeHeater p b').heaterPart = (a.beforeHeater p b).heaterPart := by
  obtain ⟨heaterWant, changeTimer, riseTimer⟩ :
      a'.heaterWant = a.heaterWant ∧ a'.changeTimer = a.changeTimer ∧ a'.riseTimer = a.riseTimer := by
    simpa [AirUnit.heaterPart] using h
  simp only [AirUnit.heaterPart, AirUnit.beforeHeater, heaterWant, changeTimer, riseTimer]

/-- The discharge error of the discharge target `d` (R88). -/
def State.errorFrom (s : State) (d : Int) : Option Int := (s.reading .dischargeTemp).map fun x => d - x

theorem State.dischargeError_eq {s u : State} (reads : s.ReadsAs u) : u.dischargeError = s.errorFrom u.air.dischargeTarget := by
  rw [State.dischargeError, State.errorFrom, reads.reading]
  cases s.reading .dischargeTemp <;> rfl

/-- The steps after the heater want leave it and its timers (R86). -/
theorem State.airWants_heaterPart (found : Bool) (w : State) : (w.airWants found).air.heaterPart =
    (w.settleDischarge.settleBlend.settleHeaterWant found).air.heaterPart := by
  let v := (w.settleDischarge.settleBlend.settleHeaterWant found).settleBlower.settleCooling
  calc (w.airWants found).air.heaterPart
    _ = v.settleHolder.settleClutch.settleCoolingUnavailable.air.heaterPart := rfl
    _ = v.air.heaterPart := by rw [v.settleHolder_clutch.1]; rfl

theorem State.airWork_heaterPart {s : State} (running : s.node.state = .running) :
    let b := (s.airWork.finish s).air
    b.heaterPart = (heaterStep s.params (s.errorFrom b.dischargeTarget) s.air.defrost
      (s.air.beforeHeater s.params b)).heaterPart := by
  obtain ⟨reads, wAir, -⟩ := State.airStages_settled (s := s) rfl
  obtain ⟨air, -⟩ := State.airWork_finish running rfl
  rw [s.judged.sourceTests_leaves, s.judged_air] at wAir
  generalize (s.mapAir fun a => { a with timer := Timer.start }).airStages = w at *
  have settled := w.airWants_settled s.air.defrost
  have heated := w.airWants_heaterPart s.air.defrost
  have uAir := w.settleDischarge.settleBlend_air
  have uReads : s.ReadsAs w.settleDischarge.settleBlend :=
    reads.trans (.trans (t := w.settleDischarge) ⟨rfl, rfl, rfl, rfl⟩ (State.settleBlend_reads _))
  generalize w.settleDischarge.settleBlend = u at *
  generalize w.airWants s.air.defrost = z at *
  generalize s.airWork.finish s = t at *
  intro b
  have discharge : u.air.dischargeTarget = b.dischargeTarget := by
    simp only [b]
    rw [air, settled.dischargeTarget, settled.kept, uAir]; rfl
  have found : u.air.heaterPart = w.air.heaterPart := by rw [uAir]; rfl
  have wFound : w.air.heaterPart = s.air.heaterPart := by rw [wAir]; rfl
  have alike : (s.air.beforeHeater s.params b).HeatsAs (u.air.beforeHeater u.params u.air) := by
    constructor
    case part => exact uReads.params ▸ AirUnit.beforeHeater_part (found.trans wFound) _ _ _
    case blend => exact (congrArg AirUnit.blend uAir).trans (settled.blend.symm.trans (congrArg AirUnit.blend air).symm)
    all_goals
      simp only [AirUnit.beforeHeater, b]
      rw [air, settled.kept, uAir]
      rfl
  have part : b.heaterPart = z.air.heaterPart := by simp only [b]; rw [air]; rfl
  rw [part, heated, ← alike.step, ← discharge, ← State.dischargeError_eq uReads, ← uReads.params]
  rfl

/-- The heater want and its timers at the end of an air expiry (R89, R90, R145). -/
theorem State.airWork_heater {s : State} (running : s.node.state = .running) :
    let b := (s.airWork.finish s).air
    let e := s.errorFrom b.dischargeTarget
    let a := s.air.beforeHeater s.params b
    b.heaterWant = heaterWantOf s.params e s.air.defrost a ∧
    b.changeTimer =
      (if heaterRestarts s.params e s.air.defrost a then some 0 else dwellAdvance s.params s.air.changeTimer) ∧
    b.riseTimer =
      (if heaterRestarts s.params e s.air.defrost a || !riseCondition s.params a e then some 0
        else dwellAdvance s.params s.air.riseTimer) := by
  intro b e a
  have part := State.airWork_heaterPart running
  simp only [AirUnit.heaterPart, Prod.mk.injEq, heaterStep_heaterWant, heaterStep_changeTimer, heaterStep_riseTimer] at part
  exact part

end Sys2Proof.Machine
end

section
/-! The plan of an air expiry: what the stages before it leave of the drives, and what the channels and the actuators make of it (R67,
R81, R86, R88, R95, R98, R119, R131, R133). -/

namespace Sys2Proof.Machine

/-! ### A handed target and a handed plan -/

/-- An actuator has the target it was handed, in counts (R131). -/
theorem Actuator.handTarget_target (travel : Nat) (held asleep : Bool) (target : Nat) (a : Actuator) :
    (a.handTarget travel held asleep target).act.target = target * travel / 1000 := by
  have taken {b c : Actuator} (h : b.counts = c.counts) : b.target = c.target := congrArg Prod.snd h
  unfold Actuator.handTarget
  extract_lets c b
  split
  next same => exact same.symm
  next =>
    split
    · exact taken (b.startTest_counts _ _)
    · split
      · exact taken ((Actuator.completedMove_counts _ _ _).trans b.stopDrive_counts)
      · split
        · rfl
        · exact taken b.stopDrive_counts
    all_goals rfl

/-- A handed target can end its own actuator's stall condition, and no other (R138). -/
theorem State.handTarget_active (x : Damper) (v : Nat) (s : State) (d : Condition) :
    inSet (s.handTarget x v).cond.active d = (inSet s.cond.active d &&
      !(decide (d = x.stallCondition) && decide ((s.drive.actuator x).targetCompletes (s.params.travel x) v))) := by
  obtain ⟨⟨-, others⟩, stall⟩ := s.handTarget_conds x v
  by_cases own : d = x.stallCondition
  · rw [own, stall]; simp
  · rw [others d (by simpa using own)]; simp [own]

/-- Settling the fresh damper target can end that damper's stall condition, and no other (R81, R138). -/
theorem State.settleFresh_active (s : State) (d : Condition) :
    inSet s.settleFresh.cond.active d = (inSet s.cond.active d && !(decide (d = .freshDamperStall) &&
      decide (s.drive.fresh.targetCompletes s.params.freshTravel s.settleFresh.air.freshTarget))) := by
  rw [State.settleFresh_air]
  exact State.handTarget_active .fresh _ _ d

/-- What the channels make of a plan rests on the Drive Unit without the actuators, and on the conditions of the channels, as the plan
finds them. -/
theorem State.channelsTook_of_found {s s' t : State} (h : s'.channelsTook t) (params : s'.params = s.params)
    (input : s'.input = s.input) {f b : Actuator} (drive : s'.drive = { s.drive with fresh := f, blend := b })
    (conds : ∀ d, d.ofDrive = true → (∀ x : Damper, d ≠ x.stallCondition) →
      inSet s'.cond.active d = inSet s.cond.active d) : s.channelsTook t := by
  have away (d : Condition) (own : d.ofDrive = true) (other : d ≠ .freshDamperStall ∧ d ≠ .blendDamperStall) :=
    conds d own fun x => by cases x; exacts [other.1, other.2]
  simpa only [State.channelsTook, State.blowerTook, State.heaterTook, State.clutchTook, State.blowerMeetsFault,
    State.heaterMeetsFault, State.clutchMeetsFault, State.stagesPermitted, State.overCurrent_congr input, drive, params,
    away .blowerTrip rfl (by decide), away .blowerStall rfl (by decide), away .heaterTrip rfl (by decide),
    away .clutchTrip rfl (by decide), away .channelLocked rfl (by decide)] using h

/-! ### What the stages before the plan leave of the drives -/

/-- The smoke condition is no condition of a drive, so that the drives' conditions stand until the targets are handed. -/
theorem State.judged_active {d : Condition} (own : d.ofDrive = true) (s : State) :
    inSet s.judged.cond.active d = inSet s.cond.active d :=
  (State.setCond_active _ _ d _).trans (if_neg fun h => Condition.ne_of_ofDrive (c := d) rfl own h.symm)

/-- The stages up to the fresh damper target touch, of the drives' conditions, the fresh damper's stall alone (R81, R138). -/
theorem State.airStages_active {s w : State} (staged : (s.mapAir fun a => { a with timer := Timer.start }).airStages = w)
    {d : Condition} (own : d.ofDrive = true) : inSet w.cond.active d = (inSet s.cond.active d &&
      !(decide (d = .freshDamperStall) &&
        decide (s.drive.fresh.targetCompletes s.params.freshTravel w.air.freshTarget))) := by
  obtain ⟨reads, drive, -, cond⟩ := s.runSource_spec
  let u := s.judged.runSource.settleDefrost.composeClass
  have uDrive : u.drive = s.drive := drive
  have uParams : u.params = s.params := reads.params
  have uCond : u.cond = s.judged.cond := cond
  rw [← staged, s.airStages_eq, u.settleFresh_active, uDrive, uParams, uCond, s.judged_active own]

/-- The wants touch, of the drives' conditions, the blend damper's stall alone (R88, R138). -/
theorem State.airWants_active (found : Bool) (w : State) {d : Condition} (own : d.ofDrive = true) :
    inSet (w.airWants found).cond.active d = (inSet w.cond.active d &&
      !(decide (d = .blendDamperStall) &&
        decide (w.drive.blend.targetCompletes w.params.blendTravel (w.airWants found).air.blend))) := by
  have other {c : Condition} (h : c.ofDrive = false) : d ≠ c := (Condition.ne_of_ofDrive h own).symm
  have handed := (w.settleDischarge.mapAir fun a => { a with blend := w.settleDischarge.blendNow }).handTarget_active .blend
    w.settleDischarge.blendNow d
  obtain ⟨-, -, -, -, -, heated, -⟩ := w.settleDischarge.settleBlend.settleBlower_cooling found
  obtain ⟨-, -, -, -, -, -, coupled⟩ :=
    ((w.settleDischarge.settleBlend.settleHeaterWant found).settleBlower.settleCooling).settleHolder_clutch
  rw [(w.airWants_settled found).blend]
  calc inSet (w.airWants found).cond.active d
    _ = inSet w.settleDischarge.settleBlend.cond.active d :=
      (coupled d).trans (by rw [if_neg (other rfl), if_neg (other rfl), heated])
    _ = _ := handed

/-- What the plan of an air expiry finds in `z`: the drives as the expiry found them, each damper with its target handed, and the
short-cycle timers (R67, R81, R88). -/
structure State.AirHanded (s z : State) : Prop where
  drive : z.drive =
    { s.drive with
      fresh := (s.drive.fresh.handTarget s.params.freshTravel s.drive.plan.held s.asleep z.air.freshTarget).act
      blend := (s.drive.blend.handTarget s.params.blendTravel s.drive.plan.held s.asleep z.air.blend).act }
  active : ∀ d : Condition, d.ofDrive = true → inSet z.cond.active d = (inSet s.cond.active d &&
    !(decide (d = .freshDamperStall) && decide (s.drive.fresh.targetCompletes s.params.freshTravel z.air.freshTarget)) &&
    !(decide (d = .blendDamperStall) && decide (s.drive.blend.targetCompletes s.params.blendTravel z.air.blend)))
  minOn : z.air.minOn = s.air.minOn
  minOff : z.air.minOff = s.air.minOff

theorem State.airWants_handed {s z : State}
    (wanted : ((s.mapAir fun a => { a with timer := Timer.start }).airStages).airWants s.air.defrost = z) : s.AirHanded z := by
  obtain ⟨reads, wAir, -, -, drive, -⟩ := State.airStages_settled (s := s) rfl
  have staged (d : Condition) (own : d.ofDrive = true) := State.airStages_active (s := s) rfl own
  rw [s.judged.sourceTests_leaves, s.judged_air] at wAir
  generalize (s.mapAir fun a => { a with timer := Timer.start }).airStages = w at *
  have settled := w.airWants_settled s.air.defrost
  have blended (d : Condition) (own : d.ofDrive = true) := w.airWants_active s.air.defrost own
  rw [wanted] at settled blended
  have fresh : z.air.freshTarget = w.air.freshTarget := by rw [settled.kept]
  have blend : w.drive.blend = s.drive.blend := by rw [drive]; rfl
  constructor
  case drive =>
    rw [settled.drive, blend, reads.params, reads.asleep, drive, fresh]
    rfl
  case active => intro d own; rw [blended d own, staged d own, blend, reads.params, fresh]
  case minOn => rw [settled.kept, wAir]
  case minOff => rw [settled.kept, wAir]

/-! ### What the plan makes of them -/

section
variable {s z : State} (h : s.AirHanded z) (q : Plan)
include h

theorem State.AirHanded.channelsTook (params : z.params = s.params) (input : z.input = s.input) :
    s.channelsTook (z.handPlan q) := by
  refine State.channelsTook_of_found (z.handPlan_took q).1.1 params input h.drive fun d own other => ?_
  have fresh : d ≠ .freshDamperStall := other .fresh
  have blend : d ≠ .blendDamperStall := other .blend
  rw [h.active d own]
  simp [fresh, blend]

theorem State.AirHanded.reported : s.clutchReported (z.handPlan q) := by
  have driven : z.clutchDriven = s.clutchDriven := by rw [State.clutchDriven, h.drive]; rfl
  simpa only [State.clutchReported, driven, h.minOn, h.minOff] using (z.handPlan_reported q).1

end

/-- The end of an air expiry: the plan made from the take and the wants just settled, and handed on the drives with their targets
(R86, R98, R119). -/
theorem State.airWork_finish_planned {s z : State} (running : s.node.state = .running)
    (wanted : ((s.mapAir fun a => { a with timer := Timer.start }).airStages).airWants s.air.defrost = z) :
    let m := z.handPlan (split s.params s.share.applied z.wants)
    let t := s.airWork.finish s
    t.drive = m.drive ∧ t.air = m.air ∧ t.cond = m.cond := by
  intro m t
  have made : s.airWork = z.makePlan := congrArg State.makePlan wanted
  have planned : s.airWork = m := by
    rw [made, State.makePlan, ← wanted]
    simp [m, ← wanted]
  have steady : m.node.state = .parking → s.node.state = .parking ∧ s.drive.fresh.state = m.drive.fresh.state := by
    obtain ⟨-, node, -⟩ := s.airWork_frame
    rw [← planned, node, running]
    exact fun parked => nomatch parked
  have ends : t = m.finish s := by simp only [t, planned]
  rw [ends]
  exact ⟨(State.finish_drivesAs steady).drive, (State.finish_drivesAs steady).air, State.finish_cond_of_steady steady⟩

/-- An air expiry touches the Air Unit, the Drive Unit, their conditions and the slots of the Line Interface (R67). -/
theorem State.airWork_finish_frame {s : State} (running : s.node.state = .running) :
    s.sameExcept [.air, .drive, .cond, .line] (s.airWork.finish s) ∧
    s.line.sameOutsideSlots (s.airWork.finish s).line := by
  obtain ⟨-, node, -⟩ := s.airWork_frame
  have before : s.sameExcept [.air, .drive, .cond, .line] s.airWork := by simp [State.sameExcept]
  obtain ⟨blocks, same⟩ := State.finish_steady_frame (s := s.airWork) (b := s) fun parked => by
    rw [node, running] at parked
    exact nomatch parked
  exact ⟨State.sameExcept_trans before blocks (by simp),
    LineInterface.sameOutsideSlots_trans (LineInterface.sameOutsideSlots_of_unmarked s.airWork_unmarked) same⟩

/-- What the damper `x` of `s` has become in `t` by an air expiry that handed it the target `v` and then the plan of `t`, its stall
condition with it (R131, R133, R138). -/
def State.damperDriven (s t : State) (x : Damper) (v : Nat) : Prop :=
  let f := ((s.drive.actuator x).handTarget (s.params.travel x) s.drive.plan.held s.asleep v).act
  f.planTaken t.drive.plan.held s.asleep (t.drive.actuator x) ∧
  (t.drive.actuator x).target = v * s.params.travel x / 1000 ∧
  inSet t.cond.active x.stallCondition =
    (inSet s.cond.active x.stallCondition && !decide ((s.drive.actuator x).targetCompletes (s.params.travel x) v) &&
      !decide (f.planCompletes t.drive.plan.held))

/-- What an air expiry has made of the drives in `t`, the end of its event (R67, R95, R98, R119, R131, R133). -/
structure State.AirPlanned (s t : State) : Prop where
  plan : t.drive.plan = split s.params s.share.applied t.wants
  channels : s.channelsTook t
  fresh : s.damperDriven t .fresh t.air.freshTarget
  blend : s.damperDriven t .blend t.air.blend
  clutch : s.clutchReported t

/-- A plan handed to a damper that has just taken its target (R131, R133). -/
theorem State.handPlan_damperDriven {s z : State} (q : Plan) {x : Damper} {v : Nat} (asleep : z.asleep = s.asleep)
    (handed : z.drive.actuator x =
      ((s.drive.actuator x).handTarget (s.params.travel x) s.drive.plan.held s.asleep v).act)
    (stall : inSet z.cond.active x.stallCondition =
      (inSet s.cond.active x.stallCondition && !decide ((s.drive.actuator x).targetCompletes (s.params.travel x) v))) :
    s.damperDriven (z.handPlan q) x v := by
  obtain ⟨taken, ended⟩ := (z.handPlan_took q).1.2 x
  have counts := DriveUnit.counts_of_travels (z.handPlan_travels q) x
  have target : ((z.handPlan q).drive.actuator x).target = (z.drive.actuator x).target := congrArg Prod.snd counts
  rw [handed, asleep] at taken
  rw [handed, Actuator.handTarget_target] at target
  rw [handed, stall] at ended
  exact ⟨taken, target, ended⟩

theorem State.airWork_planned {s : State} (running : s.node.state = .running) : s.AirPlanned (s.airWork.finish s) := by
  obtain ⟨drive, air, cond⟩ := State.airWork_finish_planned running rfl
  have handed := State.airWants_handed (s := s) rfl
  have frame := ((s.mapAir fun a => { a with timer := Timer.start }).airStages).airWants_frame s.air.defrost
  generalize ((s.mapAir fun a => { a with timer := Timer.start }).airStages).airWants s.air.defrost = z at *
  generalize s.airWork.finish s = t at *
  simp only [State.airStages_frame, State.mapAir_params, State.mapAir_node, State.mapAir_input] at frame
  obtain ⟨params, node, -, -, -, input, -⟩ := frame
  have asleep : z.asleep = s.asleep := by rw [State.asleep, node]; rfl
  generalize hq : split s.params s.share.applied z.wants = q at *
  have kept := air.trans (z.handPlan_reported q).2
  have fresh : s.damperDriven (z.handPlan q) .fresh z.air.freshTarget :=
    State.handPlan_damperDriven q asleep (congrArg DriveUnit.fresh handed.drive)
      ((handed.active _ rfl).trans (Bool.and_true _))
  have blend : s.damperDriven (z.handPlan q) .blend z.air.blend :=
    State.handPlan_damperDriven q asleep (congrArg DriveUnit.blend handed.drive)
      ((handed.active _ rfl).trans (congrArg (· && !_) (Bool.and_true _)))
  constructor
  case plan =>
    have wants : t.wants = z.wants := by rw [State.wants, kept]; rfl
    rw [drive, (z.handPlan_took q).2, wants, hq]
  case channels => exact State.channelsTook_congr (handed.channelsTook q params input) (by rw [drive]) fun d _ => by rw [cond]
  case fresh =>
    rw [State.damperDriven, drive, cond, kept]
    exact fresh
  case blend =>
    rw [State.damperDriven, drive, cond, kept]
    exact blend
  case clutch => exact State.clutchReported_congr (handed.reported q) rfl rfl (by rw [drive]) air.symm

/-- Settles O37: the heater step by `State.airWork_heater`, the plan and the drives by `State.airWork_planned`. -/
theorem heaterWantAndPlanAtAirExpiry : Obligations.HeaterWantAndPlanAtAirExpiry := by
  refine ⟨fun s running timer => ⟨_, exec_airExpiry running timer, ?_⟩, fun s running timer =>
    ⟨_, exec_airExpiry running timer, ?_⟩⟩
  · have heater := State.airWork_heater running
    have overrides := (State.airWork_settled running).overrides
    generalize s.airWork.finish s = t at *
    obtain ⟨want, change, rises⟩ := heater
    intro w e high low rise fall dwell advanced
    rw [show s.errorFrom t.air.dischargeTarget = e from rfl] at want change rises
    have advance (x : Option Nat) : dwellAdvance s.params x = advanced x := by cases x <;> rfl
    have reached (x : Option Nat) : dwellReached s.params (dwellAdvance s.params x) = decide (advanced x = some dwell) := by
      rw [dwellReached_advance, advance]
    have riseOf : riseCondition s.params (s.air.beforeHeater s.params t.air) e = rise := by
      simp only [riseCondition, AirUnit.beforeHeater, rise, high]
      cases e <;> rfl
    have fallOf : fallCondition s.air.defrost (s.air.beforeHeater s.params t.air) e = fall := by
      simp only [fallCondition, AirUnit.beforeHeater, fall, low]
      rw [Bool.or_comm]
      cases e <;> rfl
    have forced : (s.air.beforeHeater s.params t.air).overrides = s.air.overrides := overrides
    have restarts : heaterRestarts s.params e s.air.defrost (s.air.beforeHeater s.params t.air) =
        (decide (t.air.heaterWant ≠ w) || (s.air.overrides.stages.isNone && decide (t.air.source = .off))) := by
      rw [heaterRestarts, ← want, forced]
      rfl
    refine ⟨want.trans ?_, change.trans (by rw [restarts, advance]), rises.trans (by rw [restarts, advance, riseOf])⟩
    rw [heaterWantOf, riseOf, fallOf, forced]
    cases s.air.overrides.stages with
    | some f => rfl
    | none => simp only [AirUnit.beforeHeater, reached]; rfl
  · obtain ⟨kept, -⟩ := State.airWork_source running
    rw [s.judged.sourceTests_leaves, s.judged_air] at kept
    obtain ⟨blocks, line⟩ := State.airWork_finish_frame running
    obtain ⟨plan, channels, fresh, blend, clutch⟩ := State.airWork_planned running
    have awake : s.asleep = false := by rw [State.asleep, running]; rfl
    generalize s.airWork.finish s = t at *
    rw [State.damperDriven, awake] at fresh blend
    obtain ⟨freshTaken, freshTarget, freshStall⟩ := fresh
    obtain ⟨blendTaken, blendTarget, blendStall⟩ := blend
    refine ⟨plan, channels, ⟨_, _, ⟨?_, freshTaken, freshStall⟩, ?_, blendTaken, blendStall⟩, blendTarget, freshTarget, clutch, ?_,
      ?_, ?_, ?_, ?_, line, blocks⟩
    · exact (Actuator.handTarget_taken _ _ _ _ _).1
    · exact (Actuator.handTarget_taken _ _ _ _ _).1
    all_goals rw [kept]

end Sys2Proof.Machine
end

section
/-! The sensor inputs: the temperature of a sample, levels and edges accepted, and the samples that edges make (R103 to R108, R110,
R113, Table 7-2). -/

namespace Sys2Proof.Machine

/-! ### The temperature of a sample -/

/-- The validity of a temperature sample in its four limits (R105). -/
theorem tempValid_iff (h p : Nat) : tempValid h p = true ↔ 500 ≤ p ∧ p ≤ 8000 ∧ p ≤ 20 * h ∧ 20 * h ≤ 19 * p := by
  simp [tempValid, and_assoc]

/-- Within the limits of the duty, 5 % to 95 %, the quotient of R106 lies between those of 1650 / 20 and 1650 × 19 / 20. -/
theorem tempOf_bounds {h p : Nat} (pos : 0 < p) (low : p ≤ 20 * h) (high : 20 * h ≤ 19 * p) :
    -318 ≤ tempOf h p ∧ tempOf h p ≤ 1167 := by
  have least : 82 ≤ 1650 * h / p := (Nat.le_div_iff_mul_le pos).2 (by omega)
  have most : 1650 * h / p < 1568 := (Nat.div_lt_iff_lt_mul pos).2 (by omega)
  rw [tempOf]
  omega

/-- Settles O44: R106 is a division, and R105 bounds its quotient. -/
theorem temperatureOfSample : Obligations.TemperatureOfSample := by
  refine fun h p pos => ⟨⟨1650 * h / p, Nat.div_mul_le_self _ _, ?_, rfl⟩, tempValid_iff h p, fun valid => ?_⟩
  · rw [mul_comm (_ + 1)]
    exact Nat.lt_mul_div_succ _ pos
  · obtain ⟨-, short, low, high⟩ := (tempValid_iff h p).1 valid
    obtain ⟨least, most⟩ := tempOf_bounds pos low high
    exact ⟨least, most, by omega⟩

/-! ### Accepted levels -/

/-- The first acceptance on a slow line is silent (R113; log entry 24). -/
theorem State.onSlowEvent_of_first {s : State} {l : SlowLine} (first : (s.input.slow.get l).accepted = none) (level : Bool)
    (f : State → State) : s.onSlowEvent l level f = s.accept l level := by
  rcases s.onSlowEvent_cases l level f with ⟨event, -⟩ | ⟨-, e⟩ | ⟨known, -⟩
  · exact absurd (first.symm.trans (of_decide_eq_true event)) nofun
  · exact e
  · exact absurd (first.symm.trans known) nofun

/-- A level already accepted on a slow line is no event (R113; log entry 24). -/
theorem State.onSlowEvent_of_accepted {s : State} {l : SlowLine} {level : Bool}
    (known : (s.input.slow.get l).accepted = some level) (f : State → State) : s.onSlowEvent l level f = s := by
  rcases s.onSlowEvent_cases l level f with ⟨event, -⟩ | ⟨first, -⟩ | ⟨-, e⟩
  · have other := known.symm.trans (of_decide_eq_true event)
    simp at other
  · exact absurd (first.symm.trans known) nofun
  · exact e

/-- The command of a slow line's level is that level commanded on the line (Table 7-4). -/
theorem exec_slowEvent (l : SlowLine) (level : Bool) (s : State) :
    ∃ f : State → State, exec (slowEvent l level) s = .next (s.onSlowEvent l level f) := by
  cases l <;> cases level <;> exact ⟨_, rfl⟩

/-- The first acceptance on a fast input is no edge (R103; log entry 24). -/
theorem State.onEdge_of_first {s : State} {x : FastInput} (first : (s.input.fast.get x).accepted = none) (rising : Bool)
    (f : State → State) : s.onEdge x rising f = s.acceptFast x rising := by
  simp [State.onEdge, State.acceptsEdge, first]

/-- The level a fast input has is no edge, where no fall goes unseen (R103; log entry 24). -/
theorem State.onEdge_of_accepted {s : State} {x : FastInput} {rising : Bool} (seen : x.fallsUnseen = false)
    (known : (s.input.fast.get x).accepted = some rising) (f : State → State) : s.onEdge x rising f = s := by
  simp [State.onEdge, State.acceptsEdge, known, seen]

/-- The other level is an edge (R103). -/
theorem State.onEdge_of_other {s : State} {x : FastInput} {rising : Bool}
    (other : (s.input.fast.get x).accepted = some !rising) (f : State → State) :
    s.onEdge x rising f = f (s.acceptFast x rising) := by
  simp [State.onEdge, State.acceptsEdge, other]

/-- A rising edge on TACH or a hall input is one whatever level was accepted before it (log entry 24). -/
theorem State.onEdge_of_unseen {s : State} {x : FastInput} (unseen : x.fallsUnseen = true)
    (accepted : (s.input.fast.get x).accepted ≠ none) (rising : Bool) (f : State → State) :
    s.onEdge x rising f = f (s.acceptFast x rising) := by
  obtain ⟨old, known⟩ := Option.ne_none_iff_exists'.1 accepted
  simp [State.onEdge, State.acceptsEdge, known, unseen]

theorem FastInput.fallsUnseen_eq_false (x : FastInput) : x.fallsUnseen = false ↔ x ∉ [.tach, .hallFrs, .hallBld] := by
  cases x <;> decide

/-- The command of a fast input's edge is that level commanded on the input; on a sensor input it acts with the capture timer's value
alone (R103, R111, R112; log entry 10). -/
theorem exec_fastEvent {x : FastInput} {level : Bool} {capture : BitVec 16} {c : Instr} (s : State)
    (event : fastEvent capture x level = some c) : ∃ f : State → State,
      exec c s = .next (s.when (x.fallsUnseen || decide (capture = s.input.captureTimer)) (State.onEdge x level f)) := by
  cases x <;> cases level <;> cases event
  case hallFrs.true.refl => exact ⟨fun t => (t.hallEdge .fresh).finish s, rfl⟩
  case hallBld.true.refl => exact ⟨fun t => (t.hallEdge .blend).finish s, rfl⟩
  all_goals exact ⟨_, rfl⟩

/-- What a level accepted on a slow line shows: its own sampler and pin stand at the level, and the others as they did (R113). -/
theorem State.accept_shows (l : SlowLine) (level : Bool) (s : State) :
    (∀ m : SlowLine, (s.accept l level).input.slow.get m = if m = l then ⟨some level, some level⟩ else s.input.slow.get m) ∧
    (s.accept l level).slowPinLevel l = level ∧
    (∀ m : SlowLine, m ≠ l → (s.accept l level).input.pins.slow m = s.input.pins.slow m) := by
  obtain ⟨-, own, pin⟩ := s.accept_spec l level
  refine ⟨fun m => ?_, pin, fun m other => Pins.slow_setSlow_of_ne _ _ other⟩
  split
  next same => rw [same, own]
  next other => exact SlowSamplers.get_set_of_ne _ _ other

/-- What a level accepted on a fast input shows (R103). -/
theorem State.acceptFast_shows (x : FastInput) (level : Bool) (s : State) :
    (∀ y : FastInput, (s.acceptFast x level).input.fast.get y = if y = x then ⟨some level, some level⟩ else s.input.fast.get y) ∧
    (∀ y : FastInput, (s.acceptFast x level).input.pins.fast y = if y = x then level else s.input.pins.fast y) := by
  refine ⟨fun y => ?_, fun y => ?_⟩ <;> split
  next same => rw [same]; exact FastSamplers.get_set _ _ _
  next other => exact FastSamplers.get_set_of_ne _ _ other
  next same => rw [same]; exact Pins.fast_setFast _ _ _
  next other => exact Pins.fast_setFast_of_ne _ _ other

theorem State.sameExcept_input (f : InputUnit → InputUnit) (s : State) : s.sameExcept [.input] (s.mapInput f) := by
  simp [State.sameExcept]

/-! ### Edges of the sensor inputs -/

/-- An edge of a sensor's input touches that input and that sensor's entry (R103). -/
theorem State.onCapturedEdge_of_other {s : State} {x : FastInput} {rising : Bool}
    (other : (s.input.fast.get x).accepted = some !rising) (y : Sensor) (f : SensorEntry → SensorEntry) {t : State}
    (edged : s.onCapturedEdge x rising s.input.captureTimer (State.mapSensor y f) = t) :
    s.sameExcept [.input] t ∧ t.input = ((s.acceptFast x rising).mapSensor y fun _ => t.input.sensors.get y).input ∧
    t.input.sensors.get y = f (s.input.sensors.get y) := by
  rw [State.onCapturedEdge, decide_eq_true rfl, State.when_true, State.onEdge_of_other other] at edged
  have entry : t.input.sensors.get y = f (s.input.sensors.get y) := by
    rw [← edged]
    exact SensorTable.get_set _ _ _
  refine ⟨?_, ?_, entry⟩
  · rw [← edged]
    exact State.sameExcept_trans (State.sameExcept_input _ s) (State.sameExcept_input _ _) (List.Subset.refl _)
  · rw [entry, ← edged]
    rfl

/-- A completed sample joins a window when one is open and the sensor is fitted (R108, R110). -/
theorem State.samplesCount_iff (x : Sensor) (s : State) :
    s.samplesCount x = true ↔ s.input.windowTimer.isRunning = true ∧ s.params.fitted x = true := by
  rw [State.samplesCount, Bool.and_eq_true, InputUnit.windowOpen]

/-- The sample an edge finds in progress: none when the edge comes 20 000 µs or more after the last (R104). -/
def SensorEntry.found (e : SensorEntry) : Sample := if e.edgeTimeout.due edgeTimeoutLimit then .none else e.sample

/-- What every edge makes of an entry first (R104). -/
theorem SensorEntry.inTime_restarted (e : SensorEntry) :
    ({ e.inTime with edgeTimeout := Timer.start } : SensorEntry) = { e with edgeTimeout := .running 0, sample := e.found } := by
  unfold SensorEntry.inTime SensorEntry.found
  split <;> rfl

section
variable {e : SensorEntry} {rise fall : BitVec 16} (open_ : Bool) (capture : BitVec 16)

/-- A rising edge after a fall completes a temperature sample and begins the next (R105). -/
theorem SensorEntry.temperatureEdge_rise_of_fallen (fell : e.found = .fallen rise fall) :
    e.temperatureEdge open_ true capture =
      let b := { e with edgeTimeout := .running 0, sample := .begun capture }
      if tempValid (captureDiff fall rise) (captureDiff capture rise) = true ∧ open_ = true then
        { b with sum := e.sum + tempOf (captureDiff fall rise) (captureDiff capture rise), count := e.count + 1 }
      else b := by
  rw [SensorEntry.temperatureEdge, e.inTime_restarted, fell]
  cases open_ <;> simp [SensorEntry.take]

/-- A rising edge without a fall before it only begins a temperature sample (R105). -/
theorem SensorEntry.temperatureEdge_rise_of_not_fallen (standing : ∀ rise fall, e.found ≠ .fallen rise fall) :
    e.temperatureEdge open_ true capture = { e with edgeTimeout := .running 0, sample := .begun capture } := by
  rw [SensorEntry.temperatureEdge, e.inTime_restarted]
  cases found : e.found with
  | none => rfl
  | begun rise => rfl
  | fallen rise fall => exact absurd found (standing rise fall)

/-- A falling edge is the fall of a temperature sample begun (R105). -/
theorem SensorEntry.temperatureEdge_fall_of_begun (begun : e.found = .begun rise) :
    e.temperatureEdge open_ false capture = { e with edgeTimeout := .running 0, sample := .fallen rise capture } := by
  rw [SensorEntry.temperatureEdge, e.inTime_restarted, begun]
  rfl

theorem SensorEntry.temperatureEdge_fall_of_not_begun (other : ∀ rise, e.found ≠ .begun rise) :
    e.temperatureEdge open_ false capture = { e with edgeTimeout := .running 0, sample := e.found } := by
  rw [SensorEntry.temperatureEdge, e.inTime_restarted]
  cases found : e.found with
  | none => rfl
  | begun rise => exact absurd found (other rise)
  | fallen rise fall => rfl

/-- A rising edge begins a smoke sample (R107). -/
theorem SensorEntry.smokeEdge_rise (e : SensorEntry) :
    e.smokeEdge open_ true capture = { e with edgeTimeout := .running 0, sample := .begun capture } := by
  rw [SensorEntry.smokeEdge, e.inTime_restarted]
  rfl

/-- The density of a pulse is that of Table 7-2 for the widths from 50 to 950, and no other width has one. -/
theorem densityOf_eq (w : Nat) : densityOf w =
    if 50 ≤ w ∧ w ≤ 950 then
      some (if w ≤ 99 then 0 else if w ≤ 900 then (((w - 100) * 1000 / 800 : Nat) : Int) else 1000)
    else none := by
  by_cases valid : 50 ≤ w ∧ w ≤ 950
  · rw [if_pos valid, densityOf, if_neg (Nat.not_lt.2 valid.1), if_pos valid.2]
    simp only [Nat.lt_succ_iff, apply_ite some]
  · rw [if_neg valid, densityOf]
    grind

/-- A falling edge completes a smoke sample begun (R107). -/
theorem SensorEntry.smokeEdge_fall_of_begun (begun : e.found = .begun rise) :
    e.smokeEdge open_ false capture =
      let b := { e with edgeTimeout := .running 0, sample := .none }
      let w := captureDiff capture rise
      if 50 ≤ w ∧ w ≤ 950 ∧ open_ = true then
        { b with
          sum := e.sum + (if w ≤ 99 then 0 else if w ≤ 900 then (((w - 100) * 1000 / 800 : Nat) : Int) else 1000)
          count := e.count + 1 }
      else b := by
  rw [SensorEntry.smokeEdge, e.inTime_restarted, begun]
  dsimp only
  rw [densityOf_eq, if_neg Bool.false_ne_true]
  by_cases valid : 50 ≤ captureDiff capture rise ∧ captureDiff capture rise ≤ 950
  · obtain ⟨wide, narrow⟩ := valid
    cases open_ <;> simp [SensorEntry.take, wide, narrow]
  · rw [if_neg valid, if_neg fun ⟨wide, narrow, _⟩ => valid ⟨wide, narrow⟩]

/-- A falling edge without a smoke sample begun leaves none in progress (R107). -/
theorem SensorEntry.smokeEdge_fall_of_not_begun (other : ∀ rise, e.found ≠ .begun rise) :
    e.smokeEdge open_ false capture = { e with edgeTimeout := .running 0, sample := .none } := by
  rw [SensorEntry.smokeEdge, e.inTime_restarted]
  cases found : e.found with
  | none => rfl
  | begun rise => exact absurd found (other rise)
  | fallen rise fall => rfl

end

/-- Settles O45: the accepted levels by `State.accept_shows` and `State.acceptFast_shows`, the edges by the sample each finds. -/
theorem sensorEdgesSampled : Obligations.SensorEdgesSampled := by
  refine ⟨⟨fun l level s => ?slow, fun x level s => ?fast⟩, fun x s low => ?rise, fun x s high => ?fall,
    fun k rising s other => ?smoke, fun x s runs => ?timeout⟩
  case slow =>
    obtain ⟨samplers, pin, pins⟩ := s.accept_shows l level
    obtain ⟨f, event⟩ := exec_slowEvent l level s
    refine ⟨samplers, pin, pins, rfl, State.sameExcept_input _ s, fun first => ?_, fun known => ?_, ?_, rfl, rfl, rfl⟩
    · rw [event, State.onSlowEvent_of_first first]
    · rw [event, State.onSlowEvent_of_accepted known]
    · rw [State.lineLevel]
      cases (s.input.slow.get l).accepted with
      | some b => rfl
      | none => cases l <;> rfl
  case fast =>
    obtain ⟨samplers, pins⟩ := s.acceptFast_shows x level
    refine ⟨samplers, pins, rfl, State.sameExcept_input _ s, fun c event => ?_, fun c capture late sensed event => ?_⟩
    · obtain ⟨f, runs⟩ := exec_fastEvent s event
      rw [decide_eq_true rfl, Bool.or_true, State.when_true] at runs
      refine ⟨fun first => ?_, fun known sensed => ?_⟩
      · rw [runs, State.onEdge_of_first first]
      · rw [runs, State.onEdge_of_accepted (x.fallsUnseen_eq_false.2 sensed) known]
    · obtain ⟨f, runs⟩ := exec_fastEvent s event
      rw [runs, x.fallsUnseen_eq_false.2 sensed, decide_eq_false late, Bool.or_false, State.when_false]
  case rise =>
    obtain ⟨blocks, input, entry⟩ := State.onCapturedEdge_of_other (rising := true) low x.sensor
      (SensorEntry.temperatureEdge (s.samplesCount x.sensor) true s.input.captureTimer) rfl
    refine ⟨_, rfl, blocks, input, entry.trans ?_⟩
    extract_lets
    split
    next fell =>
      exact (SensorEntry.temperatureEdge_rise_of_fallen _ _ fell).trans
        (if_congr (and_congr_right fun _ => State.samplesCount_iff _ s) rfl rfl)
    next standing => exact SensorEntry.temperatureEdge_rise_of_not_fallen _ _ standing
  case fall =>
    obtain ⟨blocks, input, entry⟩ := State.onCapturedEdge_of_other (rising := false) high x.sensor
      (SensorEntry.temperatureEdge (s.samplesCount x.sensor) false s.input.captureTimer) rfl
    refine ⟨_, rfl, blocks, input, entry.trans ?_⟩
    extract_lets
    split
    next begun => exact SensorEntry.temperatureEdge_fall_of_begun _ _ begun
    next other => exact SensorEntry.temperatureEdge_fall_of_not_begun _ _ other
  case smoke =>
    obtain ⟨blocks, input, entry⟩ := State.onCapturedEdge_of_other other k.sensor
      (SensorEntry.smokeEdge (s.samplesCount k.sensor) rising s.input.captureTimer) rfl
    refine ⟨_, rfl, blocks, input, entry.trans ?_⟩
    extract_lets
    cases rising with
    | true => exact SensorEntry.smokeEdge_rise _ _ _
    | false =>
      rw [if_neg Bool.false_ne_true]
      split
      next begun =>
        exact (SensorEntry.smokeEdge_fall_of_begun _ _ begun).trans
          (if_congr (and_congr_right fun _ => and_congr_right fun _ => State.samplesCount_iff _ s) rfl rfl)
      next other => exact SensorEntry.smokeEdge_fall_of_not_begun _ _ other
  case timeout =>
    exact ⟨_, congrArg Host.Outcome.next (if_pos runs), State.sameExcept_input _ s, rfl⟩

end Sys2Proof.Machine
end

section
/-! The tachometer, and what a window close settles (R108 to R111, R125). -/

namespace Sys2Proof.Machine

/-! ### Blocks a change leaves -/

section
variable {bs : List Block} {s t : State} (h : s.sameExcept bs t)
include h

theorem State.params_of_sameExcept (other : Block.params ∉ bs) : t.params = s.params := h.1.resolve_left other

theorem State.node_of_sameExcept (other : Block.node ∉ bs) : t.node = s.node := by
  obtain ⟨-, node, -⟩ := h
  exact node.resolve_left other

theorem State.drive_of_sameExcept (other : Block.drive ∉ bs) : t.drive = s.drive := by
  obtain ⟨-, -, -, -, -, -, -, -, drive, -⟩ := h
  exact drive.resolve_left other

theorem State.cond_of_sameExcept (other : Block.cond ∉ bs) : t.cond = s.cond := by
  obtain ⟨-, -, -, -, -, -, -, -, -, cond, -⟩ := h
  exact cond.resolve_left other

end

/-! ### One sensor at a window close -/

/-- An entry at a window close, by whether its sensor is fitted (R109, R110). -/
def SensorEntry.closedFor (fitted : Bool) (e : SensorEntry) : SensorEntry := if fitted then e.close else e.openWindow

/-- The fitted sensor's entry at a window close (R109). -/
theorem SensorEntry.close_eq (e : SensorEntry) : e.close =
    let w := { e with sum := 0, count := 0 }
    if 0 < e.count then { w with value := some (e.sum / (e.count : Int)), missed := 0, fault := false }
    else if e.missed < 3 then { w with missed := e.missed + 1 }
    else if e.missed = 3 then { w with missed := 4, value := none, fault := true } else w := by
  simp only [SensorEntry.close, Nat.pos_iff_ne_zero]

theorem Sensor.fault_inj {x y : Sensor} (h : x.fault = y.fault) : x = y := by
  revert h
  cases x <;> cases y <;> decide

/-- What a window close does at one sensor: its entry closed, and its fault condition following when it is fitted (R109, R110). -/
theorem State.closeSensor_spec (x : Sensor) (s : State) :
    s.sameExcept [.input, .cond, .line] (s.closeSensor x) ∧
    (s.closeSensor x).input = (s.mapSensor x (SensorEntry.closedFor (s.params.fitted x))).input ∧
    ∀ c, inSet (s.closeSensor x).cond.active c =
      if s.params.fitted x = true ∧ c = x.fault then ((s.closeSensor x).input.sensors.get x).fault
      else inSet s.cond.active c := by
  unfold State.closeSensor SensorEntry.closedFor
  cases s.params.fitted x <;> simp [State.sameExcept, State.mapSensor]

/-! ### Every sensor at a window close -/

/-- What a window close has made of the sensors of `l` in `t`: their entries closed, the fault conditions of those fitted following,
and nothing else (R109, R110). -/
structure State.ClosedIn (l : List Sensor) (s t : State) : Prop where
  blocks : s.sameExcept [.input, .cond, .line] t
  input : t.input = { s.input with sensors := t.input.sensors }
  entry : ∀ x, t.input.sensors.get x =
    if x ∈ l then (s.input.sensors.get x).closedFor (s.params.fitted x) else s.input.sensors.get x
  followed : ∀ x ∈ l, s.params.fitted x = true → inSet t.cond.active x.fault = (t.input.sensors.get x).fault
  others : ∀ c, (∀ x ∈ l, s.params.fitted x = true → c ≠ x.fault) → inSet t.cond.active c = inSet s.cond.active c

theorem State.ClosedIn.nil (s : State) : s.ClosedIn [] s where
  blocks := by simp [State.sameExcept]
  input := rfl
  entry _ := rfl
  followed := nofun
  others _ _ := rfl

/-- One sensor closed before the others: their closing touches neither its entry nor its condition. -/
theorem State.ClosedIn.cons {x : Sensor} {l : List Sensor} {s t : State} (apart : x ∉ l) (h : (s.closeSensor x).ClosedIn l t) :
    s.ClosedIn (x :: l) t := by
  obtain ⟨blocks, input, active⟩ := s.closeSensor_spec x
  have params : (s.closeSensor x).params = s.params := State.params_of_sameExcept blocks (by decide)
  have own : (s.closeSensor x).input.sensors.get x = (s.input.sensors.get x).closedFor (s.params.fitted x) := by
    rw [input]
    exact SensorTable.get_set _ _ _
  have other {y : Sensor} (ne : y ≠ x) : (s.closeSensor x).input.sensors.get y = s.input.sensors.get y := by
    rw [input]
    exact SensorTable.get_set_of_ne _ _ ne
  constructor
  case blocks => exact State.sameExcept_trans blocks h.blocks (List.Subset.refl _)
  case input =>
    rw [h.input, input]
    rfl
  case entry =>
    intro y
    rw [h.entry, params]
    by_cases same : y = x
    · subst same
      rw [if_neg apart, if_pos List.mem_cons_self, own]
    · simp only [List.mem_cons, same, false_or, other same]
  case followed =>
    intro y listed fitted
    rcases List.mem_cons.1 listed with same | listed
    · subst same
      rw [h.entry, if_neg apart, h.others y.fault fun z listed _ e => apart (Sensor.fault_inj e ▸ listed), active,
        if_pos ⟨fitted, rfl⟩]
    · exact h.followed y listed (params ▸ fitted)
  case others =>
    intro c away
    rw [h.others c fun y listed fitted => away y (List.mem_cons_of_mem _ listed) (params ▸ fitted), active,
      if_neg fun ⟨fitted, own⟩ => away x List.mem_cons_self fitted own]

theorem State.closedIn_foldl {l : List Sensor} (distinct : l.Nodup) (s : State) :
    s.ClosedIn l (l.foldl (fun t x => t.closeSensor x) s) := by
  induction l generalizing s with
  | nil => exact .nil s
  | cons x l ih =>
    obtain ⟨apart, distinct⟩ := List.nodup_cons.1 distinct
    exact .cons apart (ih distinct _)

theorem State.closeSensors_closed (s : State) : s.ClosedIn allSensors s.closeSensors := State.closedIn_foldl (by decide) s

theorem mem_allSensors (x : Sensor) : x ∈ allSensors := by cases x <;> decide

/-! ### The tachometer -/

/-- A tach edge counts in the open window alone (R111; log entry 37). -/
theorem InputUnit.countTach_eq (i : InputUnit) : i.countTach =
    { i with tachCount := if i.windowTimer.isRunning then min 65535 (i.tachCount + 1) else i.tachCount } := by
  unfold InputUnit.countTach InputUnit.windowOpen
  cases i.windowTimer.isRunning <;> rfl

/-- The tach value of the window that closes (R111). -/
def State.tachClosed (s : State) : Option Nat :=
  if s.params.tachFitted then some (tachRpm s.params s.input.tachCount) else none

theorem State.closeTach_input (s : State) :
    s.closeTach.input = { s.input with tachValue := s.tachClosed, tachCount := 0 } := rfl

/-- The blower's stall timer after a tach value (R125). -/
def DriveUnit.stallAfter (rpm : Nat) (d : DriveUnit) : Timer :=
  if d.blower.state ≠ .running then d.stall
  else if 300 ≤ rpm then .stopped
  else if d.stall.isRunning then d.stall else .running 0

theorem DriveUnit.judgeTach_eq (rpm : Nat) (d : DriveUnit) : d.judgeTach rpm = { d with stall := d.stallAfter rpm } := by
  unfold DriveUnit.judgeTach DriveUnit.stallAfter
  by_cases running : d.blower.state = .running
  · by_cases slow : rpm < 300
    · simp [running, slow, Nat.not_le.2 slow, Timer.start]
    · simp [running, slow, Nat.not_lt.1 slow]
  · simp [running]

/-- The tach value handed on touches the blower's stall timer alone (R111, R125). -/
theorem State.handTach_of_some {s : State} {rpm : Nat} (value : s.input.tachValue = some rpm) :
    s.handTach = s.mapDrive fun d => { d with stall := s.drive.stallAfter rpm } := by
  rw [State.handTach, value]
  exact congrArg (fun d => ({ s with drive := d } : State)) (s.drive.judgeTach_eq rpm)

theorem State.handTach_of_none {s : State} (value : s.input.tachValue = none) : s.handTach = s := by
  rw [State.handTach, value]

theorem State.handTach_frame (s : State) : s.sameExcept [.drive] s.handTach := by
  cases value : s.input.tachValue with
  | none => rw [State.handTach_of_none value]; simp [State.sameExcept]
  | some rpm => rw [State.handTach_of_some value]; simp [State.sameExcept]

/-- The work of a window close before the end of its event (R108 to R111). -/
def State.windowCloses (s : State) : State :=
  (((s.mapInput fun i => { i with windowTimer := Timer.start }).closeSensors).closeTach).handTach

theorem exec_windowClose {s : State} (open_ : s.input.windowTimer.isRunning = true) :
    exec .windowClose s = .next (s.windowCloses.finish s) :=
  congrArg Host.Outcome.next (if_pos open_)

theorem State.windowCloses_unmarked (s : State) : s.windowCloses.line.unmarked = s.line.unmarked := by
  simp [State.windowCloses, State.closeTach]

/-- What a window close has made of the part in `t` (R108 to R111, R125). -/
structure State.WindowSettled (s t : State) : Prop where
  blocks : s.sameExcept [.input, .cond, .drive, .line] t
  input : t.input = { s.input with
    windowTimer := .running 0, sensors := t.input.sensors, tachCount := 0, tachValue := s.tachClosed }
  entry : ∀ x, t.input.sensors.get x = (s.input.sensors.get x).closedFor (s.params.fitted x)
  followed : ∀ x, s.params.fitted x = true → inSet t.cond.active x.fault = (t.input.sensors.get x).fault
  others : ∀ c, (∀ x, s.params.fitted x = true → c ≠ x.fault) → inSet t.cond.active c = inSet s.cond.active c
  unjudged : s.tachClosed = none → t.drive = s.drive
  judged : ∀ rpm, s.tachClosed = some rpm → t.drive = { s.drive with stall := s.drive.stallAfter rpm }

theorem State.windowCloses_settled (s : State) : s.WindowSettled s.windowCloses := by
  have started : s.sameExcept [.input, .cond, .drive, .line] (s.mapInput fun i => { i with windowTimer := Timer.start }) := by
    simp [State.sameExcept]
  have closed := State.closeSensors_closed (s.mapInput fun i => { i with windowTimer := Timer.start })
  rw [State.windowCloses]
  generalize (s.mapInput fun i => { i with windowTimer := Timer.start }).closeSensors = v at *
  obtain ⟨closing, input, entry, followed, others⟩ := closed
  have params : v.params = s.params := (State.params_of_sameExcept closing (by decide)).trans (State.mapInput_params _ s)
  have drive : v.drive = s.drive := (State.drive_of_sameExcept closing (by decide)).trans (State.mapInput_drive _ s)
  have count : v.input.tachCount = s.input.tachCount := by rw [input]; rfl
  have value : v.closeTach.input.tachValue = s.tachClosed := by
    rw [State.closeTach_input, State.tachClosed, params, count]
    rfl
  have handing := v.closeTach.handTach_frame
  have handedInput := State.input_of_sameExcept handing (by decide)
  have handedCond := State.cond_of_sameExcept handing (by decide)
  constructor
  case blocks =>
    have counted : v.sameExcept [.input] v.closeTach := State.sameExcept_input _ v
    exact State.sameExcept_trans (State.sameExcept_trans (State.sameExcept_trans started closing (by decide)) counted (by decide))
      handing (by decide)
  case input =>
    rw [handedInput, ← value, State.closeTach_input, input]
    rfl
  case entry =>
    intro x
    rw [handedInput]
    exact (entry x).trans (if_pos (mem_allSensors x))
  case followed =>
    intro x fitted
    rw [handedInput, handedCond]
    exact followed x (mem_allSensors x) fitted
  case others =>
    intro c away
    rw [handedCond]
    exact others c fun x _ => away x
  case unjudged =>
    intro none
    rw [State.handTach_of_none (value.trans none)]
    exact drive
  case judged =>
    intro rpm some
    rw [State.handTach_of_some (value.trans some), ← drive]
    rfl

/-- The end of the event adds the Demand and Status timing alone: a window close moves no damper. -/
theorem State.WindowSettled.finish {s u : State} (h : s.WindowSettled u) (unmarked : u.line.unmarked = s.line.unmarked) :
    s.WindowSettled (u.finish s) ∧ s.line.sameOutsideSlots (u.finish s).line := by
  obtain ⟨blocks, input, entry, followed, others, unjudged, judged⟩ := h
  have node : u.node = s.node := State.node_of_sameExcept blocks (by decide)
  have fresh : u.drive.fresh = s.drive.fresh := by
    cases value : s.tachClosed with
    | none => rw [unjudged value]
    | some rpm => rw [judged rpm value]
  obtain ⟨ending, same⟩ := State.finish_steady_frame (s := u) (b := s) fun parked => ⟨node ▸ parked, by rw [fresh]⟩
  have inputKept := State.input_of_sameExcept ending (by decide)
  have driveKept := State.drive_of_sameExcept ending (by decide)
  have condKept := State.cond_of_sameExcept ending (by decide)
  refine ⟨⟨State.sameExcept_trans blocks ending (by decide), ?_, ?_, ?_, ?_, ?_, ?_⟩,
    LineInterface.sameOutsideSlots_trans (LineInterface.sameOutsideSlots_of_unmarked unmarked) same⟩
  all_goals simp only [inputKept, driveKept, condKept]
  exacts [input, entry, followed, others, unjudged, judged]

/-- Settles O46: a tach edge by `State.onEdge_of_unseen`, a window close by `State.windowCloses_settled`. -/
theorem windowCloseSettles : Obligations.WindowCloseSettles := by
  refine ⟨fun s accepted => ?tach, fun s open_ => ?close⟩
  case tach =>
    refine ⟨_, congrArg Host.Outcome.next (State.onEdge_of_unseen rfl accepted _ _),
      State.sameExcept_trans (State.sameExcept_input _ s) (State.sameExcept_input _ _) (List.Subset.refl _), ?_⟩
    exact InputUnit.countTach_eq _
  case close =>
    obtain ⟨settled, line⟩ := s.windowCloses_settled.finish s.windowCloses_unmarked
    refine ⟨_, exec_windowClose open_, ?_⟩
    generalize s.windowCloses.finish s = t at *
    obtain ⟨blocks, input, entry, followed, others, unjudged, judged⟩ := settled
    have value : t.input.tachValue = s.tachClosed := by rw [input]
    refine ⟨by rw [input], by rw [input], value, fun x => ?_, followed, others, ?_, ?_, line, blocks⟩
    · rw [entry, SensorEntry.closedFor, SensorEntry.close_eq]
      cases s.params.fitted x <;> rfl
    · rw [value, input]
    · rw [value]
      cases closed : s.tachClosed with
      | none => exact unjudged closed
      | some rpm => exact judged rpm closed

end Sys2Proof.Machine
end

section
/-! ChannelLocked follows the channels (R127, R128): through a trip, the taking up of a plan, the return of a channel to Off, and a
good frame. -/

namespace Sys2Proof.Machine

/-! ### Some channel is Locked -/

theorem DriveUnit.anyLocked_iff (d : DriveUnit) : d.anyLocked = true ↔ ∃ c : Channel, (d.channel c).state = .locked := by
  simp only [DriveUnit.anyLocked, Bool.or_eq_true, decide_eq_true_eq]
  constructor
  · rintro ((blower | heater) | clutch)
    exacts [⟨.blower, blower⟩, ⟨.heater, heater⟩, ⟨.clutch, clutch⟩]
  · rintro ⟨c, locked⟩
    cases c
    exacts [.inl (.inl locked), .inl (.inr locked), .inr locked]

/-- Whether a channel is Locked rests on which of them are. -/
theorem DriveUnit.anyLocked_congr {d e : DriveUnit}
    (same : ∀ c : Channel, (e.channel c).state = .locked ↔ (d.channel c).state = .locked) : e.anyLocked = d.anyLocked := by
  rw [Bool.eq_iff_iff, DriveUnit.anyLocked_iff, DriveUnit.anyLocked_iff]
  exact exists_congr same

@[simp] theorem DriveUnit.outputOff_channel (d : DriveUnit) (c e : Channel) : (d.outputOff c).channel e = d.channel e := by
  cases c <;> cases e <;> rfl

/-- A channel that was not Locked, replaced. -/
theorem DriveUnit.anyLocked_setChannel {d : DriveUnit} {c : Channel} (unlocked : (d.channel c).state ≠ .locked) (x : OutputChannel) :
    (d.setChannel x c).anyLocked = (d.anyLocked || decide (x.state = .locked)) := by
  rw [Bool.eq_iff_iff, Bool.or_eq_true, decide_eq_true_eq, DriveUnit.anyLocked_iff, DriveUnit.anyLocked_iff]
  constructor
  · rintro ⟨e, locked⟩
    by_cases same : e = c
    · subst same
      rw [DriveUnit.channel_setChannel] at locked
      exact .inr locked
    · rw [DriveUnit.channel_setChannel_of_ne _ _ same] at locked
      exact .inl ⟨e, locked⟩
  · rintro (⟨e, locked⟩ | locked)
    · have other : e ≠ c := fun same => unlocked (same ▸ locked)
      exact ⟨e, by rwa [DriveUnit.channel_setChannel_of_ne _ _ other]⟩
    · exact ⟨c, by rwa [DriveUnit.channel_setChannel]⟩

/-- A channel replaced by one that is not Locked leaves no more of them Locked than before. -/
theorem DriveUnit.anyLocked_of_setChannel {d : DriveUnit} {c : Channel} {x : OutputChannel} (unlocked : x.state ≠ .locked)
    (locked : (d.setChannel x c).anyLocked = true) : d.anyLocked = true := by
  obtain ⟨e, locked⟩ := (DriveUnit.anyLocked_iff _).1 locked
  by_cases same : e = c
  · subst same
    rw [DriveUnit.channel_setChannel] at locked
    exact absurd locked unlocked
  · rw [DriveUnit.channel_setChannel_of_ne _ _ same] at locked
    exact (DriveUnit.anyLocked_iff _).2 ⟨e, locked⟩

/-! ### The condition follows -/

/-- ChannelLocked is active exactly while some channel is Locked (R127, Table 11-1). -/
def State.LockFollowed (s : State) : Prop := s.follows .channelLocked s.drive.anyLocked

theorem State.Inv.lockFollowed {s : State} (inv : s.Inv) : s.LockFollowed := by
  obtain ⟨-, -, -, -, -, -, -, -, -, locked, -⟩ := inv.owners
  exact locked

theorem State.LockFollowed.congr {s t : State} (h : s.LockFollowed)
    (active : inSet t.cond.active .channelLocked = inSet s.cond.active .channelLocked)
    (same : t.drive.anyLocked = s.drive.anyLocked) : t.LockFollowed :=
  active.trans (Eq.trans h same.symm)

/-- A channel that was not Locked goes to a state other than Locked. -/
theorem State.LockFollowed.of_channel {s t : State} (h : s.LockFollowed) (cond : t.cond = s.cond) {c : Channel}
    (others : ∀ e, e ≠ c → t.drive.channel e = s.drive.channel e) (found : (s.drive.channel c).state ≠ .locked)
    (left : (t.drive.channel c).state ≠ .locked) : t.LockFollowed := by
  refine h.congr (by rw [cond]) (DriveUnit.anyLocked_congr fun e => ?_)
  by_cases same : e = c
  · subst same
    exact iff_of_false left found
  · rw [others e same]

theorem State.DrivesAs.lockFollowed {s t : State} (same : s.DrivesAs t) (h : s.LockFollowed) : t.LockFollowed :=
  h.congr (same.active _ rfl) (by rw [same.drive])

/-- A trip of a channel that was not Locked (R127). -/
theorem State.LockFollowed.tripChannel {s : State} (h : s.LockFollowed) {c : Channel} (k : TripCause)
    (unlocked : (s.drive.channel c).state ≠ .locked) : (s.tripChannel c k).LockFollowed := by
  have locks : (decide (((s.drive.channel c).trip (s.overCurrent c)).state = .locked)) = decide (2 ≤ (s.drive.channel c).trips) :=
    decide_eq_decide.2 (OutputChannel.trip_locked_iff _ _)
  have other : Condition.channelLocked ≠ k.condition c := by cases k <;> cases c <;> decide
  have output : (s.drive.outputOff c).anyLocked = s.drive.anyLocked := DriveUnit.anyLocked_congr fun e => by simp
  have before : inSet s.cond.active .channelLocked = s.drive.anyLocked := h
  rw [State.LockFollowed, State.follows, State.tripChannel_active, State.tripChannel_drive,
    DriveUnit.anyLocked_setChannel (by simpa using unlocked), output, locks, before]
  simp [other]

theorem State.LockFollowed.blowerTakesPlan {s : State} (h : s.LockFollowed) : s.blowerTakesPlan.LockFollowed := by
  have changes {d : DriveUnit} (drive : d = { s.drive with
        blower := d.blower, duty := d.duty, ramp := d.ramp, stall := d.stall, pwm := d.pwm })
      (found : s.drive.blower.state ≠ .locked) (left : d.blower.state ≠ .locked) : ({ s with drive := d } : State).LockFollowed := by
    refine h.of_channel (c := .blower) rfl (fun e other => ?_) found left
    dsimp only
    rw [drive]
    cases e
    exacts [absurd rfl other, rfl, rfl]
  have follows (driven : s.drive.blower.state = .starting ∨ s.drive.blower.state = .running) :
      (s.mapDrive fun d => if d.plan.duty = 0 then d.blowerStops else d.blowerFollows).LockFollowed := by
    have found : s.drive.blower.state ≠ .locked := by rcases driven with state | state <;> simp [state]
    unfold DriveUnit.blowerStops DriveUnit.blowerFollows
    refine changes ?_ found ?_
    · dsimp only
      (repeat' split) <;> rfl
    · dsimp only
      split
      · exact nofun
      · split
        · simp
        · exact found
  unfold State.blowerTakesPlan
  cases state : s.drive.blower.state with
  | off =>
    have found : s.drive.blower.state ≠ .locked := by simp [state]
    dsimp only
    split
    · exact h
    · split
      · exact h.tripChannel _ found
      · unfold DriveUnit.blowerStarts
        refine changes ?_ found ?_
        · dsimp only
          split <;> rfl
        · dsimp only
          split <;> simp
  | starting => exact follows (.inl state)
  | running => exact follows (.inr state)
  | _ => exact h

theorem State.LockFollowed.settleHeater {s : State} (h : s.LockFollowed) : s.settleHeater.LockFollowed := by
  have changes {n : Nat} {x : OutputChannel} (found : s.drive.heater.state ≠ .locked) (left : x.state ≠ .locked) :
      (s.mapDrive fun d => { d with stages := n, heater := x }).LockFollowed := by
    refine h.of_channel (c := .heater) rfl (fun e other => ?_) found left
    cases e
    exacts [rfl, absurd rfl other, rfl]
  unfold State.settleHeater
  cases state : s.drive.heater.state with
  | off =>
    have found : s.drive.heater.state ≠ .locked := by simp [state]
    rw [State.interlockPermits_eq (.inl state)]
    dsimp only
    split
    · exact h
    · split
      · exact h.tripChannel _ found
      · exact changes found (by simp)
  | running =>
    have found : s.drive.heater.state ≠ .locked := by simp [state]
    rw [State.interlockPermits_eq (.inr state)]
    dsimp only
    split
    · exact changes found nofun
    · exact changes found found
  | _ => exact h

theorem State.LockFollowed.clutchTakesPlan {s : State} (h : s.LockFollowed) : s.clutchTakesPlan.LockFollowed := by
  have changes {x : OutputChannel} (f : AirUnit → AirUnit) (found : s.drive.clutch.state ≠ .locked) (left : x.state ≠ .locked) :
      ((s.mapDrive fun d => { d with clutch := x }).mapAir f).LockFollowed := by
    refine h.of_channel (c := .clutch) rfl (fun e other => ?_) found left
    cases e
    exacts [rfl, rfl, absurd rfl other]
  unfold State.clutchTakesPlan
  cases state : s.drive.clutch.state with
  | off =>
    have found : s.drive.clutch.state ≠ .locked := by simp [state]
    dsimp only
    split
    · exact h
    · split
      · exact h.tripChannel _ found
      · exact changes _ found (by simp)
  | running =>
    have found : s.drive.clutch.state ≠ .locked := by simp [state]
    dsimp only
    split
    · exact h
    · exact changes _ found nofun
  | _ => exact h

theorem State.LockFollowed.channelTakesPlan {s : State} (h : s.LockFollowed) (c : Channel) :
    (State.channelTakesPlan c s).LockFollowed := by
  cases c with
  | blower => exact h.blowerTakesPlan.settleHeater
  | heater => exact h.settleHeater
  | clutch => exact h.clutchTakesPlan

/-! ### Plans, the take and a good frame -/

theorem State.LockFollowed.actuatorTakesPlan {s : State} (h : s.LockFollowed) (x : Damper) :
    (s.actuatorTakesPlan x).LockFollowed := by
  refine h.congr ?_ ?_
  · have other : Condition.channelLocked ≠ x.stallCondition := by cases x <;> decide
    simp [State.actuatorTakesPlan_active, other]
  · rw [State.actuatorTakesPlan_drive]
    cases x <;> rfl

theorem State.LockFollowed.handPlan {s : State} (h : s.LockFollowed) (q : Plan) : (s.handPlan q).LockFollowed := by
  have planned : (s.mapDrive fun d => { d with plan := q }).LockFollowed := h.congr rfl rfl
  exact (planned.blowerTakesPlan.settleHeater.clutchTakesPlan.actuatorTakesPlan .fresh).actuatorTakesPlan .blend

theorem State.LockFollowed.changeTake {s : State} (h : s.LockFollowed) (f : ShareUnit → ShareUnit) :
    (s.changeTake f).LockFollowed := by
  have taken : (s.mapShare f).LockFollowed := h.congr rfl rfl
  unfold State.changeTake
  dsimp only
  split
  · exact taken.handPlan _
  · exact taken

theorem State.LockFollowed.heardGood {s : State} (h : s.LockFollowed) : s.heardGood.LockFollowed := by
  have counted := (s.countReception_drivesAs false).lockFollowed h
  rw [State.heardGood, State.heardWellFormed_eq]
  have restarted := (State.mapLine_drivesAs (LineInterface.restartSilence (s.countReception false).params) _).lockFollowed counted
  unfold State.when
  split
  · exact ((State.lower_drivesAs rfl _).lockFollowed ((State.mapLine_drivesAs _ _).lockFollowed restarted)).changeTake _
  · exact restarted

end Sys2Proof.Machine
end

section
/-! The blower's ramp, clean runs, and the trips of driven channels (R121, R122, R124 to R127). -/

namespace Sys2Proof.Machine

/-! ### The end of an event of the channels -/

/-- An event of the channels, which leaves Node Control and the fresh actuator alone, ends with the Demand and Status timing. -/
theorem State.finish_channels {s u : State} (node : u.node = s.node) (dampers : u.drive.dampers = s.drive.dampers)
    (unmarked : u.line.unmarked = s.line.unmarked) :
    u.sameExcept [.line] (u.finish s) ∧ s.line.sameOutsideSlots (u.finish s).line := by
  have fresh : u.drive.fresh = s.drive.fresh := (DriveUnit.eq_of_dampers dampers).2 .fresh
  obtain ⟨blocks, same⟩ := State.finish_steady_frame (s := u) (b := s) fun parked => ⟨node ▸ parked, by rw [fresh]⟩
  exact ⟨blocks, LineInterface.sameOutsideSlots_trans (LineInterface.sameOutsideSlots_of_unmarked unmarked) same⟩

theorem State.air_of_sameExcept {bs : List Block} {s t : State} (h : s.sameExcept bs t) (other : Block.air ∉ bs) :
    t.air = s.air := by
  obtain ⟨-, -, -, -, -, -, air, -⟩ := h
  exact air.resolve_left other

/-! ### The stages settled without a fault -/

/-- The stages settled where the heater group meets no fault, since it rests in Off only where no stage is permitted: they are the
permitted ones while the group is Running, which goes Off with the last (R122). -/
theorem State.settleHeater_of_settled {s : State} (stands : s.drive.HeaterStands s.params)
    (rests : s.drive.heater.state = .off → s.stagesPermitted s = 0) : s.settleHeater = s.mapDrive fun d => { d with
      heater := if d.heater.state = .running ∧ s.stagesPermitted s = 0 then d.heater.turnOff else d.heater
      stages := if d.heater.state = .running then s.stagesPermitted s else 0 } := by
  have kept (left : s.drive.heater.state ≠ .running) : s = s.mapDrive fun d => { d with
      heater := if d.heater.state = .running ∧ s.stagesPermitted s = 0 then d.heater.turnOff else d.heater
      stages := if d.heater.state = .running then s.stagesPermitted s else 0 } := by
    have none := stands.stages_eq left
    simp only [State.mapDrive, left, false_and, if_false]
    rw [← none]
  unfold State.settleHeater
  cases state : s.drive.heater.state with
  | off =>
    rw [State.interlockPermits_eq (.inl state)]
    dsimp only
    rw [if_pos (rests state)]
    exact kept (by simp [state])
  | running =>
    rw [State.interlockPermits_eq (.inr state)]
    by_cases none : s.stagesPermitted s = 0 <;> simp [State.mapDrive, none, state]
  | _ => exact kept (by simp [state])

/-- Under the laws of the stages the interlock permits those of the plan to a Running heater group, and none to one in Off (R122). -/
theorem State.stagesPermitted_of_settled {s : State} (stands : s.drive.HeaterStands s.params)
    (settled : s.drive.StagesSettled s.params) : (s.drive.heater.state = .off → s.stagesPermitted s = 0) ∧
      (s.drive.heater.state = .running → s.stagesPermitted s = s.drive.plan.stages ∧ s.stagesPermitted s ≠ 0) := by
  refine ⟨fun off => ?_, fun running => ?_⟩
  · by_contra some
    obtain ⟨⟨driving, duty⟩, plan⟩ := State.interlock_permits some
    rcases settled.off off with undriven | low | none
    · exact absurd (undriven.symm.trans driving) (by decide)
    · omega
    · exact some (plan.trans none)
  · have some := stands.on.2 running
    have within := settled.within
    rw [State.stagesPermitted, if_pos (settled.permitted some)]
    exact ⟨rfl, by omega⟩

/-! ### The ramp and the clean run -/

/-- The ramp's figure, and the blower when it reaches the plan duty (R121, R127). -/
theorem DriveUnit.rampExpired_eq (d : DriveUnit) : d.rampExpired =
    let duty := min d.plan.duty (d.duty + 10)
    { d with
      duty := duty
      ramp := if duty < d.plan.duty then .running 0 else .stopped
      blower := if duty < d.plan.duty ∨ d.blower.state = .running then d.blower
        else { d.blower with state := .running, cleanRun := .running 0 } } := by
  unfold DriveUnit.rampExpired OutputChannel.run
  dsimp only
  split
  next below => simp [below, Timer.start]
  next reached =>
    by_cases running : d.blower.state = .running <;> simp [reached, running, Timer.start]

/-- After a step of the ramp a Running heater group drives the stages of the plan, and any other has none (R122). -/
theorem State.ramp_settled {s : State} (sound : s.OutputsSound) (driving : s.drive.blower.driving = true) :
    (s.mapDrive DriveUnit.rampExpired).settleHeater = s.mapDrive fun d => { d.rampExpired with
      stages := if d.heater.state = .running then d.plan.stages else 0 } := by
  obtain ⟨channels, follow⟩ := DriveUnit.rampExpired_stands sound.drive.stand sound.drive.follow driving
  have heater : s.drive.rampExpired.heater = s.drive.heater := by rw [DriveUnit.rampExpired_eq]
  have stages : s.drive.rampExpired.stages = s.drive.stages := by rw [DriveUnit.rampExpired_eq]
  have plan : s.drive.rampExpired.plan = s.drive.plan := by rw [DriveUnit.rampExpired_eq]
  have drives : s.drive.rampExpired.blower.driving = true := by
    rw [DriveUnit.rampExpired_eq]
    dsimp only
    split
    · exact driving
    · rfl
  have settled : s.drive.rampExpired.StagesSettled s.params := by
    obtain ⟨within, -, off⟩ := sound.drive.stages
    refine ⟨by rwa [stages, plan], fun _ => ⟨drives, channels.blower.on drives⟩, fun rests => ?_⟩
    rcases off (heater ▸ rests) with undriven | low | none
    · exact absurd (undriven.symm.trans driving) (by decide)
    · exact absurd (sound.drive.stand.blower.on driving) (Nat.not_le.2 low)
    · exact .inr (.inr (by rw [plan, none]))
  obtain ⟨rests, runs⟩ := State.stagesPermitted_of_settled (s := s.mapDrive DriveUnit.rampExpired) channels.heater settled
  rw [State.settleHeater_of_settled channels.heater rests]
  simp only [State.mapDrive_drive, plan] at rests runs
  generalize (s.mapDrive DriveUnit.rampExpired).stagesPermitted (s.mapDrive DriveUnit.rampExpired) = n at *
  simp only [State.mapDrive, ← heater]
  by_cases running : s.drive.rampExpired.heater.state = .running
  · obtain ⟨rfl, some⟩ := runs running
    simp [running, some]
  · simp [running]

/-- Settles O49: a step of the ramp by `State.ramp_settled`. -/
theorem rampAndCleanRun : Obligations.RampAndCleanRun := by
  refine ⟨fun s inv ramp driving => ?_, fun c s runs => congrArg Host.Outcome.next (if_pos runs)⟩
  have settled := State.ramp_settled inv.outputsSound driving
  have drive : (s.mapDrive DriveUnit.rampExpired).settleHeater.drive = _ := congrArg State.drive settled
  obtain ⟨ending, same⟩ := State.finish_channels (s := s) (u := (s.mapDrive DriveUnit.rampExpired).settleHeater)
    (by simp) (by rw [settled]; simp [DriveUnit.dampers, DriveUnit.rampExpired_eq]) (by simp)
  have blocks : s.sameExcept [.drive, .line] ((s.mapDrive DriveUnit.rampExpired).settleHeater) := by
    rw [settled]
    simp [State.sameExcept]
  refine ⟨_, congrArg Host.Outcome.next (if_pos ⟨ramp, driving⟩), ?_⟩
  have kept := State.drive_of_sameExcept ending (by decide)
  have blocks := State.sameExcept_trans blocks ending (by decide)
  generalize ((s.mapDrive DriveUnit.rampExpired).settleHeater).finish s = t at *
  rw [drive, State.mapDrive_drive, DriveUnit.rampExpired_eq] at kept
  rw [kept]
  exact ⟨rfl, rfl, rfl, rfl, rfl, rfl, rfl, rfl, rfl, same, blocks⟩

end Sys2Proof.Machine
end

section
/-! The trips of driven channels, with what the heater interlock and the short-cycle timers make of them (R95, R122 to R127). -/

namespace Sys2Proof.Machine

/-! ### A trip beside its channel -/

theorem State.tripChannel_channel (c : Channel) (k : TripCause) (s : State) :
    (s.tripChannel c k).drive.channel c = (s.drive.channel c).trip (s.overCurrent c) := by
  rw [State.tripChannel_drive, DriveUnit.channel_setChannel]

theorem State.tripChannel_channel_of_ne (k : TripCause) (s : State) {c d : Channel} (other : d ≠ c) :
    (s.tripChannel c k).drive.channel d = s.drive.channel d := by
  rw [State.tripChannel_drive, DriveUnit.channel_setChannel_of_ne _ _ other, DriveUnit.outputOff_channel]

/-- A trip of the driven clutch reports its output released (R95, R123). -/
theorem State.tripChannel_air_eq (c : Channel) (k : TripCause) (s : State) : (s.tripChannel c k).air =
    if c = .clutch ∧ s.clutchDriven = true then s.air.clutchReleased else s.air := by
  by_cases clutch : c = .clutch
  · cases driven : s.clutchDriven with
    | false => simp [State.tripChannel_air_of_undriven driven]
    | true =>
      subst clutch
      rw [if_pos ⟨rfl, rfl⟩]
      simp only [State.tripChannel, driven, decide_true, Bool.and_true, State.when_true, State.mapAir_air]
      unfold State.when
      split <;> simp
  · simp [State.tripChannel_air c k s clutch, clutch]

/-- The blower's trip puts off the stages with it; any other leaves the heater group, or is its own (R122, R124). -/
theorem State.trip_settled {s : State} (sound : s.OutputsSound) {c : Channel} (driving : (s.drive.channel c).driving = true)
    (k : TripCause) : s.trip c k = (s.tripChannel c k).mapDrive fun d => { d with
      heater := if c = .blower ∧ d.heater.state = .running then d.heater.turnOff else d.heater
      stages := if c = .clutch ∧ d.heater.state = .running then d.plan.stages else 0 } := by
  have driven := (OutputChannel.driving_iff _).1 driving
  have fitted : (s.drive.channel c).state ≠ .disabled := by rcases driven with state | state <;> simp [state]
  have drive := s.tripChannel_drive c k
  have tripped := (OutputChannel.states_of_afterTrip ((s.drive.channel c).trip_afterTrip (s.overCurrent c)))
  have stands : (s.tripChannel c k).drive.HeaterStands (s.tripChannel c k).params := by
    rw [drive, (s.tripChannel_frame c k).1]
    exact (sound.drive.stand.trip fitted _).heater
  rw [State.trip]
  cases c with
  | blower =>
    have none : (s.tripChannel .blower k).stagesPermitted (s.tripChannel .blower k) = 0 := by
      refine if_neg fun ⟨drives, _⟩ => ?_
      rw [drive] at drives
      exact absurd (tripped.1.symm.trans drives) (by decide)
    rw [State.settleHeater_of_settled stands fun _ => none, none]
    simp
  | heater =>
    have left : (s.tripChannel .heater k).drive.heater.state ≠ .off ∧ (s.tripChannel .heater k).drive.heater.state ≠ .running := by
      obtain ⟨-, -, off, -, running⟩ := tripped
      rw [drive]
      exact ⟨off, running⟩
    rw [State.settleHeater_of_settled stands fun off => absurd off left.1]
    simp [State.mapDrive, left.2]
  | clutch =>
    have settled : (s.tripChannel .clutch k).drive.StagesSettled (s.tripChannel .clutch k).params := by
      rw [drive, (s.tripChannel_frame .clutch k).1]
      exact sound.drive.stages.congr rfl rfl rfl rfl rfl
    obtain ⟨rests, runs⟩ := State.stagesPermitted_of_settled stands settled
    rw [State.settleHeater_of_settled stands rests]
    by_cases running : (s.tripChannel .clutch k).drive.heater.state = .running
    · obtain ⟨permitted, some⟩ := runs running
      rw [permitted] at some ⊢
      simp [State.mapDrive, running, some]
    · simp [State.mapDrive, running]

/-! ### What a trip has made -/

/-- What a trip of the driven channel `c` has made of `s` in `t` (R95, R122 to R127). -/
structure State.TrippedBy (c : Channel) (k : TripCause) (s t : State) : Prop where
  channel : t.drive.channel c = (s.drive.channel c).trip (s.overCurrent c)
  others : ∀ d : Channel, d ≠ c → (t.drive.channel d).trips = (s.drive.channel d).trips ∧
    ((t.drive.channel d).state = (s.drive.channel d).state ∨ (d = .heater ∧ c = .blower ∧ (t.drive.channel d).state = .off))
  blower : c = .blower → t.drive.duty = 0 ∧ t.drive.ramp = .stopped ∧ t.drive.stall = .stopped ∧ t.drive.pwm.figure = 0 ∧
    t.drive.clutch = s.drive.clutch
  stages : c ≠ .clutch → t.drive.stages = 0
  dampers : t.drive.dampers = s.drive.dampers
  condition : inSet t.cond.active (k.condition c) = true
  locked : t.LockFollowed
  air : t.air = if c = .clutch ∧ s.clutchDriven = true then s.air.clutchReleased else s.air
  line : s.line.sameOutsideSlots t.line
  blocks : s.sameExcept [.air, .drive, .cond, .line] t

theorem State.trip_tripped {s : State} (sound : s.OutputsSound) (lock : s.LockFollowed) {c : Channel}
    (driving : (s.drive.channel c).driving = true) (k : TripCause) {b : State} (node : b.node = s.node) (drive : b.drive = s.drive)
    (line : b.line = s.line) : s.TrippedBy c k ((s.trip c k).finish b) := by
  have driven := (OutputChannel.driving_iff _).1 driving
  have unlocked : (s.drive.channel c).state ≠ .locked := by rcases driven with state | state <;> simp [state]
  have follows : (s.trip c k).LockFollowed := (lock.tripChannel k unlocked).settleHeater
  have settled := State.trip_settled sound driving k
  obtain ⟨ending, same⟩ := State.finish_channels (s := b) (u := s.trip c k) (by simp [node]) (by simp [drive]) (by simp [line])
  have tripBlocks : s.sameExcept [.air, .drive, .cond, .line] (s.trip c k) := by simp [State.sameExcept]
  have dampers := s.trip_dampers c k
  have keptDrive := State.drive_of_sameExcept ending (by decide)
  have keptCond := State.cond_of_sameExcept ending (by decide)
  have keptAir := State.air_of_sameExcept ending (by decide)
  have blocks := State.sameExcept_trans tripBlocks ending (by decide)
  have drive' : (s.trip c k).drive = _ := congrArg State.drive settled
  have cond' : (s.trip c k).cond = (s.tripChannel c k).cond := by rw [settled]; rfl
  have air' : (s.trip c k).air = (s.tripChannel c k).air := by rw [settled]; rfl
  rw [State.mapDrive_drive] at drive'
  generalize (s.trip c k).finish b = t at *
  generalize s.trip c k = u at *
  rw [line] at same
  constructor
  case channel =>
    rw [keptDrive, drive', ← s.tripChannel_channel c k]
    cases c <;> simp [DriveUnit.channel]
  case others =>
    intro d other
    rw [keptDrive, drive', ← s.tripChannel_channel_of_ne k other]
    cases d with
    | heater =>
      by_cases off : c = .blower ∧ (s.tripChannel c k).drive.heater.state = .running
      · obtain ⟨rfl, running⟩ := off
        simp [DriveUnit.channel, running, OutputChannel.turnOff]
      · simp [DriveUnit.channel, off]
    | _ => exact ⟨rfl, .inl rfl⟩
  case blower =>
    rintro rfl
    rw [keptDrive, drive', State.tripChannel_drive]
    exact ⟨rfl, rfl, rfl, rfl, rfl⟩
  case stages =>
    intro other
    rw [keptDrive, drive']
    exact if_neg fun clutch => other clutch.1
  case dampers => rw [keptDrive, dampers]
  case condition =>
    rw [keptCond, cond', State.tripChannel_active]
    simp
  case locked => exact follows.congr (by rw [keptCond]) (by rw [keptDrive])
  case air => rw [keptAir, air', State.tripChannel_air_eq]
  case line => exact same
  case blocks => exact blocks

/-- The short-cycle timers follow the clutch output through a trip (R95, R123). -/
theorem State.TrippedBy.reported {s t : State} {c : Channel} {k : TripCause} (h : s.TrippedBy c k t) : s.clutchReported t ∧
    t.air = { s.air with minOn := t.air.minOn, minOff := t.air.minOff } := by
  by_cases clutch : c = .clutch
  · subst clutch
    have released : t.clutchDriven = false := by
      have tripped : t.drive.clutch = _ := h.channel
      rw [State.clutchDriven, tripped]
      exact decide_eq_false (OutputChannel.trip_not_running _ _)
    rw [State.clutchReported, released, h.air]
    cases s.clutchDriven <;> simp [AirUnit.clutchReleased, Timer.start]
  · have air : t.air = s.air := h.air.trans (if_neg fun driven => clutch driven.1)
    have kept : t.clutchDriven = s.clutchDriven := by
      obtain ⟨-, state | ⟨heater, -⟩⟩ := h.others .clutch (Ne.symm clutch)
      · rw [State.clutchDriven, State.clutchDriven, show t.drive.clutch.state = s.drive.clutch.state from state]
      · exact absurd heater (by decide)
    rw [State.clutchReported, kept, air]
    simp

/-- A channel after a trip (R124, R126, R127). -/
theorem OutputChannel.trip_eq (asserted : Bool) (c : OutputChannel) : c.trip asserted =
    { state := if 2 ≤ c.trips then .locked else if asserted then .tripped else .cooldown
      trips := min 3 (c.trips + 1)
      cleanRun := .stopped
      cooldown := if 2 ≤ c.trips ∨ asserted = true then .stopped else .running 0 } := by
  unfold OutputChannel.trip
  by_cases third : 2 ≤ c.trips
  · simp [third]
  · simp only [third, show min 3 (c.trips + 1) ≠ 3 by omega]
    cases asserted <;> simp [Timer.start]

theorem State.sameExcept_of_air {bs : List Block} {s t : State} (h : s.sameExcept (.air :: bs) t) (air : t.air = s.air) :
    s.sameExcept bs t := by
  simpa [State.sameExcept, air] using h

/-! ### The statement -/

/-- Settles O47, by `State.trip_tripped` for both causes. -/
theorem tripsCutOff : Obligations.TripsCutOff := by
  refine ⟨fun c s inv accepts => ?asserted, fun s inv stall running => ?stall⟩
  case asserted =>
    refine ⟨((s.accept c.line true).when (s.drive.channel c).driving (State.trip c .overCurrent)).finish s,
      congrArg Host.Outcome.next (if_pos accepts), ?_⟩
    cases driving : (s.drive.channel c).driving with
    | false => exact ⟨fun _ => s.accept_finish _ _, nofun, nofun⟩
    | true =>
      rw [State.when_true]
      refine ⟨nofun, fun _ => ?_, fun _ second => ?_⟩
      · have sound : (s.accept c.line true).OutputsSound := inv.outputsSound.mapInput _
        have tripped := State.trip_tripped (b := s) sound (inv.lockFollowed.congr rfl rfl) driving .overCurrent rfl rfl rfl
        have asserted : (s.accept c.line true).overCurrent c = true := (State.accept_spec c.line true s).1
        generalize ((s.accept c.line true).trip c .overCurrent).finish s = t at *
        obtain ⟨reported, air⟩ := tripped.reported
        obtain ⟨channel, others, blower, stages, dampers, condition, locked, -, line, blocks⟩ := tripped
        obtain ⟨plan, actuators⟩ := DriveUnit.eq_of_dampers dampers
        rw [asserted, OutputChannel.trip_eq] at channel
        rw [channel]
        refine ⟨rfl, rfl, rfl, condition, locked, fun own => ?_, fun own => stages (by rw [own]; decide), reported, air, others, plan,
          actuators .fresh, actuators .blend, State.input_of_sameExcept blocks (by decide), line,
          State.sameExcept_trans (by simp [State.sameExcept]) blocks (by decide)⟩
        obtain ⟨duty, ramp, stall, figure, -⟩ := blower own
        exact ⟨duty, ramp, stall, stages (by rw [own]; decide), figure⟩
      · exact congrArg Host.Outcome.next (if_pos ⟨by simp [State.tripsBy, accepts, driving], second⟩)
  case stall =>
    refine ⟨_, congrArg Host.Outcome.next (if_pos ⟨stall, running⟩), ?_⟩
    have tripped := State.trip_tripped (c := .blower) (b := s) inv.outputsSound inv.lockFollowed
      (by simp [OutputChannel.driving, DriveUnit.channel, running]) .stall rfl rfl rfl
    have event (second : s.drive.blower.trips = 2) : exec (.channelLock .blower .stall) s = .next ((s.trip .blower .stall).finish s) :=
      congrArg Host.Outcome.next (if_pos ⟨by simp [State.tripsBy, stall, running], second⟩)
    generalize (s.trip .blower .stall).finish s = t at *
    obtain ⟨channel, -, blower, stages, dampers, condition, locked, air, line, blocks⟩ := tripped
    obtain ⟨plan, -⟩ := DriveUnit.eq_of_dampers dampers
    obtain ⟨duty, ramp, stall, -, clutch⟩ := blower rfl
    have blower : t.drive.blower = s.drive.blower.trip (s.overCurrent .blower) := channel
    rw [OutputChannel.trip_eq] at blower
    rw [blower]
    refine ⟨rfl, rfl, fun cooldown => if_neg ?_, condition, locked, duty, stages (by decide), stall, ramp, clutch, plan, line,
      State.sameExcept_of_air blocks air, event⟩
    rintro (third | asserted)
    · simp [third] at cooldown
    · by_cases third : 2 ≤ s.drive.blower.trips <;> simp [third, asserted] at cooldown

end Sys2Proof.Machine
end

section
/-! The return of a channel from Cooldown or Locked to Off, and the plan in force taken up there (R119, R121 to R124, R126, R128). -/

namespace Sys2Proof.Machine

/-! ### Back in Off -/

/-- The state in which a channel back in Off takes up the plan in force (R119, R126, R128). -/
def State.backInOff (c : Channel) (s : State) : State :=
  let t := s.mapDrive fun d => d.setChannel { d.channel c with state := .off, cooldown := .stopped } c
  let u := t.endTrip c
  u.when (!u.drive.anyLocked) (State.lower .channelLocked)

theorem State.channelEntersOff_takes (c : Channel) (s : State) :
    s.channelEntersOff c = State.channelTakesPlan c (s.backInOff c) := rfl

@[simp] theorem State.backInOff_frame (c : Channel) (s : State) : (s.backInOff c).params = s.params ∧
    (s.backInOff c).input = s.input ∧ (s.backInOff c).air = s.air ∧
    (s.backInOff c).drive = s.drive.setChannel { s.drive.channel c with state := .off, cooldown := .stopped } c := by
  unfold State.backInOff State.when
  dsimp only
  split <;> simp

/-- The end of a trip ends its conditions: at the blower both of them (R126). -/
theorem State.endTrip_active (c : Channel) (s : State) (d : Condition) : inSet (s.endTrip c).cond.active d =
    (inSet s.cond.active d && !(decide (d = c.tripCondition) || (decide (c = .blower) && decide (d = .blowerStall)))) := by
  cases c <;> simp [State.endTrip, Channel.tripCondition, Bool.and_assoc] <;> rfl

theorem State.backInOff_active (c : Channel) (s : State) {d : Condition} (other : d ≠ .channelLocked) :
    inSet (s.backInOff c).cond.active d =
      (inSet s.cond.active d && !(decide (d = c.tripCondition) || (decide (c = .blower) && decide (d = .blowerStall)))) := by
  unfold State.backInOff State.when
  dsimp only
  split <;> simp [State.endTrip_active, other]

/-- ChannelLocked ends with the last channel that was Locked (R127, R128). -/
theorem State.LockFollowed.backInOff {s : State} (h : s.LockFollowed) (c : Channel) : (s.backInOff c).LockFollowed := by
  have before : inSet s.cond.active .channelLocked = s.drive.anyLocked := h
  have other : Condition.channelLocked ≠ c.tripCondition := by cases c <;> decide
  have fewer := DriveUnit.anyLocked_of_setChannel (d := s.drive) (c := c)
    (x := { s.drive.channel c with state := .off, cooldown := .stopped }) nofun
  rw [State.LockFollowed, State.follows, (s.backInOff_frame c).2.2.2]
  unfold State.backInOff
  dsimp only
  rw [(State.endTrip_frame c _).2.2.2.2.2.2.2.1, State.mapDrive_drive]
  cases locked : (s.drive.setChannel { s.drive.channel c with state := .off, cooldown := .stopped } c).anyLocked with
  | false => simp
  | true => simp [State.endTrip_active, other, before, fewer locked]

/-! ### The return rests on the channel's own part -/

/-- What a return has made rests on the configuration, the lines and the plan it found. -/
theorem State.channelReturned_of_found {s u t : State} {c : Channel} {trips : Nat} (h : u.channelReturned c trips t)
    (params : u.params = s.params) (input : u.input = s.input) (plan : u.drive.plan = s.drive.plan) :
    s.channelReturned c trips t := by
  simpa only [State.channelReturned, State.overCurrent_congr input, params, plan] using h

/-- What a return has made stays while the channel, its figures, its conditions and the plan do. -/
theorem State.channelReturned_congr {s t u : State} {c : Channel} {trips : Nat} (h : s.channelReturned c trips t)
    (params : u.params = t.params) (plan : u.drive.plan = t.drive.plan) (channel : u.drive.channel c = t.drive.channel c)
    (trip : inSet u.cond.active c.tripCondition = inSet t.cond.active c.tripCondition)
    (stall : c = .blower → inSet u.cond.active .blowerStall = inSet t.cond.active .blowerStall)
    (duty : c ≠ .clutch → u.drive.duty = t.drive.duty)
    (heater : c = .heater → u.drive.blower = t.drive.blower ∧ u.drive.stages = t.drive.stages) : s.channelReturned c trips u := by
  cases c with
  | blower =>
    have own : u.drive.blower = t.drive.blower := channel
    have wanted : u.driveWanted .blower = t.driveWanted .blower := by simp only [State.driveWanted, plan]
    simpa only [State.channelReturned, wanted, channel, own, trip, stall rfl, duty (by decide), reduceCtorEq, false_implies] using h
  | heater =>
    have own : u.drive.heater = t.drive.heater := channel
    obtain ⟨blower, stages⟩ := heater rfl
    have wanted : u.driveWanted .heater = t.driveWanted .heater := by
      simp only [State.driveWanted, params, plan, blower, duty (by decide)]
    simpa only [State.channelReturned, wanted, channel, own, stages, trip, reduceCtorEq, false_implies] using h
  | clutch =>
    have own : u.drive.clutch = t.drive.clutch := channel
    have wanted : u.driveWanted .clutch = t.driveWanted .clutch := by simp only [State.driveWanted, plan]
    simpa only [State.channelReturned, wanted, channel, own, trip, reduceCtorEq, false_implies] using h

/-! ### The plan taken up out of Off -/

section
variable {u : State}

theorem State.blowerTakesPlan_returned (off : u.drive.blower.state = .off) (duty : u.drive.duty = 0)
    (trip : inSet u.cond.active .blowerTrip = false) (stall : inSet u.cond.active .blowerStall = false) :
    u.channelReturned .blower u.drive.blower.trips u.blowerTakesPlan := by
  have plan : u.blowerTakesPlan.drive.plan = u.drive.plan := by rw [State.blowerTakesPlan_drive]
  obtain ⟨-, took⟩ := u.blowerTakesPlan_took
  have active := u.blowerTakesPlan_active
  rw [if_pos off, plan] at took
  simp only [State.channelReturned, State.driveWanted, plan, DriveUnit.channel, Channel.tripCondition, active, trip, stall, tripAdds,
    State.blowerMeetsFault, off]
  by_cases none : u.drive.plan.duty = 0
  · rw [if_pos none] at took
    obtain ⟨blower, figure, -⟩ := took
    simp [none, blower, figure, off, duty]
  · rw [if_neg none] at took
    by_cases asserted : u.overCurrent .blower = true
    · rw [if_pos asserted] at took
      obtain ⟨blower, figure, -⟩ := took
      simp [none, asserted, blower, figure]
    · rw [if_neg asserted] at took
      split at took
      next least =>
        obtain ⟨blower, figure, -⟩ := took
        simp [none, asserted, blower, figure, least]
      next ramps =>
        obtain ⟨blower, figure, -⟩ := took
        simp [none, asserted, blower, figure, ramps]

/-- The interlock permits stages of the plan exactly where the plan drives the heater group (R122). -/
theorem State.driveWanted_heater_iff {s t : State} (params : t.params = s.params) :
    t.driveWanted .heater = true ↔ s.stagesPermitted t ≠ 0 := by
  simp only [State.driveWanted, State.stagesPermitted, params, Bool.and_eq_true, decide_eq_true_eq]
  split
  next permits => exact and_iff_right permits
  next refuses => simp [refuses]

theorem State.settleHeater_returned (off : u.drive.heater.state = .off) (stages : u.drive.stages = 0)
    (trip : inSet u.cond.active .heaterTrip = false) : u.channelReturned .heater u.drive.heater.trips u.settleHeater := by
  have params : u.settleHeater.params = u.params := by simp
  have drive := u.settleHeater_drive
  have plan : u.settleHeater.drive.plan = u.drive.plan := by rw [drive]
  have permitted : u.stagesPermitted u.settleHeater = u.stagesPermitted u := by rw [State.stagesPermitted, drive]
  have wanted := State.driveWanted_heater_iff params
  have took := u.settleHeater_took
  have active := u.settleHeater_active
  rw [permitted] at wanted
  simp only [State.heaterTook, State.heaterMeetsFault, permitted, off, true_and] at took
  simp only [State.channelReturned, DriveUnit.channel, Channel.tripCondition, active, trip, tripAdds, State.heaterMeetsFault, off,
    wanted, true_and]
  by_cases none : u.stagesPermitted u = 0
  · simp only [none, ne_eq, not_true_eq_false, false_and, if_false, reduceCtorEq] at took
    simp [none, took, off, stages]
  · obtain ⟨-, stagesPlan⟩ := State.interlock_permits none
    by_cases asserted : u.overCurrent .heater = true
    · rw [if_pos ⟨none, asserted⟩] at took
      simp [none, asserted, took]
    · rw [if_neg fun met => asserted met.2, if_pos none] at took
      simp [none, asserted, took, ← stagesPlan]

theorem State.clutchTakesPlan_returned (off : u.drive.clutch.state = .off) (trip : inSet u.cond.active .clutchTrip = false) :
    u.channelReturned .clutch u.drive.clutch.trips u.clutchTakesPlan := by
  have plan : u.clutchTakesPlan.drive.plan = u.drive.plan := by rw [State.clutchTakesPlan_drive]
  have took := u.clutchTakesPlan_took
  have active := u.clutchTakesPlan_active
  simp only [State.clutchTook, State.clutchMeetsFault, plan, off, true_and] at took
  simp only [State.channelReturned, State.driveWanted, plan, DriveUnit.channel, Channel.tripCondition, active, trip, tripAdds,
    State.clutchMeetsFault, off, true_and]
  by_cases called : u.drive.plan.clutch = true
  · by_cases asserted : u.overCurrent .clutch = true
    · rw [if_pos ⟨called, asserted⟩] at took
      simp [called, asserted, took]
    · rw [if_neg fun met => asserted met.2, if_pos called] at took
      simp [called, asserted, took]
  · rw [if_neg fun met => called met.1, if_neg called, if_neg (by simp)] at took
    simp [called, took, off]

/-- A channel in Off with its trip ended takes up the plan in force (R119, R121 to R124). -/
theorem State.channelTakesPlan_returned {c : Channel} (off : (u.drive.channel c).state = .off)
    (trip : inSet u.cond.active c.tripCondition = false) (stall : c = .blower → inSet u.cond.active .blowerStall = false)
    (duty : c = .blower → u.drive.duty = 0) (stages : c = .heater → u.drive.stages = 0) :
    u.channelReturned c (u.drive.channel c).trips (State.channelTakesPlan c u) := by
  cases c with
  | blower =>
    have drive := u.blowerTakesPlan.settleHeater_drive
    refine State.channelReturned_congr (State.blowerTakesPlan_returned off (duty rfl) trip (stall rfl)) (by simp [State.channelTakesPlan])
      ?_ ?_ ?_ (fun _ => ?_) (fun _ => ?_) nofun
    all_goals rw [State.channelTakesPlan]
    · rw [drive]
    · rw [drive]; rfl
    · simp [State.settleHeater_active, tripAdds, Channel.tripCondition]
    · simp [State.settleHeater_active, tripAdds, Channel.tripCondition]
    · rw [drive]
  | heater => exact State.settleHeater_returned off (stages rfl) trip
  | clutch => exact State.clutchTakesPlan_returned off trip

end

end Sys2Proof.Machine
end

section
/-! What the return of a channel to Off makes of the part, and the channels that come back: after Cooldown, and by a Channel Unlock
(R119, R121 to R124, R126, R128). -/

namespace Sys2Proof.Machine

/-! ### One channel returned -/

theorem State.clutchReported_of_kept {s t : State} (driven : t.clutchDriven = s.clutchDriven) (air : t.air = s.air) :
    s.clutchReported t := by
  simp [State.clutchReported, driven, air]

/-- Only a heater group in Off or Running has its stages settled (R122). -/
theorem State.settleHeater_of_left {s : State} (off : s.drive.heater.state ≠ .off) (running : s.drive.heater.state ≠ .running) :
    s.settleHeater = s := by
  unfold State.settleHeater
  cases state : s.drive.heater.state with
  | off => exact absurd state off
  | running => exact absurd state running
  | _ => rfl

/-- What the return of `c` to Off with this trip count has made of `s` in `t` (R119, R121 to R124, R126, R128). -/
structure State.ReturnedTo (c : Channel) (trips : Nat) (s t : State) : Prop where
  returned : s.channelReturned c trips t
  others : ∀ d : Channel, d ≠ c → (c = .blower → d = .heater → s.drive.heater.state ≠ .off) →
    t.drive.channel d = s.drive.channel d
  duty : c ≠ .blower → t.drive.duty = s.drive.duty
  stages : c = .clutch → t.drive.stages = s.drive.stages
  dampers : t.drive.dampers = s.drive.dampers
  active : c ≠ .blower → ∀ d : Condition, d ≠ c.tripCondition → d ≠ .channelLocked →
    inSet t.cond.active d = inSet s.cond.active d
  unclutched : c ≠ .clutch → t.air = s.air
  reported : s.clutchReported t
  air : t.air = { s.air with minOn := t.air.minOn, minOff := t.air.minOff }
  unmarked : t.line.unmarked = s.line.unmarked
  blocks : s.sameExcept [.air, .drive, .cond, .line] t

/-- The taking up of a plan by one channel touches no other, but for the stages settled after the blower. -/
theorem State.channelTakesPlan_channel_of_ne {u : State} {c d : Channel} (other : d ≠ c)
    (left : c = .blower → d = .heater → u.drive.heater.state ≠ .off ∧ u.drive.heater.state ≠ .running) :
    (State.channelTakesPlan c u).drive.channel d = u.drive.channel d := by
  cases c with
  | blower =>
    have drive := u.blowerTakesPlan_drive
    cases d with
    | blower => exact absurd rfl other
    | heater =>
      have heater : u.blowerTakesPlan.drive.heater = u.drive.heater := by rw [drive]
      obtain ⟨off, running⟩ := left rfl rfl
      rw [State.channelTakesPlan, State.settleHeater_of_left (by rwa [heater]) (by rwa [heater])]
      exact heater
    | clutch => rw [State.channelTakesPlan, State.settleHeater_drive, drive]; rfl
  | heater =>
    rw [State.channelTakesPlan, State.settleHeater_drive]
    cases d
    exacts [rfl, absurd rfl other, rfl]
  | clutch =>
    rw [State.channelTakesPlan, State.clutchTakesPlan_drive]
    cases d
    exacts [rfl, rfl, absurd rfl other]

theorem State.channelTakesPlan_air {u : State} {c : Channel} (other : c ≠ .clutch) : (State.channelTakesPlan c u).air = u.air := by
  cases c with
  | clutch => exact absurd rfl other
  | _ => simp [State.channelTakesPlan]

/-- A channel that waited after a trip returns to Off and takes up the plan in force (R126, R128). -/
theorem State.channelEntersOff_returned {s : State} (sound : s.OutputsSound) {c : Channel}
    (waits : (s.drive.channel c).state.afterTrip = true) : s.ReturnedTo c (s.drive.channel c).trips (s.channelEntersOff c) := by
  obtain ⟨undriven, -, -, -, stopped⟩ := OutputChannel.states_of_afterTrip waits
  obtain ⟨params, input, air, drive⟩ := s.backInOff_frame c
  have channel : (s.backInOff c).drive.channel c = { s.drive.channel c with state := .off, cooldown := .stopped } := by
    rw [drive, DriveUnit.channel_setChannel]
  have others {d : Channel} (other : d ≠ c) : (s.backInOff c).drive.channel d = s.drive.channel d := by
    rw [drive, DriveUnit.channel_setChannel_of_ne _ _ other]
  have duty : (s.backInOff c).drive.duty = s.drive.duty := by rw [drive]; cases c <;> rfl
  have stages : (s.backInOff c).drive.stages = s.drive.stages := by rw [drive]; cases c <;> rfl
  have plan : (s.backInOff c).drive.plan = s.drive.plan := by rw [drive]; cases c <;> rfl
  have active {d : Condition} := s.backInOff_active c (d := d)
  have dampers := s.channelEntersOff_dampers c
  have unmarked := s.channelEntersOff_unmarked c
  have blocks : s.sameExcept [.air, .drive, .cond, .line] (s.channelEntersOff c) := by simp [State.sameExcept]
  rw [State.channelEntersOff_takes] at *
  generalize s.backInOff c = u at *
  constructor
  case returned =>
    have trip : c.tripCondition ≠ .channelLocked := by cases c <;> decide
    have taken := State.channelTakesPlan_returned (u := u) (c := c) (by rw [channel]) (by rw [active trip]; simp)
      (fun own => by rw [active (by decide)]; simp [own])
      (fun own => by subst own; rw [duty]; exact sound.drive.stand.blower.off undriven)
      (fun own => by subst own; rw [stages]; exact sound.drive.stand.heater.stages_eq stopped)
    rw [channel] at taken
    exact State.channelReturned_of_found taken params input plan
  case others =>
    intro d other left
    rw [State.channelTakesPlan_channel_of_ne other, others other]
    rintro rfl rfl
    have heater : u.drive.heater = s.drive.heater := others other
    rw [heater]
    refine ⟨left rfl rfl, fun running => ?_⟩
    have driving := (sound.drive.stages.permitted (sound.drive.stand.heater.on.2 running)).1
    exact absurd (undriven.symm.trans driving) (by decide)
  case duty =>
    intro other
    rw [← duty]
    cases c with
    | blower => exact absurd rfl other
    | heater => rw [State.channelTakesPlan, State.settleHeater_drive]
    | clutch => rw [State.channelTakesPlan, State.clutchTakesPlan_drive]
  case stages =>
    rintro rfl
    rw [← stages, State.channelTakesPlan, State.clutchTakesPlan_drive]
  case dampers => exact dampers
  case active =>
    intro other d trip lock
    have kept : inSet u.cond.active d = inSet s.cond.active d := by rw [active lock]; simp [trip, other]
    rw [← kept]
    cases c with
    | blower => exact absurd rfl other
    | heater => simp [State.channelTakesPlan, State.settleHeater_active, tripAdds, trip, lock]
    | clutch => simp [State.channelTakesPlan, State.clutchTakesPlan_active, tripAdds, trip, lock]
  case unclutched => exact fun other => (State.channelTakesPlan_air other).trans air
  case reported =>
    by_cases clutch : c = .clutch
    · subst clutch
      have found : u.clutchDriven = s.clutchDriven := by
        have off : u.drive.clutch.state = .off := congrArg OutputChannel.state channel
        have rests : s.drive.clutch.state ≠ .running := stopped
        simp [State.clutchDriven, off, rests]
      rw [State.channelTakesPlan]
      simpa only [State.clutchReported, found, air] using u.clutchTakesPlan_reported.1
    · have kept : (State.channelTakesPlan c u).drive.clutch = s.drive.clutch :=
        (State.channelTakesPlan_channel_of_ne (d := .clutch) (Ne.symm clutch) nofun).trans (others (Ne.symm clutch))
      exact State.clutchReported_of_kept (by rw [State.clutchDriven, kept]; rfl) ((State.channelTakesPlan_air clutch).trans air)
  case air =>
    by_cases clutch : c = .clutch
    · subst clutch
      rw [← air]
      exact u.clutchTakesPlan_reported.2
    · rw [State.channelTakesPlan_air clutch, air]
  case unmarked => exact unmarked
  case blocks => exact blocks

/-! ### Several channels unlocked -/

/-- What a return has made rests on the channel that waited by its trip count alone. -/
theorem State.ReturnedTo.of_counted {s t : State} {c : Channel} {trips n : Nat}
    (h : (s.mapDrive fun d => d.setChannel { d.channel c with trips := n } c).ReturnedTo c trips t) : s.ReturnedTo c trips t := by
  obtain ⟨returned, others, duty, stages, dampers, active, unclutched, reported, air, unmarked, blocks⟩ := h
  rw [State.mapDrive_drive] at others duty stages dampers
  have heater : (s.drive.setChannel { s.drive.channel c with trips := n } c).heater.state = s.drive.heater.state := by
    cases c <;> rfl
  constructor
  case returned => exact State.channelReturned_of_found returned rfl rfl (by cases c <;> rfl)
  case others =>
    intro d other left
    rw [others d other (heater ▸ left), DriveUnit.channel_setChannel_of_ne _ _ other]
  case duty => exact fun other => (duty other).trans (by cases c <;> rfl)
  case stages => exact fun own => (stages own).trans (by cases c <;> rfl)
  case dampers => exact dampers.trans (DriveUnit.setChannel_dampers _ _ _)
  case active => exact active
  case unclutched => exact unclutched
  case reported =>
    have driven : (s.mapDrive fun d => d.setChannel { d.channel c with trips := n } c).clutchDriven = s.clutchDriven := by
      cases c <;> rfl
    simpa only [State.clutchReported, driven, State.mapDrive_air] using reported
  case air => exact air
  case unmarked => exact unmarked
  case blocks => exact State.sameExcept_trans (by simp [State.sameExcept]) blocks (List.Subset.refl _)

/-- A Channel Unlock of a Locked channel returns it to Off with its trip count at 0 (R128). -/
theorem State.unlockChannel_returned {s : State} (sound : s.OutputsSound) {c : Channel}
    (locked : (s.drive.channel c).state = .locked) : s.ReturnedTo c 0 (s.unlockChannel c) := by
  have counted := sound.setChannel (c := c) (x := { s.drive.channel c with trips := 0 }) (.of_state rfl)
  have returned := State.channelEntersOff_returned counted (c := c) (by simp [locked, ChannelState.afterTrip])
  rw [State.unlockChannel, if_pos locked]
  simp only [State.mapDrive_drive, DriveUnit.channel_setChannel] at returned
  exact returned.of_counted

theorem State.LockFollowed.channelEntersOff {s : State} (h : s.LockFollowed) (c : Channel) : (s.channelEntersOff c).LockFollowed :=
  (h.backInOff c).channelTakesPlan c

theorem State.LockFollowed.unlockChannel {s : State} (h : s.LockFollowed) (c : Channel) : (s.unlockChannel c).LockFollowed := by
  unfold State.unlockChannel
  split
  · have counted : (s.mapDrive fun d => d.setChannel { d.channel c with trips := 0 } c).LockFollowed := by
      refine h.congr rfl (DriveUnit.anyLocked_congr fun e => ?_)
      by_cases same : e = c
      · subst same
        simp
      · rw [State.mapDrive_drive, DriveUnit.channel_setChannel_of_ne _ _ same]
    exact counted.channelEntersOff c
  · exact h

/-- What the unlocking of the channels of `done` has made of `h` in `t`, the clutch last (R128; log entries 42 and 44). -/
structure State.UnlockedTo (done : Channel → Bool) (h t : State) : Prop where
  sound : t.OutputsSound
  locked : t.LockFollowed
  returned : ∀ c, done c = true → (h.drive.channel c).state = .locked → h.channelReturned c 0 t
  kept : ∀ c, done c = false ∨ (h.drive.channel c).state ≠ .locked → c ≠ .heater ∨ h.drive.heater.state ≠ .off →
    t.drive.channel c = h.drive.channel c
  dampers : t.drive.dampers = h.drive.dampers
  unclutched : done .clutch = false → t.air = h.air
  reported : h.clutchReported t
  air : t.air = { h.air with minOn := t.air.minOn, minOff := t.air.minOff }
  unmarked : t.line.unmarked = h.line.unmarked
  blocks : h.sameExcept [.air, .drive, .cond, .line] t

theorem Channel.tripCondition_inj {c d : Channel} (h : c.tripCondition = d.tripCondition) : c = d := by
  revert h
  cases c <;> cases d <;> decide

/-- The next channel of a Channel Unlock, in the order blower, heater group, clutch, judged as the earlier ones leave it (R128; log
entries 42 and 44). -/
theorem State.UnlockedTo.next {done : Channel → Bool} {h t : State} (u : h.UnlockedTo done t) (b : Bool) {c : Channel}
    (undone : done c = false) (unclutched : done .clutch = false) (last : ∀ d, done d = true → c ≠ .blower) :
    h.UnlockedTo (fun d => done d || (b && decide (d = c))) (t.when b (State.unlockChannel c)) := by
  by_cases unlocks : b = true ∧ (t.drive.channel c).state = .locked
  · obtain ⟨rfl, locked⟩ := unlocks
    have step := State.unlockChannel_returned u.sound locked
    have sound := u.sound.unlockChannel c
    have follows := u.locked.unlockChannel c
    rw [State.when_true]
    generalize t.unlockChannel c = v at *
    have params : t.params = h.params := State.params_of_sameExcept u.blocks (by decide)
    have input : t.input = h.input := State.input_of_sameExcept u.blocks (by decide)
    have params' : v.params = t.params := State.params_of_sameExcept step.blocks (by decide)
    obtain ⟨plan, -⟩ := DriveUnit.eq_of_dampers u.dampers
    obtain ⟨plan', -⟩ := DriveUnit.eq_of_dampers step.dampers
    constructor
    case sound => exact sound
    case locked => exact follows
    case returned =>
      intro d named found
      by_cases same : d = c
      · subst same
        exact State.channelReturned_of_found step.returned params input plan
      · have before : done d = true := by simpa [same] using named
        have first := last d before
        have others (e : Channel) (other : e ≠ c) := step.others e other fun blower => absurd blower first
        refine State.channelReturned_congr (u.returned d before found) params' plan' (others d same) ?_ (fun _ => ?_)
          (fun _ => step.duty first) fun heater => ?_
        · exact step.active first _ (fun trip => same (Channel.tripCondition_inj trip)) (by cases d <;> decide)
        · exact step.active first _ (by cases c <;> decide) (by decide)
        · have clutch : c = .clutch := by
            cases c
            exacts [absurd rfl first, absurd heater same, rfl]
          exact ⟨others .blower (Ne.symm first), step.stages clutch⟩
    case kept =>
      intro d left off
      by_cases same : d = c
      · subst same
        rw [u.kept d (.inl undone) off] at locked
        simp [locked] at left
      · have found := u.kept d (by simpa [same] using left) off
        refine (step.others d same fun _ heater => ?_).trans found
        subst heater
        rw [show t.drive.heater = h.drive.heater from found]
        exact off.resolve_left (not_not_intro rfl)
    case dampers => exact step.dampers.trans u.dampers
    case unclutched =>
      intro rest
      have other : c ≠ .clutch := fun own => by simp [own] at rest
      exact (step.unclutched other).trans (u.unclutched unclutched)
    case reported =>
      have found : t.drive.clutch = h.drive.clutch := u.kept .clutch (.inl unclutched) (.inl (by decide))
      by_cases clutch : c = .clutch
      · exact State.clutchReported_congr step.reported found (u.unclutched unclutched) rfl rfl
      · have kept : v.drive.clutch = t.drive.clutch := step.others .clutch (Ne.symm clutch) nofun
        exact State.clutchReported_congr u.reported rfl rfl kept.symm (step.unclutched clutch).symm
    case air => rw [step.air, u.air]
    case unmarked => exact step.unmarked.trans u.unmarked
    case blocks => exact State.sameExcept_trans u.blocks step.blocks (List.Subset.refl _)
  · have stays : t.when b (State.unlockChannel c) = t := by
      cases b with
      | false => rfl
      | true => exact if_neg fun locked => unlocks ⟨rfl, locked⟩
    rw [stays]
    refine { u with returned := fun d named found => ?_, kept := fun d left off => ?_, unclutched := fun _ => u.unclutched unclutched }
    · by_cases before : done d = true
      · exact u.returned d before found
      · obtain ⟨asked, rfl⟩ : b = true ∧ d = c := by simpa [before] using named
        have left : d ≠ .heater ∨ h.drive.heater.state ≠ .off := by
          by_cases heater : d = .heater
          · subst heater
            exact .inr fun off => absurd (off.symm.trans found) (by decide)
          · exact .inl heater
        exact absurd ⟨asked, by rw [u.kept d (.inl undone) left, found]⟩ unlocks
    · exact u.kept d (left.imp_left fun rest => (Bool.or_eq_false_iff.1 rest).1) off

/-- The channel set of a Channel Unlock names this channel (R128). -/
def Channel.namedIn (b1 : Byte) : Channel → Bool
  | .blower => b1.getLsbD 0
  | .heater => b1.getLsbD 1
  | .clutch => b1.getLsbD 2

theorem State.channelsUnlock_unlocked {h : State} (sound : h.OutputsSound) (lock : h.LockFollowed) (b1 : Byte) :
    h.UnlockedTo (Channel.namedIn b1) (h.channelsUnlock b1) := by
  have found : h.UnlockedTo (fun _ => false) h :=
    ⟨sound, lock, nofun, fun _ _ _ => rfl, rfl, fun _ => rfl, State.clutchReported_of_kept rfl rfl, rfl, rfl,
      by simp [State.sameExcept]⟩
  have blower := found.next (b1.getLsbD 0) (c := .blower) rfl rfl nofun
  have heater := blower.next (b1.getLsbD 1) (c := .heater) (by simp) (by simp) fun _ _ => by decide
  have clutch : h.UnlockedTo _ (h.channelsUnlock b1) :=
    heater.next (b1.getLsbD 2) (c := .clutch) (by simp) (by simp) fun _ _ => by decide
  convert clutch using 1
  funext c
  cases c <;> simp [Channel.namedIn]

/-! ### The end of the event, and the statement -/

/-- The Demand and Status timing leaves what a return has made. -/
theorem State.channelReturned_finish {s u t : State} {c : Channel} {trips : Nat} (h : s.channelReturned c trips u)
    (ending : u.sameExcept [.line] t) : s.channelReturned c trips t := by
  have drive := State.drive_of_sameExcept ending (by decide)
  have cond := State.cond_of_sameExcept ending (by decide)
  exact State.channelReturned_congr h (State.params_of_sameExcept ending (by decide)) (by rw [drive]) (by rw [drive]) (by rw [cond])
    (fun _ => by rw [cond]) (fun _ => by rw [drive]) fun _ => ⟨by rw [drive], by rw [drive]⟩

theorem State.clutchReported_finish {s u t : State} (h : s.clutchReported u) (ending : u.sameExcept [.line] t) :
    s.clutchReported t :=
  State.clutchReported_congr h rfl rfl (by rw [State.drive_of_sameExcept ending (by decide)])
    (State.air_of_sameExcept ending (by decide)).symm

/-- Settles O48: the returns by `State.channelEntersOff_returned`, a Channel Unlock by `State.channelsUnlock_unlocked`. -/
theorem channelsRecover : Obligations.ChannelsRecover := by
  refine ⟨fun c s accepts => ?cleared, fun c s inv cooldown runs => ?cooldown, fun b1 s inv receives => ?unlock⟩
  case cleared =>
    refine ⟨_, congrArg Host.Outcome.next (if_pos accepts), ?_⟩
    set u := (s.accept c.line false).mapDrive fun d => d.setChannel (d.channel c).lineCleared c with made
    obtain ⟨ending, same⟩ := State.finish_channels (s := s) (u := u) rfl (by simp [u]) rfl
    have drive := State.drive_of_sameExcept ending (by decide)
    have channel : (u.finish s).drive.channel c = (s.drive.channel c).lineCleared := by
      rw [drive, made, State.mapDrive_drive, DriveUnit.channel_setChannel, State.accept_drive]
    have input : (u.finish s).input = u.input := State.input_of_sameExcept ending (by decide)
    refine ⟨channel, by rw [channel, drive]; rfl, input, same,
      State.sameExcept_trans (by simp [State.sameExcept, u]) ending (by decide)⟩
  case cooldown =>
    refine ⟨_, congrArg Host.Outcome.next (if_pos ⟨cooldown, runs⟩), ?_⟩
    obtain ⟨returned, others, -, -, dampers, -, -, reported, air, unmarked, blocks⟩ :=
      State.channelEntersOff_returned inv.outputsSound (c := c) (by rw [cooldown]; rfl)
    obtain ⟨ending, same⟩ := State.finish_channels (s := s) (u := s.channelEntersOff c) (by simp) dampers unmarked
    generalize (s.channelEntersOff c).finish s = t at *
    have drive := State.drive_of_sameExcept ending (by decide)
    obtain ⟨plan, actuators⟩ := DriveUnit.eq_of_dampers dampers
    rw [← drive] at plan actuators
    refine ⟨?_, fun d other left => ?_, ?_, plan, actuators .fresh, actuators .blend, ?_, same,
      State.sameExcept_trans (State.sameExcept_trans (by simp [State.sameExcept]) blocks (by decide)) ending (by decide)⟩
    · exact State.channelReturned_finish returned ending
    · rw [drive]
      exact others d other fun _ heater => left.resolve_left (not_not_intro heater)
    · exact State.clutchReported_finish reported ending
    · rw [State.air_of_sameExcept ending (by decide)]
      exact air
  case unlock =>
    have unlocked := State.channelsUnlock_unlocked inv.outputsSound.heardGood inv.lockFollowed.heardGood b1
    have fresh : (s.heardGood.channelsUnlock b1).drive.fresh = s.heardGood.drive.fresh :=
      (DriveUnit.eq_of_dampers unlocked.dampers).2 .fresh
    have steady : (s.heardGood.channelsUnlock b1).node.state = .parking →
        s.node.state = .parking ∧ s.drive.fresh.state = (s.heardGood.channelsUnlock b1).drive.fresh.state := by
      rw [State.node_of_sameExcept unlocked.blocks (by decide), fresh]
      exact s.heardGood_replanned.steady inv.take s.heardGood_frame.2.1
    obtain ⟨ending, same⟩ := State.finish_steady_frame steady
    refine ⟨(s.heardGood.channelsUnlock b1).finish s, congrArg Host.Outcome.next (if_pos receives), ?_⟩
    obtain ⟨-, locked, returned, kept, dampers, -, reported, air, unmarked, blocks⟩ := unlocked
    generalize (s.heardGood.channelsUnlock b1).finish s = t at *
    have drive := State.drive_of_sameExcept ending (by decide)
    obtain ⟨plan, actuators⟩ := DriveUnit.eq_of_dampers dampers
    rw [← drive] at plan actuators
    have follows : t.LockFollowed := locked.congr (by rw [State.cond_of_sameExcept ending (by decide)]) (by rw [drive])
    refine ⟨fun c => ⟨fun names found => ?_, fun left off => ?_⟩, follows, ?_, plan, actuators .fresh, actuators .blend, ?_,
      LineInterface.sameOutsideSlots_trans (LineInterface.sameOutsideSlots_of_unmarked unmarked) same,
      State.sameExcept_trans (State.sameExcept_trans (by simp [State.sameExcept]) blocks (by decide)) ending (by decide)⟩
    · exact State.channelReturned_finish (returned c (by cases c <;> exact names) found) ending
    · rw [drive]
      exact kept c (left.imp_left fun unnamed => by cases c <;> exact unnamed) off
    · exact State.clutchReported_finish reported ending
    · rw [State.air_of_sameExcept ending (by decide)]
      exact air

end Sys2Proof.Machine
end

section
/-! What an act of a damper actuator makes of the part at the end of its event: its own state and stall condition, and the test of
Parking (R138, R159). -/

namespace Sys2Proof.Machine

/-! ### The test of Parking, where a handing is accepted -/

theorem LineInterface.listenOnly_of_unmarked {l m : LineInterface} (h : m.unmarked = l.unmarked) :
    m.listenOnly = l.listenOnly := by
  rw [LineInterface.eq_of_unmarked h]

/-- The end of the wait of Parking, where the leaving Demand is not refused (R159). -/
theorem State.beginLeaving_of_hearing {u : State} (hearing : u.line.listenOnly = false) :
    u.beginLeaving = (u.mapNode fun n => { n with leaving := true, leavingTimer := .running 0 }).handDemand :=
  if_neg (by simp [hearing])

theorem State.settleParking_of_unrested {u : State} (unrested : u.freshRests = false) (b : State) : u.settleParking b = u := by
  simp [State.settleParking, unrested]

/-- The test of Parking after an event that leaves Node Control as it was. -/
theorem State.settleParking_of_node {s u : State} (node : u.node = s.node) : u.settleParking s =
    if s.node.state = .parking ∧ s.node.leaving = false ∧ s.drive.fresh.state ≠ u.drive.fresh.state ∧
      (u.drive.fresh.state = .idle ∨ u.drive.fresh.state = .stalled ∨ u.drive.fresh.state = .failed)
    then u.beginLeaving else u := by
  rw [State.settleParking, node, State.freshRests_eq]
  by_cases parking : s.node.state = .parking <;> simp [parking, and_left_comm, and_comm]

/-- The end of an event that leaves Node Control as it was, where no test of Parking can send the node to Sleep: the wait of Parking
is tested, and beside it the Demand and Status timing alone is left (R8, R9, R159). -/
theorem State.finish_parkingTested {s u : State} (may : s.mayHand) (node : u.node = s.node)
    (listen : u.line.listenOnly = s.line.listenOnly) :
    s.parkingTested (u.finish s) ∧ u.line.sameOutsideSlots (u.finish s).line ∧ u.sameExcept [.node, .line] (u.finish s) := by
  have timing (v : State) : v.line.sameOutsideSlots ((v.settleDemand (demandContent s)).settleStatus).line :=
    LineInterface.sameOutsideSlots_trans (State.settleDemand_same _ v) (State.settleStatus_same _)
  rw [State.finish, State.settleParking_of_node node, State.parkingTested]
  split
  next ends =>
    obtain ⟨parking, waits, changed, rests⟩ := ends
    have hearing : u.line.listenOnly = false := listen.trans (may.resolve_left (not_not_intro parking))
    rw [State.beginLeaving_of_hearing hearing]
    have blocks : u.sameExcept [.node, .line] (u.mapNode fun n => { n with leaving := true, leavingTimer := .running 0 }) := by
      simp [State.sameExcept]
    generalize left : u.mapNode _ = z at blocks
    have drive : z.drive = u.drive := State.drive_of_sameExcept blocks (by decide)
    have slot := State.handDemand_leavingWaits (z := z) (demandContent s) (by rw [← left]; rfl) (by rw [← left]; exact hearing)
    have same : u.line.sameOutsideSlots z.handDemand.line := by rw [← left]; exact State.handDemand_same (u.mapNode _)
    refine ⟨?_, LineInterface.sameOutsideSlots_trans same (timing _),
      State.sameExcept_trans blocks (cs := [.line]) (by simp [State.sameExcept]) (by decide)⟩
    rw [if_pos (by simpa [drive] using ⟨parking, waits, changed, rests⟩)]
    exact ⟨by simp [← left, node], slot⟩
  next waits =>
    refine ⟨?_, timing u, by simp [State.sameExcept]⟩
    rw [if_neg (by simpa using waits)]
    simp [node]

/-! ### The conditions under an act -/

/-- An act that leaves the stall condition alone touches no condition. -/
theorem State.applyActuator_cond_of_quiet (x : Damper) {r : ActuatorStep} (s : State) (quiet : r.cond = none) :
    (s.applyActuator x r).cond = s.cond := by
  simp [State.applyActuator, quiet]

theorem State.applyActuator_cond_of_stall (x : Damper) {r : ActuatorStep} (s : State) (stalls : r.cond = some true) :
    (s.applyActuator x r).cond = (s.raise x.stallCondition).cond := by
  simp only [State.applyActuator, stalls]
  exact State.setCond_cond_congr (s := s) (t := s.mapDrive _) rfl true _

/-- An act that raises no stall can end the actuator's stall condition, and does nothing else to the Condition Unit (R138). -/
theorem State.applyActuator_conds (x : Damper) {r : ActuatorStep} (s : State) (calm : r.cond ≠ some true) :
    s.condsSameBut [x.stallCondition] (s.applyActuator x r) := by
  refine ⟨?_, fun c other => ?_⟩
  · cases outcome : r.cond with
    | none => rw [State.applyActuator_cond_of_quiet x s outcome]
    | some b =>
      obtain rfl : b = false := by cases b <;> simp_all
      simp only [State.applyActuator, outcome, State.setCond, Bool.false_eq_true, if_false, State.lower_cond]
      split <;> rfl
  · rw [State.applyActuator_active, if_neg (by simpa using other)]

/-! ### An act at the end of its event -/

/-- `t` is `s` after an event of one actuator: the act taken, its stall condition following, and the event ended. -/
structure State.ActedOn (x : Damper) (r : ActuatorStep) (s t : State) : Prop where
  drive : t.drive = s.drive.setActuator r.act x
  cond : t.cond = (s.applyActuator x r).cond
  tested : s.parkingTested t
  line : s.line.sameOutsideSlots t.line
  blocks : s.sameExcept [.drive, .cond, .line, .node] t

/-- An actuator's act is all that its event does beside the end of the event. -/
theorem State.applyActuator_acted {s : State} (may : s.mayHand) (x : Damper) (r : ActuatorStep) :
    s.ActedOn x r ((s.applyActuator x r).finish s) := by
  have unmarked := s.applyActuator_unmarked x r
  obtain ⟨tested, same, blocks⟩ := State.finish_parkingTested (u := s.applyActuator x r) may (by simp)
    (LineInterface.listenOnly_of_unmarked unmarked)
  exact {
    drive := (State.drive_of_sameExcept blocks (by decide)).trans (State.applyActuator_drive x r s)
    cond := State.cond_of_sameExcept blocks (by decide)
    tested := tested
    line := LineInterface.sameOutsideSlots_trans (LineInterface.sameOutsideSlots_of_unmarked unmarked) same
    blocks := State.sameExcept_trans (by simp [State.sameExcept]) blocks (by decide) }

section
variable {x : Damper} {r : ActuatorStep} {s t : State} (h : s.ActedOn x r t)
include h

theorem State.ActedOn.actuator : t.drive.actuator x = r.act := by
  rw [h.drive, DriveUnit.actuator_setActuator]

/-- The actuator's act is all that the Drive Unit shows of the event. -/
theorem State.ActedOn.alone : t.drive = s.drive.setActuator (t.drive.actuator x) x := by
  rw [h.actuator, h.drive]

theorem State.ActedOn.stall {b : Bool} (outcome : r.cond = some b) : inSet t.cond.active x.stallCondition = b := by
  rw [h.cond, State.applyActuator_active, if_pos rfl, outcome, Option.getD_some]

theorem State.ActedOn.quiet (outcome : r.cond = none) : t.cond = s.cond :=
  h.cond.trans (State.applyActuator_cond_of_quiet x s outcome)

theorem State.ActedOn.conds (calm : r.cond ≠ some true) : s.condsSameBut [x.stallCondition] t := by
  have conds := State.applyActuator_conds x s calm
  rwa [State.condsSameBut, ← h.cond] at conds

end

end Sys2Proof.Machine
end

section
/-! Hall edges at a damper actuator (R131, R132, R135, R136). -/

namespace Sys2Proof.Machine

/-! ### The edge at its actuator -/

/-- p after an edge in this direction, within 0 to F (R132). -/
def Actuator.counted (travel : Nat) (d : Direction) (a : Actuator) : Nat :=
  match d with
  | .towardZero => a.position - 1
  | .towardFull => if a.position < travel then a.position + 1 else a.position

theorem Actuator.moved_eq (travel : Nat) (d : Direction) (a : Actuator) :
    a.moved travel d = { a with position := a.counted travel d } := by
  cases d <;> rfl

/-- Where the start test has nothing to start (R135). -/
theorem Actuator.startTest_rests {held asleep : Bool} {a : Actuator} (rests : asleep = true ∨ a.atTarget = true) :
    a.startTest held asleep = a := if_pos (by simpa using rests)

/-- An Idle actuator off target under a plan that holds the dampers (R133, R135). -/
theorem Actuator.startTest_held {a : Actuator} (away : a.atTarget = false) :
    a.startTest true false = { a with state := .held, resume := some .idle } := by
  simp [Actuator.startTest, away]

/-- An actuator off target that still coasts, under a plan that frees the dampers: it runs on in its last direction, and waits to
reverse (R135, R136). -/
theorem Actuator.startTest_coasting {a : Actuator} (away : a.atTarget = false) (coasts : a.coast.isRunning = true) :
    a.startTest false false =
      if a.wanted = a.last then
        { a with state := .moving, drive := some a.wanted, coast := .stopped, stallTimer := .running 0 }
      else { a with state := .reversing, reversal := .running 0 } := by
  by_cases onward : a.wanted = a.last
  · simp [Actuator.startTest, away, onward, Actuator.startDrive, Timer.start]
  · simp [Actuator.startTest, away, onward, coasts, Timer.start]

section
variable (travel : Nat) (held asleep : Bool) {a : Actuator}

theorem Actuator.edge_of_driven {d : Direction} (driven : a.drive = some d) : a.edge travel held asleep =
    let b := { a with position := a.counted travel d, stallTimer := .running 0 }
    if b.state = .moving ∧ b.atTarget = true then b.stopDrive.completedMove held asleep else ⟨b, none⟩ := by
  obtain ⟨state, position, target, drive, last, resume, stalls, stallTimer, coast, reversal, homing, retry⟩ := a
  obtain rfl : drive = some d := driven
  cases d <;> rfl

theorem Actuator.edge_of_stopped (stopped : a.drive = none) : a.edge travel held asleep =
    let b := { a with position := a.counted travel a.last }
    if a.coasting then ⟨if b.state = .idle then b.startTest held asleep else b, none⟩ else ⟨a, none⟩ := by
  obtain ⟨state, position, target, drive, last, resume, stalls, stallTimer, coast, reversal, homing, retry⟩ := a
  obtain rfl : drive = none := stopped
  unfold Actuator.edge
  dsimp only
  rw [Actuator.moved_eq]
  split
  · split <;> rfl
  · rfl

/-- A driven edge that does not end a move (R132). -/
theorem Actuator.edge_of_onward {d : Direction} (driven : a.drive = some d)
    (onward : a.state ≠ .moving ∨ ({ a with position := a.counted travel d } : Actuator).atTarget = false) :
    a.edge travel held asleep = ⟨{ a with position := a.counted travel d, stallTimer := .running 0 }, none⟩ := by
  rw [Actuator.edge_of_driven travel held asleep driven]
  refine if_neg fun ⟨moving, arrived⟩ => ?_
  exact onward.elim (· moving) fun away => Bool.false_ne_true (away.symm.trans arrived)

/-- The driven edge that brings a Moving actuator to its target (R135, R138). -/
theorem Actuator.edge_of_arrival {d : Direction} (driven : a.drive = some d) (moving : a.state = .moving)
    (arrived : ({ a with position := a.counted travel d } : Actuator).atTarget = true) :
    a.edge travel held asleep = ⟨{ a with
      position := a.counted travel d, state := .idle, drive := none, coast := .running 0, stallTimer := .stopped
      stalls := 0 }, some false⟩ := by
  rw [Actuator.edge_of_driven travel held asleep driven]
  refine (if_pos ⟨moving, arrived⟩).trans (congrArg (ActuatorStep.mk · (some false)) ?_)
  refine (Actuator.completedMove_of_near (c := { a with position := a.counted travel d, stallTimer := .running 0 }) held asleep
    ((Actuator.atTarget_iff _).1 arrived)).trans ?_
  simp [driven]

/-- A coasting edge that leaves nothing to start (R132, R135). -/
theorem Actuator.edge_of_coasting (stopped : a.drive = none) (coasts : a.coasting = true)
    (rests : a.state ≠ .idle ∨ ({ a with position := a.counted travel a.last } : Actuator).atTarget = true ∨ asleep = true) :
    a.edge travel held asleep = ⟨{ a with position := a.counted travel a.last }, none⟩ := by
  rw [Actuator.edge_of_stopped travel held asleep stopped, if_pos coasts]
  refine congrArg (ActuatorStep.mk · none) (ite_eq_right_iff.2 fun idle => ?_)
  exact Actuator.startTest_rests (rests.resolve_left (not_not_intro idle)).symm

/-- The coasting edge that leaves an Idle actuator off target makes the start test (R132, R133, R135, R136). -/
theorem Actuator.edge_of_start (stopped : a.drive = none) (coasts : a.coasting = true) (idle : a.state = .idle)
    (away : ({ a with position := a.counted travel a.last } : Actuator).atTarget = false) :
    a.edge travel held false =
      let c := { a with position := a.counted travel a.last }
      ⟨if held then { c with state := .held, resume := some .idle }
        else if c.wanted = c.last then
          { c with state := .moving, drive := some c.wanted, coast := .stopped, stallTimer := .running 0 }
        else { c with state := .reversing, reversal := .running 0 }, none⟩ := by
  rw [Actuator.edge_of_stopped travel held false stopped, if_pos coasts]
  refine congrArg (ActuatorStep.mk · none) ((if_pos idle).trans ?_)
  cases held with
  | true => exact Actuator.startTest_held away
  | false => exact Actuator.startTest_coasting away (Bool.and_elim_left coasts)

/-- Any other edge is ignored (R132). -/
theorem Actuator.edge_of_resting (stopped : a.drive = none) (rests : a.coasting = false) :
    a.edge travel held asleep = ⟨a, none⟩ :=
  (Actuator.edge_of_stopped travel held asleep stopped).trans (if_neg (by simp [rests]))

end

/-- An edge makes no stall (R138). -/
theorem Actuator.edge_calm (travel : Nat) (held asleep : Bool) (a : Actuator) : (a.edge travel held asleep).cond ≠ some true := by
  cases driven : a.drive with
  | some d =>
    rw [Actuator.edge_of_driven travel held asleep driven]
    dsimp only
    split <;> nofun
  | none =>
    rw [Actuator.edge_of_stopped travel held asleep driven]
    dsimp only
    split <;> nofun

/-! ### The edge at the part -/

theorem Damper.line_fallsUnseen (x : Damper) : x.line.fallsUnseen = true := by cases x <;> rfl

/-- A hall edge is taken whatever level was accepted before it, and is an act of its actuator (R112, R132; log entry 24). -/
theorem exec_hallEdge {s : State} (x : Damper) (accepted : (s.input.fast.get x.line).accepted ≠ none) :
    exec (.hallEdge x) s = .next (((s.acceptFast x.line true).hallEdge x).finish s) :=
  congrArg Host.Outcome.next (State.onEdge_of_unseen x.line_fallsUnseen accepted true _)

theorem DriveUnit.setActuator_actuator (d : DriveUnit) (x : Damper) : d.setActuator (d.actuator x) x = d := by cases x <;> rfl

/-- An act that changes nothing leaves the Demand and Status timing alone (R8, R9). -/
theorem State.ActedOn.ignored {x : Damper} {s t : State} (h : s.ActedOn x ⟨s.drive.actuator x, none⟩ t) :
    s.sameExcept [.line] t := by
  have drive : t.drive = s.drive := h.drive.trans (s.drive.setActuator_actuator x)
  have node : t.node = s.node := by simpa [State.parkingTested, drive] using h.tested
  have blocks := h.blocks
  simp only [State.sameExcept, drive, h.quiet rfl, node] at blocks ⊢
  simpa using blocks

/-- Settles O50, by whether the drive runs, the actuator coasts, or neither. -/
theorem hallEdgeMoves : Obligations.HallEdgeMoves := by
  intro x s may accepted
  have acted := State.applyActuator_acted (s := s.acceptFast x.line true) may x
    ((s.drive.actuator x).edge (s.params.travel x) s.drive.plan.held s.asleep)
  refine ⟨_, exec_hallEdge x accepted, ?_⟩
  change State.ActedOn _ _ _ (((s.acceptFast x.line true).hallEdge x).finish s) at acted
  generalize ((s.acceptFast x.line true).hallEdge x).finish s = t at *
  have shown {bs : List Block} (input : .input ∈ bs) : s.sameExcept bs (s.acceptFast x.line true) := by
    simp [State.sameExcept, input]
  refine ⟨State.input_of_sameExcept acted.blocks (by decide), ?_, ?_, acted.tested, acted.line,
    State.sameExcept_trans (shown (by decide)) acted.blocks (by decide)⟩
  · intro a b F dir coasts moves p at_
    have own : b = (a.edge F s.drive.plan.held s.asleep).act := acted.actuator
    have alone : t.drive = s.drive.setActuator b x := acted.alone
    have arrives : at_ = ({ a with position := p } : Actuator).atTarget := rfl
    obtain stopped | ⟨d, driven⟩ := a.drive.eq_none_or_eq_some
    · have still : a.drive.isSome ≠ true := by simp [stopped]
      have moved : moves = coasts := by simp [moves, stopped]
      have heads : dir = a.last := by simp [dir, stopped]
      cases runs : coasts with
      | false =>
        have edged := Actuator.edge_of_resting F s.drive.plan.held s.asleep stopped runs
        have counts : p = a.position := if_pos (moved.trans runs)
        have same : b = a := by rw [own, edged]
        rw [same, counts]
        refine ⟨rfl, rfl, fun _ => ⟨rfl, ?_⟩, (absurd · still), (absurd · still), fun _ => nofun, fun _ => nofun,
          same ▸ alone⟩
        exact State.sameExcept_trans (shown (by decide)) (State.ActedOn.ignored (x := x) (edged ▸ acted)) (by decide)
      | true =>
        have counts : p = a.counted F a.last := by
          simp only [p, moved, runs, heads]
          rfl
        have unmoved : moves ≠ false := by rw [moved, runs]; decide
        rw [counts] at arrives ⊢
        by_cases rests : a.state ≠ .idle ∨ at_ = true ∨ s.node.state = .sleep
        · have edged := Actuator.edge_of_coasting F s.drive.plan.held s.asleep stopped runs
            (by simpa [← arrives, State.asleep] using rests)
          rw [own, edged] at alone ⊢
          refine ⟨rfl, rfl, (absurd · unmoved), (absurd · still), (absurd · still), fun _ _ _ => rfl,
            fun _ _ idle away awake => absurd rests ?_, alone⟩
          simp [idle, away, awake]
        · obtain ⟨idle, away, awake⟩ : a.state = .idle ∧ at_ = false ∧ s.node.state ≠ .sleep := by simpa using rests
          have edged := Actuator.edge_of_start F s.drive.plan.held stopped runs idle (arrives.symm.trans away)
          have unslept : s.asleep = false := by simpa [State.asleep] using awake
          rw [unslept, edged] at own
          refine ⟨?_, ?_, (absurd · unmoved), (absurd · still), (absurd · still), fun _ _ rests' => absurd rests' rests,
            fun _ _ _ _ _ => own, alone⟩
          all_goals rw [own]; dsimp only; (repeat' split) <;> rfl
    · have moving : moves = true := by simp [moves, driven]
      have counts : p = a.counted F d := by
        have heads : dir = d := by simp [dir, driven]
        simp only [p, moving, heads]
        rfl
      have unmoved : moves ≠ false := by rw [moving]; decide
      have running : a.drive ≠ none := by rw [driven]; nofun
      rw [counts] at arrives ⊢
      by_cases ends : a.state = .moving ∧ at_ = true
      · obtain ⟨state, arrived⟩ := ends
        have edged := Actuator.edge_of_arrival F s.drive.plan.held s.asleep driven state (arrives.symm.trans arrived)
        rw [own, edged] at alone ⊢
        exact ⟨rfl, rfl, (absurd · unmoved), fun _ onward => absurd onward (by simp [state, arrived]),
          fun _ _ _ => ⟨rfl, acted.stall (by rw [edged])⟩, (absurd · running), (absurd · running), alone⟩
      · have onward : a.state ≠ .moving ∨ at_ = false := by simpa [or_iff_not_imp_left] using ends
        have edged := Actuator.edge_of_onward F s.drive.plan.held s.asleep driven (arrives ▸ onward)
        rw [own, edged] at alone ⊢
        exact ⟨rfl, rfl, (absurd · unmoved), fun _ _ => rfl, fun _ state arrived => absurd ⟨state, arrived⟩ ends,
          (absurd · running), (absurd · running), alone⟩
  · exact acted.conds (Actuator.edge_calm _ _ _ _)

end Sys2Proof.Machine
end

section
/-! Stalls, homing, the ends of the actuators' timers, and a Rehome request (R132 to R139). -/

namespace Sys2Proof.Machine

/-! ### Stalls and homing -/

theorem Actuator.stopDrive_of_driven {a : Actuator} (driven : a.drive.isSome = true) :
    a.stopDrive = { a with drive := none, coast := .running 0, stallTimer := .stopped } := if_pos driven

/-- The start test leaves what a move completed has set (R135). -/
theorem Actuator.startTest_leaves (held asleep : Bool) (a : Actuator) : (a.startTest held asleep).position = a.position ∧
    (a.startTest held asleep).stalls = a.stalls ∧ (a.startTest held asleep).homing = a.homing := by
  unfold Actuator.startTest
  (repeat' split) <;> exact ⟨rfl, rfl, rfl⟩

/-- The actuator whose damper has found its end, before the start test (R134, R137). -/
def Actuator.atEnd (a : Actuator) : Actuator :=
  { a with
    state := .idle, position := 0, drive := none, coast := .running 0, stallTimer := .stopped, homing := .stopped
    stalls := 0 }

theorem Actuator.atEnd_atTarget (a : Actuator) : a.atEnd.atTarget = decide (a.target ≤ 2) := by
  simp [Actuator.atTarget, Actuator.atEnd]

section
variable (travel : Nat) (held asleep : Bool) {a : Actuator}

theorem Actuator.homed_of_driven (driven : a.drive.isSome = true) :
    a.homed held asleep = ⟨a.atEnd.startTest held asleep, some false⟩ := by
  rw [Actuator.homed, Actuator.stopDrive_of_driven driven]
  rfl

/-- A stall that finds the damper's end (R134, R137). -/
theorem Actuator.stall_of_end
    (home : a.state = .homing ∨ a.state = .moving ∧ a.drive = some .towardZero ∧ a.position ≤ travel / 20) :
    a.stall travel held asleep = a.homed held asleep := by
  obtain homing | ⟨moving, near⟩ := home
  · simp only [Actuator.stall, homing]
  · simp only [Actuator.stall, moving]
    exact if_pos near

/-- The first stall away from home, and any further one (R137). -/
theorem Actuator.stall_of_away (moving : a.state = .moving) (driven : a.drive.isSome = true)
    (away : ¬ (a.drive = some .towardZero ∧ a.position ≤ travel / 20)) : a.stall travel held asleep =
      if a.stalls = 0 then
        ⟨{ a with
          state := .stalled, drive := none, coast := .running 0, stallTimer := .stopped, stalls := 1
          retry := .running 0 }, some true⟩
      else ⟨{ a with state := .failed, drive := none, coast := .running 0, stallTimer := .stopped }, none⟩ := by
  simp only [Actuator.stall, moving, if_neg away, Actuator.stopDrive_of_driven driven]
  rfl

end

/-- Settles O51, by whether a stall finds the damper's end. -/
theorem stallsAndHoming : Obligations.StallsAndHoming := by
  refine ⟨fun x s may driven runs found => ?stall, fun x s may homing runs driven => ?homing⟩
  case stall =>
    have acted := State.applyActuator_acted may x
      ((s.drive.actuator x).stall (s.params.travel x) s.drive.plan.held s.asleep)
    refine ⟨_, congrArg Host.Outcome.next (if_pos ⟨runs, driven⟩), ?_, acted.tested, acted.line, acted.blocks⟩
    generalize (s.applyActuator x _).finish s = t at *
    intro a b home
    have own : b = (a.stall (s.params.travel x) s.drive.plan.held s.asleep).act := acted.actuator
    have alone : t.drive = s.drive.setActuator b x := acted.alone
    cases ends : home with
    | true =>
      have stalled : a.stall (s.params.travel x) s.drive.plan.held s.asleep =
          ⟨a.atEnd.startTest s.drive.plan.held s.asleep, some false⟩ := by
        rw [Actuator.stall_of_end _ _ _ _, Actuator.homed_of_driven _ _ driven]
        simp only [home, Bool.or_eq_true, Bool.and_eq_true, decide_eq_true_eq] at ends
        tauto
      obtain ⟨position, stalls, timer⟩ := a.atEnd.startTest_leaves s.drive.plan.held s.asleep
      rw [stalled] at own
      dsimp only at own
      refine ⟨fun _ => ⟨?_, ?_, ?_, acted.stall (by rw [stalled]), fun rests => ?_, fun far awake held => ?_,
        fun far awake free last => ?_⟩, nofun, nofun, alone⟩
      · rw [own, position]; rfl
      · rw [own, stalls]; rfl
      · rw [own, timer]; rfl
      · rw [own, Actuator.startTest_rests (by simpa [State.asleep, Actuator.atEnd_atTarget, or_comm] using rests)]
        exact ⟨rfl, rfl⟩
      · have away : a.atEnd.atTarget = false := by simpa [Actuator.atEnd_atTarget] using far
        have unslept : s.asleep = false := by simpa [State.asleep] using awake
        rw [own, unslept, held, Actuator.startTest_held away]
        exact ⟨rfl, rfl⟩
      · have away : a.atEnd.atTarget = false := by simpa [Actuator.atEnd_atTarget] using far
        have unslept : s.asleep = false := by simpa [State.asleep] using awake
        have opens : a.atEnd.wanted = .towardFull := if_pos (Nat.zero_lt_of_lt far)
        rw [own, unslept, free, Actuator.startTest_coasting away rfl, opens, if_neg (by rw [Actuator.atEnd, last]; nofun)]
        exact ⟨rfl, rfl⟩
    | false =>
      simp only [home, Bool.or_eq_false_iff, decide_eq_false_iff_not] at ends
      obtain ⟨unhomed, away⟩ := ends
      have stalled := Actuator.stall_of_away (s.params.travel x) s.drive.plan.held s.asleep
        (found.resolve_left unhomed) driven (by simpa using away)
      refine ⟨nofun, fun _ first => ?_, fun _ further => ?_, alone⟩
      · rw [if_pos first] at stalled
        exact ⟨by rw [own, stalled], acted.stall (by rw [stalled])⟩
      · rw [if_neg further] at stalled
        exact ⟨by rw [own, stalled], acted.quiet (by rw [stalled])⟩
  case homing =>
    have acted := State.applyActuator_acted may x (s.drive.actuator x).homingExpired
    refine ⟨_, congrArg Host.Outcome.next (if_pos ⟨homing, runs⟩), ?_, ?_, acted.tested, acted.line, acted.blocks⟩
    · rw [acted.drive, Actuator.homingExpired, Actuator.stopDrive_of_driven driven]
    · rw [acted.cond, State.applyActuator_cond_of_stall x s rfl]

/-! ### The ends of timers -/

/-- An actuator that becomes Idle under a plan that frees the dampers, the node awake: a move completed, or a start (R135, R136). -/
theorem State.ActedOn.idled {x : Damper} {a : Actuator} {s t : State} (h : s.ActedOn x (a.idleAndTest false false) t) :
    (a.atTarget = true →
      t.drive.actuator x = { a with state := .idle, stalls := 0 } ∧ inSet t.cond.active x.stallCondition = false) ∧
    (a.atTarget = false → a.started (t.drive.actuator x) ∧ t.cond = s.cond) ∧ s.condsSameBut [x.stallCondition] t := by
  obtain ⟨act, outcome⟩ := a.idleAndTest_spec false
  rw [h.actuator]
  by_cases near : a.near
  · rw [if_pos near] at act outcome
    exact ⟨fun _ => ⟨act, h.stall outcome⟩, fun away => absurd ((Actuator.atTarget_iff a).2 near) (by simp [away]),
      h.conds (by simp [outcome])⟩
  · rw [if_neg near] at act outcome
    exact ⟨fun arrived => absurd ((Actuator.atTarget_iff a).1 arrived) near, fun _ => ⟨act, h.quiet outcome⟩,
      h.conds (by simp [outcome])⟩

/-- The actuator whose reversal pause or retry delay has ended (R136, R137). -/
def Actuator.waited (a : Actuator) : Actuator :=
  { a with
    reversal := if a.state = .reversing then .stopped else a.reversal
    retry := if a.state = .stalled then .stopped else a.retry }

/-- What the end of either timer is to its actuator, the node awake (R133, R136, R137). -/
def Actuator.waitEnds (held : Bool) (a : Actuator) : ActuatorStep :=
  if held then ⟨{ a.waited with state := .held, resume := some .idle }, none⟩ else a.waited.idleAndTest false false

theorem Actuator.reversalExpired_waitEnds {held asleep : Bool} {a : Actuator} (reversing : a.state = .reversing)
    (free : held = false) (awake : asleep = false) : a.reversalExpired held asleep = a.waitEnds held := by
  subst free awake
  simp [Actuator.reversalExpired, Actuator.waitEnds, Actuator.waited, reversing]

theorem Actuator.retryExpired_waitEnds {asleep : Bool} {a : Actuator} (stalled : a.state = .stalled) (awake : asleep = false)
    (held : Bool) : a.retryExpired held asleep = a.waitEnds held := by
  subst awake
  cases held <;> simp [Actuator.retryExpired, Actuator.waitEnds, Actuator.waited, stalled, Actuator.quietly]

/-- Settles O52: where no plan holds the dampers, the ends of a pause and of a delay by `State.ActedOn.idled`. -/
theorem actuatorTimersEnd : Obligations.ActuatorTimersEnd := by
  refine ⟨fun x s runs => congrArg Host.Outcome.next (if_pos runs), fun x c s may awake event => ?_⟩
  have unslept : s.asleep = false := by simpa [State.asleep] using awake
  have run : exec c s = .next ((s.applyActuator x ((s.drive.actuator x).waitEnds s.drive.plan.held)).finish s) := by
    obtain ⟨rfl, reversing, runs, free⟩ | ⟨rfl, stalled, runs⟩ := event
    · rw [← Actuator.reversalExpired_waitEnds reversing free unslept]
      exact congrArg Host.Outcome.next (if_pos ⟨reversing, runs⟩)
    · rw [← Actuator.retryExpired_waitEnds stalled unslept]
      exact congrArg Host.Outcome.next (if_pos ⟨stalled, runs⟩)
  have acted := State.applyActuator_acted may x ((s.drive.actuator x).waitEnds s.drive.plan.held)
  refine ⟨_, run, and_assoc.1 ⟨?_, acted.tested, acted.line, acted.blocks⟩⟩
  generalize (s.applyActuator x _).finish s = t at *
  have alone := acted.alone
  cases held : s.drive.plan.held with
  | true =>
    rw [held] at acted
    exact ⟨⟨fun _ => ⟨acted.actuator, acted.quiet rfl⟩, nofun, nofun, alone⟩, acted.conds nofun⟩
  | false =>
    rw [held] at acted
    obtain ⟨arrives, starts, conds⟩ := State.ActedOn.idled acted
    exact ⟨⟨nofun, fun _ => arrives, fun _ => starts, alone⟩, conds⟩

/-! ### Rehome -/

/-- A Rehome request at an actuator under a plan that holds the dampers (R139). -/
theorem Actuator.rehome_of_held (a : Actuator) : a.rehome true = ⟨{ a.halted with
    state := .unhomed, resume := none, stalls := 0, stallTimer := .stopped, reversal := .stopped, homing := .stopped
    retry := .stopped }, some false⟩ := by
  rw [a.halted_eq]
  rfl

/-- A Rehome request at an actuator under a plan that frees the dampers (R134, R139). -/
theorem Actuator.rehome_of_freed (a : Actuator) : a.rehome false = ⟨{ a with
    state := .homing, drive := some .towardZero, last := .towardZero, resume := none, stalls := 0
    stallTimer := .running 0, coast := .stopped, reversal := .stopped, homing := .running 0
    retry := .stopped }, some false⟩ := by
  obtain ⟨state, position, target, drive, last, resume, stalls, stallTimer, coast, reversal, homing, retry⟩ := a
  cases drive <;> rfl

theorem Actuator.rehome_cond (held : Bool) (a : Actuator) : (a.rehome held).cond = some false := rfl

theorem State.dampersRehome_drive (s : State) : s.dampersRehome.drive = { s.drive with
    fresh := (s.drive.fresh.rehome s.drive.plan.held).act, blend := (s.drive.blend.rehome s.drive.plan.held).act } := by
  simp only [State.dampersRehome, State.rehome, State.applyActuator_drive]
  rfl

theorem State.condsSameBut_trans {cs ds : List Condition} {s u t : State} (h : s.condsSameBut cs u) (k : u.condsSameBut ds t) :
    s.condsSameBut (cs ++ ds) t := by
  obtain ⟨unit, active⟩ := h
  obtain ⟨unit', active'⟩ := k
  refine ⟨by rw [unit', unit], fun c other => ?_⟩
  rw [List.mem_append, not_or] at other
  rw [active' c other.2, active c other.1]

/-- Both stall conditions end, and no other condition changes (R138, R139). -/
theorem State.dampersRehome_conds (s : State) : s.condsSameBut [.freshDamperStall, .blendDamperStall] s.dampersRehome ∧
    ∀ x : Damper, inSet s.dampersRehome.cond.active x.stallCondition = false := by
  refine ⟨State.condsSameBut_trans (State.applyActuator_conds .fresh s (by simp [Actuator.rehome_cond]))
    (State.applyActuator_conds .blend _ (by simp [Actuator.rehome_cond])), fun x => ?_⟩
  simp only [State.dampersRehome, State.rehome, State.applyActuator_active, Actuator.rehome_cond]
  cases x <;> rfl

/-- An event that leaves the fresh actuator out of rest ends with the Demand and Status timing alone (R8, R9, R159). -/
theorem State.finish_of_unrested {u : State} (unrested : u.freshRests = false) (s : State) :
    u.sameExcept [.line] (u.finish s) ∧ u.line.sameOutsideSlots (u.finish s).line := by
  rw [State.finish, State.settleParking_of_unrested unrested]
  exact ⟨by simp [State.sameExcept],
    LineInterface.sameOutsideSlots_trans (State.settleDemand_same _ u) (State.settleStatus_same _)⟩

/-- Settles O53: a Rehome request takes the fresh actuator out of rest, so that its event ends no wait of Parking. -/
theorem rehomeStartsHoming : Obligations.RehomeStartsHoming := by
  intro s receives
  refine ⟨_, congrArg Host.Outcome.next (if_pos receives), ?_⟩
  intro h
  obtain ⟨blocks, same⟩ := State.finish_of_unrested h.dampersRehome_unrested s
  change h.dampersRehome.sameExcept [.line] ((State.hears .rehome s).finish s) at blocks
  change h.dampersRehome.line.sameOutsideSlots ((State.hears .rehome s).finish s).line at same
  generalize (State.hears .rehome s).finish s = t at *
  have frame : h.sameExcept [.drive, .cond, .line] h.dampersRehome := by
    simp [State.sameExcept, State.dampersRehome, State.rehome]
  have unmarked : h.dampersRehome.line.unmarked = h.line.unmarked := by simp [State.dampersRehome, State.rehome]
  have cond : t.cond = h.dampersRehome.cond := State.cond_of_sameExcept blocks (by decide)
  have drive : t.drive = h.dampersRehome.drive := State.drive_of_sameExcept blocks (by decide)
  rw [h.dampersRehome_drive] at drive
  obtain ⟨conds, stalls⟩ := h.dampersRehome_conds
  rw [← cond] at stalls
  refine ⟨fun x => ?_, by rw [drive], by rwa [State.condsSameBut, ← cond] at conds,
    LineInterface.sameOutsideSlots_trans (LineInterface.sameOutsideSlots_of_unmarked unmarked) same,
    State.sameExcept_trans frame blocks (by decide)⟩
  have own : t.drive.actuator x = ((h.drive.actuator x).rehome h.drive.plan.held).act := by rw [drive]; cases x <;> rfl
  rw [own]
  cases h.drive.plan.held with
  | true =>
    rw [Actuator.rehome_of_held]
    exact ⟨rfl, rfl, rfl, rfl, rfl, rfl, stalls x, fun _ => ⟨rfl, rfl, rfl, rfl, fun drove => if_pos drove⟩, nofun⟩
  | false =>
    rw [Actuator.rehome_of_freed]
    exact ⟨rfl, rfl, rfl, rfl, rfl, rfl, stalls x, nofun, fun _ => ⟨rfl, rfl, rfl, rfl⟩⟩

end Sys2Proof.Machine
end

section
/-! A Panel arrival (R142 to R145, R81): the settings it takes, the override set it describes, and the two ways its event ends, in
Running with the fresh damper target settled and outside Running without. -/

namespace Sys2Proof.Machine

/-! ### The fields of the record -/

/-- The fields a Panel record's flag bits force, whatever its lifetime (R144, Table 10-1). -/
def PanelBytes.forced (d : PanelBytes) : Overrides where
  level := if d.b2.getLsbD 0 then some (min 8 d.b3.toNat) else none
  stages := if d.b2.getLsbD 1 then some (min 4 (d.b4.toNat % 8)) else none
  fresh := if d.b2.getLsbD 2 then some (d.b4.getLsbD 7) else none
  blend := if d.b2.getLsbD 3 then some (min 100 d.b5.toNat) else none

theorem PanelBytes.overrides_of_cancelling {d : PanelBytes} (cancels : d.b6 = 0 ∨ d.forced = Overrides.none) :
    d.overrides = Overrides.none := by
  unfold PanelBytes.overrides
  split
  next => rfl
  next lives => exact cancels.resolve_left fun zero => lives (by rw [PanelBytes.lifetime, zero]; rfl)

theorem PanelBytes.overrides_of_living {d : PanelBytes} (lives : d.b6 ≠ 0) : d.overrides = d.forced :=
  if_neg fun zero => lives (BitVec.eq_of_toNat_eq zero)

/-- A mode request of 4 to 7 leaves the mode as it was (R143). -/
theorem PanelBytes.mode_getD (d : PanelBytes) (m : ModeRequest) : d.mode.getD m =
    match d.b1.toNat / 16 % 8 with
    | 0 => .auto
    | 1 => .defrost
    | 2 => .recirculate
    | 3 => .off
    | _ => m := by
  unfold PanelBytes.mode
  generalize d.b1.toNat / 16 % 8 = code
  obtain _ | _ | _ | _ | code := code <;> rfl

/-! ### What the Air Unit takes -/

section
variable {d : PanelBytes} (a : AirUnit)

theorem AirUnit.takeOverrides_of_cancelling (cancels : d.b6 = 0 ∨ d.forced = Overrides.none) :
    a.takeOverrides d = { a with overrides := Overrides.none, overrideTimer := .stopped } :=
  if_neg (by simp [Overrides.inForce, PanelBytes.overrides_of_cancelling cancels])

theorem AirUnit.takeOverrides_of_forcing (lives : d.b6 ≠ 0) (forces : d.forced ≠ Overrides.none) :
    a.takeOverrides d = { a with overrides := d.forced, overrideLife := d.b6.toNat, overrideTimer := .running 0 } := by
  rw [← PanelBytes.overrides_of_living lives] at forces ⊢
  exact if_pos (decide_eq_true forces)

/-- The override part of a Panel arrival leaves the rest of the Air Unit. -/
theorem AirUnit.takeOverrides_frame (d : PanelBytes) : a.takeOverrides d = { a with
    overrides := (a.takeOverrides d).overrides, overrideLife := (a.takeOverrides d).overrideLife
    overrideTimer := (a.takeOverrides d).overrideTimer } := by
  unfold AirUnit.takeOverrides
  split <;> rfl

end

/-! ### The end of the event -/

section
variable (d : PanelBytes) {s t : State}

theorem State.panelArrives_of_running (running : s.node.state = .running) :
    s.panelArrives d = (s.mapAir fun a => (a.takeSettings d).takeOverrides d).settleFresh := if_pos running

theorem State.panelArrives_of_not_running (rests : s.node.state ≠ .running) :
    s.panelArrives d = s.mapAir (AirUnit.takeSettings d) := if_neg rests

/-- In Running the override part is taken too, and the fresh damper target is settled after it (R81, R142 to R145). -/
theorem State.panelArrives_finish_of_running (running : s.node.state = .running)
    (ends : (s.heardGood.panelArrives d).finish s = t) :
    t.air = { (s.heardGood.air.takeSettings d).takeOverrides d with freshTarget := t.air.freshTarget } ∧
    s.heardGood.freshSettled t ∧ s.heardGood.condsSameBut [.freshDamperStall] t ∧
    s.heardGood.line.sameOutsideSlots t.line ∧ s.heardGood.sameExcept [.air, .drive, .cond, .line] t := by
  have found : s.heardGood.node.state = .running := by simpa using running
  rw [State.panelArrives_of_running d found] at ends
  exact State.mapAir_settleFresh_finish s (by rw [found]; decide) ends

/-- Outside Running the settings alone are taken (R142 to R144): the good frame itself has moved no drive there. -/
theorem State.panelArrives_finish_of_not_running (take : s.takeLaws) (rests : s.node.state ≠ .running)
    (ends : (s.heardGood.panelArrives d).finish s = t) :
    t.air = s.heardGood.air.takeSettings d ∧ s.heardGood.line.sameOutsideSlots t.line ∧
    s.heardGood.sameExcept [.air, .line] t := by
  obtain ⟨drive, -⟩ := s.heardGood_replanned.still take rests
  rw [State.panelArrives_of_not_running d (by simpa using rests)] at ends
  subst ends
  obtain ⟨blocks, same⟩ := State.finish_undriven (s := s) (u := s.heardGood.mapAir (AirUnit.takeSettings d)) (by simp) drive
  exact ⟨State.air_of_sameExcept blocks (by decide), same,
    State.sameExcept_trans (by simp [State.sameExcept]) blocks (by simp)⟩

/-- In every node state the settings are taken, and beside them at most the overrides and the fresh damper target change in the Air
Unit (R142 to R145). -/
theorem State.panelArrives_finish (take : s.takeLaws) (ends : (s.heardGood.panelArrives d).finish s = t) :
    t.air = { s.heardGood.air.takeSettings d with
      overrides := t.air.overrides, overrideLife := t.air.overrideLife, overrideTimer := t.air.overrideTimer
      freshTarget := t.air.freshTarget } ∧
    s.heardGood.condsSameBut [.freshDamperStall] t ∧ s.heardGood.line.sameOutsideSlots t.line ∧
    s.heardGood.sameExcept [.air, .drive, .cond, .line] t := by
  by_cases running : s.node.state = .running
  · obtain ⟨air, -, rest⟩ := State.panelArrives_finish_of_running d running ends
    rw [AirUnit.takeOverrides_frame] at air
    exact ⟨by rw [air], rest⟩
  · obtain ⟨air, same, blocks⟩ := State.panelArrives_finish_of_not_running d take running ends
    have cond := State.cond_of_sameExcept blocks (by decide)
    exact ⟨by rw [air], ⟨by rw [cond], fun _ _ => by rw [cond]⟩, same,
      State.sameExcept_trans (u := s.heardGood) (by simp [State.sameExcept]) blocks (by simp)⟩

end

/-- Settles O43: what is taken in every node state by `State.panelArrives_finish`, the override part by whether it is Running. -/
theorem panelArrivalTaken : Obligations.PanelArrivalTaken := by
  intro d s inv receives
  obtain ⟨t, ends⟩ : ∃ t, (s.heardGood.panelArrives d).finish s = t := ⟨_, rfl⟩
  have run : exec (.panelArrival d) s = .next t := by
    rw [← ends]
    exact congrArg Host.Outcome.next (if_pos receives)
  have mode : s.heardGood.air.mode = s.air.mode := by
    obtain ⟨-, -, air, -⟩ := s.heardGood_replanned
    rw [air]
  obtain ⟨air, conds, same, blocks⟩ := State.panelArrives_finish d inv.take ends
  refine ⟨t, run, congrArg AirUnit.target air, congrArg AirUnit.fan air, ?_,
    ⟨fun running cancels => ?cancelled, fun running lives forces => ?replaced⟩,
    fun running => ?settled, fun rests => ?ignored, ?_, conds, same, blocks⟩
  · rw [← mode]
    exact (congrArg AirUnit.mode air).trans (d.mode_getD _)
  case cancelled =>
    obtain ⟨taken, -⟩ := State.panelArrives_finish_of_running d running ends
    rw [AirUnit.takeOverrides_of_cancelling _ cancels] at taken
    exact ⟨congrArg AirUnit.overrides taken, congrArg AirUnit.overrideTimer taken⟩
  case replaced =>
    obtain ⟨taken, -⟩ := State.panelArrives_finish_of_running d running ends
    rw [AirUnit.takeOverrides_of_forcing _ lives forces] at taken
    exact ⟨congrArg AirUnit.overrides taken, congrArg AirUnit.overrideLife taken, congrArg AirUnit.overrideTimer taken⟩
  case settled =>
    obtain ⟨-, settled, -⟩ := State.panelArrives_finish_of_running d running ends
    exact settled
  case ignored =>
    obtain ⟨-, found⟩ := s.heardGood_replanned.still inv.take rests
    obtain ⟨taken, -, left⟩ := State.panelArrives_finish_of_not_running d inv.take rests ends
    rw [taken, found]
    exact ⟨rfl, rfl, State.drive_of_sameExcept left (by decide), State.cond_of_sameExcept left (by decide), rfl⟩
  · rw [air]
    rfl

end Sys2Proof.Machine
end

section
/-! The conditions of the output channels and the freeze, through what the Drive Unit does in an event: a channel's trip conditions
are active exactly while it waits after a trip, ChannelLocked while a channel is Locked, and the Condition Unit holds nothing pending
while not frozen (R124 to R128, R147 to R151). -/

namespace Sys2Proof.Machine

/-! ### The freeze -/

/-- What the Condition Unit holds while not frozen and while frozen (R147 to R151). -/
structure ConditionUnit.FreezeSound (u : ConditionUnit) : Prop where
  released : u.frozen = false → u.pending = 0 ∧ u.swallowed = 0 ∧ u.autoRelease = .stopped
  held : u.frozen = true → u.autoRelease.isRunning = true
  most : u.swallowed ≤ 255

theorem State.freezeLaws_iff (s : State) : s.freezeLaws ↔ s.cond.FreezeSound :=
  ⟨fun ⟨released, held, most⟩ => ⟨released, held, most⟩, fun ⟨released, held, most⟩ => ⟨released, held, most⟩⟩

/-- An arising makes nothing pending and swallows nothing while not frozen (R148). -/
theorem ConditionUnit.FreezeSound.arise {u : ConditionUnit} (h : u.FreezeSound) (c : Condition) : (u.arise c).FreezeSound := by
  rw [u.arise_eq]
  refine ⟨fun (runs : u.frozen = false) => ?_, h.held, ?_⟩
  · simpa [runs] using h.released runs
  · dsimp only
    split
    · exact Nat.min_le_left _ _
    · exact h.most

theorem ConditionUnit.FreezeSound.freeze {u : ConditionUnit} (h : u.FreezeSound) : u.freeze.FreezeSound :=
  ⟨fun runs => (nomatch runs), fun _ => rfl, h.most⟩

theorem ConditionUnit.FreezeSound.clear {u : ConditionUnit} (h : u.FreezeSound) (listed : BitVec 24) :
    (u.clear listed).FreezeSound :=
  ⟨h.released, h.held, h.most⟩

theorem ConditionUnit.FreezeSound.release {u : ConditionUnit} (h : u.FreezeSound) : u.release.FreezeSound := by
  unfold ConditionUnit.release
  split
  · exact ⟨fun _ => ⟨rfl, rfl, rfl⟩, fun frozen => (nomatch frozen), Nat.zero_le _⟩
  · exact h

theorem State.raise_freezeSound {s : State} (h : s.cond.FreezeSound) (c : Condition) : (s.raise c).cond.FreezeSound := by
  rw [State.raise_cond]
  split
  · exact h
  · exact h.arise c

theorem State.lower_freezeSound {s : State} (h : s.cond.FreezeSound) (c : Condition) : (s.lower c).cond.FreezeSound := by
  rw [State.lower_cond]
  split
  · exact ⟨h.released, h.held, h.most⟩
  · exact h

theorem State.setCond_freezeSound {s : State} (h : s.cond.FreezeSound) (b : Bool) (c : Condition) :
    (s.setCond b c).cond.FreezeSound := by
  cases b
  · exact State.lower_freezeSound h c
  · exact State.raise_freezeSound h c

theorem State.tripChannel_freezeSound {s : State} (h : s.cond.FreezeSound) (c : Channel) (k : TripCause) :
    (s.tripChannel c k).cond.FreezeSound := by
  have locks {u : State} (tripped : u.cond.FreezeSound) (b : Bool) : (u.when b (State.raise .channelLocked)).cond.FreezeSound := by
    cases b with
    | false => exact tripped
    | true => exact State.raise_freezeSound tripped .channelLocked
  have releases {u : State} (locked : u.cond.FreezeSound) (b : Bool) :
      (u.when b (State.mapAir AirUnit.clutchReleased)).cond.FreezeSound := by
    cases b <;> exact locked
  have tripped := State.raise_freezeSound (s := s.mapDrive fun d => (d.outputOff c).setChannel ((d.channel c).trip (s.overCurrent c)) c)
    h (k.condition c)
  exact releases (locks tripped _) _

/-! ### The trip conditions of a channel -/

/-- The trip conditions of a channel: over-current, and at the blower a stall too (R124, R125). -/
def Channel.trips (c : Channel) (d : Condition) : Bool :=
  decide (d = c.tripCondition) || (decide (c = .blower) && decide (d = .blowerStall))

theorem Channel.trips_tripCondition (c : Channel) : c.trips c.tripCondition = true := by simp [Channel.trips]

/-- A trip's condition is one of its own channel. -/
theorem TripCause.trips_condition {k : TripCause} {c : Channel} (fits : k.fits c = true) : c.trips (k.condition c) = true := by
  cases k with
  | overCurrent => exact c.trips_tripCondition
  | stall =>
    obtain rfl : c = .blower := of_decide_eq_true fits
    rfl

/-- No two channels share a trip condition, and none is ChannelLocked. -/
theorem Channel.trips_inj {c e : Channel} {d : Condition} (h : c.trips d = true) (k : e.trips d = true) : c = e := by
  revert h k
  cases c <;> cases e <;> cases d <;> decide

theorem Channel.trips_channelLocked (c : Channel) : c.trips .channelLocked = false := by cases c <;> rfl

theorem Channel.ofDrive_of_trips {c : Channel} {d : Condition} (h : c.trips d = true) : d.ofDrive = true := by
  revert h
  cases c <;> cases d <;> decide

/-- Some trip condition of the channel is active. -/
def State.tripActive (s : State) (c : Channel) : Bool :=
  inSet s.cond.active c.tripCondition || (decide (c = .blower) && inSet s.cond.active .blowerStall)

theorem State.tripActive_iff (s : State) (c : Channel) :
    s.tripActive c = true ↔ ∃ d, c.trips d = true ∧ inSet s.cond.active d = true := by
  simp only [State.tripActive, Channel.trips, Bool.or_eq_true, Bool.and_eq_true, decide_eq_true_eq]
  constructor
  · rintro (trip | ⟨blower, stall⟩)
    exacts [⟨_, .inl rfl, trip⟩, ⟨_, .inr ⟨blower, rfl⟩, stall⟩]
  · rintro ⟨d, rfl | ⟨blower, rfl⟩, active⟩
    exacts [.inl active, .inr ⟨blower, active⟩]

theorem State.tripActive_congr {s t : State} {c : Channel}
    (active : ∀ d, c.trips d = true → inSet t.cond.active d = inSet s.cond.active d) : t.tripActive c = s.tripActive c := by
  rw [Bool.eq_iff_iff, State.tripActive_iff, State.tripActive_iff]
  exact exists_congr fun d => and_congr_right fun own => by rw [active d own]

/-! ### The conditions that follow the channels -/

/-- The freeze keeps its laws, and the conditions of the channels follow them (R124 to R127, R147 to R151). -/
structure State.DriveFollowed (s : State) : Prop where
  freeze : s.cond.FreezeSound
  locked : s.LockFollowed
  trips : ∀ c : Channel, s.tripActive c = (s.drive.channel c).state.afterTrip

theorem State.Inv.driveFollowed {s : State} (inv : s.Inv) : s.DriveFollowed := by
  refine ⟨s.freezeLaws_iff.1 inv.freeze, inv.lockFollowed, fun c => ?_⟩
  obtain ⟨-, -, -, -, -, -, -, -, -, -, heater, clutch, blower⟩ := inv.owners
  cases c with
  | blower => exact blower
  | heater => exact (Bool.or_false _).trans heater
  | clutch => exact (Bool.or_false _).trans clutch

/-- The channels stand in the states they had, and their conditions with them. -/
theorem State.DriveFollowed.same {s t : State} (h : s.DriveFollowed) (freeze : t.cond.FreezeSound)
    (trips : ∀ c : Channel, ∀ d, c.trips d = true → inSet t.cond.active d = inSet s.cond.active d)
    (locked : inSet t.cond.active .channelLocked = inSet s.cond.active .channelLocked)
    (states : ∀ c : Channel, (t.drive.channel c).state = (s.drive.channel c).state) : t.DriveFollowed where
  freeze := freeze
  locked := h.locked.congr locked (DriveUnit.anyLocked_congr fun c => by rw [states])
  trips c := by rw [State.tripActive_congr (trips c), h.trips, states]

/-- Nothing has touched the Condition Unit or the state of a channel. -/
theorem State.DriveFollowed.still {s t : State} (h : s.DriveFollowed) (cond : t.cond = s.cond)
    (states : ∀ c : Channel, (t.drive.channel c).state = (s.drive.channel c).state) : t.DriveFollowed :=
  h.same (cond ▸ h.freeze) (fun _ _ _ => by rw [cond]) (by rw [cond]) states

/-- A condition of no channel, which every condition of another block and the dampers' stalls are, may arise or end. -/
theorem State.DriveFollowed.setCond {s : State} (h : s.DriveFollowed) (b : Bool) {c : Condition}
    (apart : ∀ e : Channel, e.trips c = false) (other : c ≠ .channelLocked) : (s.setCond b c).DriveFollowed := by
  refine h.same (State.setCond_freezeSound h.freeze b c) (fun e d own => ?_) ?_ fun e => by rw [(s.setCond_frame b c).2.2.2.2.2.2.2.1]
  · have ne : d ≠ c := fun same => absurd own (by rw [same, apart]; decide)
    simp [ne]
  · simp [Ne.symm other]

theorem State.DriveFollowed.setCond_other {s : State} (h : s.DriveFollowed) (b : Bool) {c : Condition} (other : c.ofDrive = false) :
    (s.setCond b c).DriveFollowed := by
  refine h.setCond b (fun e => Bool.eq_false_iff.2 fun own => ?_) (Condition.ne_of_ofDrive other rfl)
  exact absurd (other.symm.trans (Channel.ofDrive_of_trips own)) (by decide)

theorem State.DriveFollowed.when {s : State} (h : s.DriveFollowed) {b : Bool} {f : State → State}
    (k : b = true → (f s).DriveFollowed) : (s.when b f).DriveFollowed := by
  cases b with
  | false => exact h
  | true => exact k rfl

/-! ### A trip -/

theorem State.tripChannel_tripActive {k : TripCause} {e : Channel} (fits : k.fits e = true) (s : State) (c : Channel) :
    (s.tripChannel e k).tripActive c = (s.tripActive c || decide (c = e)) := by
  by_cases same : c = e
  · subst same
    have active : (s.tripChannel c k).tripActive c = true :=
      (State.tripActive_iff _ _).2 ⟨_, TripCause.trips_condition fits, by simp [State.tripChannel_active]⟩
    simp [active]
  · rw [State.tripActive_congr (s := s) fun d own => ?_]
    · simp [same]
    · have cause : d ≠ k.condition e := fun is => same (Channel.trips_inj own (is ▸ TripCause.trips_condition fits))
      have lock : d ≠ .channelLocked := fun is => absurd (is ▸ own) (by rw [c.trips_channelLocked]; decide)
      simp [State.tripChannel_active, cause, lock]

/-- A trip of a channel that did not wait after one already (R124 to R127). -/
theorem State.DriveFollowed.tripChannel {s : State} (h : s.DriveFollowed) {e : Channel} {k : TripCause} (fits : k.fits e = true)
    (untripped : (s.drive.channel e).state.afterTrip = false) : (s.tripChannel e k).DriveFollowed where
  freeze := State.tripChannel_freezeSound h.freeze e k
  locked := h.locked.tripChannel k fun locked => by simp [locked, ChannelState.afterTrip] at untripped
  trips c := by
    rw [State.tripChannel_tripActive fits, h.trips]
    by_cases same : c = e
    · subst same; simp [State.tripChannel_channel, OutputChannel.trip_afterTrip]
    · simp [same, State.tripChannel_channel_of_ne k s same]

/-! ### The plan in force taken up -/

/-- What the taking up of a plan by the channel `e` can make of its conditions: it trips on the way out of Off, or no condition changes
and it waits after a trip exactly if it did (R119, R121 to R124). -/
def State.TripsOrNot (e : Channel) (s t : State) : Prop :=
  (s.drive.channel e).state = .off ∧ t = s.tripChannel e .overCurrent ∨
  t.cond = s.cond ∧ (t.drive.channel e).state.afterTrip = (s.drive.channel e).state.afterTrip

theorem OutputChannel.run_afterTrip (c : OutputChannel) : c.run.state.afterTrip = false := by
  rw [OutputChannel.run_state]
  rfl

theorem State.blowerTakesPlan_tripsOrNot (s : State) : State.TripsOrNot .blower s s.blowerTakesPlan := by
  have follows (driven : s.drive.blower.state.afterTrip = false) : State.TripsOrNot .blower s
      (s.mapDrive fun d => if d.plan.duty = 0 then d.blowerStops else d.blowerFollows) := by
    refine .inr ⟨rfl, Eq.trans ?_ driven.symm⟩
    simp only [State.mapDrive_drive, DriveUnit.channel, DriveUnit.blowerStops, DriveUnit.blowerFollows]
    split
    · rfl
    · split
      · exact s.drive.blower.run_afterTrip
      · exact driven
  unfold State.blowerTakesPlan
  cases state : s.drive.blower.state with
  | off =>
    dsimp only
    split
    · exact .inr ⟨rfl, rfl⟩
    · split
      · exact .inl ⟨state, rfl⟩
      · refine .inr ⟨rfl, ?_⟩
        simp only [State.mapDrive_drive, DriveUnit.channel, DriveUnit.blowerStarts, state]
        split
        · exact s.drive.blower.run_afterTrip
        · rfl
  | starting => exact follows (by rw [state]; rfl)
  | running => exact follows (by rw [state]; rfl)
  | _ => exact .inr ⟨rfl, rfl⟩

theorem State.settleHeater_tripsOrNot (s : State) : State.TripsOrNot .heater s s.settleHeater := by
  unfold State.settleHeater
  cases state : s.drive.heater.state with
  | off =>
    dsimp only
    generalize (if s.interlockPermits then s.drive.plan.stages else 0) = n
    split
    · exact .inr ⟨rfl, rfl⟩
    · split
      · exact .inl ⟨state, rfl⟩
      · exact .inr ⟨rfl, by simp [DriveUnit.channel, OutputChannel.run, state, ChannelState.afterTrip]⟩
  | running =>
    dsimp only
    generalize (if s.interlockPermits then s.drive.plan.stages else 0) = n
    split
    · exact .inr ⟨rfl, by simp [DriveUnit.channel, OutputChannel.turnOff, state, ChannelState.afterTrip]⟩
    · exact .inr ⟨rfl, rfl⟩
  | _ => exact .inr ⟨rfl, rfl⟩

theorem State.clutchTakesPlan_tripsOrNot (s : State) : State.TripsOrNot .clutch s s.clutchTakesPlan := by
  unfold State.clutchTakesPlan
  cases state : s.drive.clutch.state with
  | off =>
    dsimp only
    split
    · exact .inr ⟨rfl, rfl⟩
    · split
      · exact .inl ⟨state, rfl⟩
      · exact .inr ⟨rfl, by simp [DriveUnit.channel, OutputChannel.run, state, ChannelState.afterTrip]⟩
  | running =>
    dsimp only
    split
    · exact .inr ⟨rfl, rfl⟩
    · exact .inr ⟨rfl, by simp [DriveUnit.channel, OutputChannel.turnOff, state, ChannelState.afterTrip]⟩
  | _ => exact .inr ⟨rfl, rfl⟩

/-- A channel takes up the plan, the others left as they were. -/
theorem State.DriveFollowed.of_tripsOrNot {s t : State} (h : s.DriveFollowed) {e : Channel} (taken : State.TripsOrNot e s t)
    (locked : t.LockFollowed) (others : ∀ c, c ≠ e → t.drive.channel c = s.drive.channel c) : t.DriveFollowed := by
  rcases taken with ⟨off, rfl⟩ | ⟨cond, own⟩
  · exact h.tripChannel rfl (by rw [off]; rfl)
  · refine ⟨cond ▸ h.freeze, locked, fun c => ?_⟩
    rw [State.tripActive_congr (s := s) fun d _ => by rw [cond], h.trips]
    by_cases same : c = e
    · rw [same, own]
    · rw [others c same]

theorem State.DriveFollowed.blowerTakesPlan {s : State} (h : s.DriveFollowed) : s.blowerTakesPlan.DriveFollowed := by
  refine h.of_tripsOrNot s.blowerTakesPlan_tripsOrNot h.locked.blowerTakesPlan fun c other => ?_
  rw [State.blowerTakesPlan_drive]
  cases c
  exacts [absurd rfl other, rfl, rfl]

theorem State.DriveFollowed.settleHeater {s : State} (h : s.DriveFollowed) : s.settleHeater.DriveFollowed := by
  refine h.of_tripsOrNot s.settleHeater_tripsOrNot h.locked.settleHeater fun c other => ?_
  rw [State.settleHeater_drive]
  cases c
  exacts [rfl, absurd rfl other, rfl]

theorem State.DriveFollowed.clutchTakesPlan {s : State} (h : s.DriveFollowed) : s.clutchTakesPlan.DriveFollowed := by
  refine h.of_tripsOrNot s.clutchTakesPlan_tripsOrNot h.locked.clutchTakesPlan fun c other => ?_
  rw [State.clutchTakesPlan_drive]
  cases c
  exacts [rfl, rfl, absurd rfl other]

theorem State.DriveFollowed.channelsTakePlan {s : State} (h : s.DriveFollowed) : s.channelsTakePlan.DriveFollowed :=
  h.blowerTakesPlan.settleHeater.clutchTakesPlan

theorem State.DriveFollowed.channelTakesPlan {s : State} (h : s.DriveFollowed) (c : Channel) :
    (State.channelTakesPlan c s).DriveFollowed := by
  cases c with
  | blower => exact h.blowerTakesPlan.settleHeater
  | heater => exact h.settleHeater
  | clutch => exact h.clutchTakesPlan

/-- A trip with what the heater interlock makes of it (R122, R124). -/
theorem State.DriveFollowed.trip {s : State} (h : s.DriveFollowed) {c : Channel} {k : TripCause} (fits : k.fits c = true)
    (driving : (s.drive.channel c).driving = true) : (s.trip c k).DriveFollowed := by
  refine (h.tripChannel fits ?_).settleHeater
  rcases (OutputChannel.driving_iff _).1 driving with state | state <;> rw [state] <;> rfl

/-! ### The return to Off -/

theorem State.endTrip_freezeSound {s : State} (h : s.cond.FreezeSound) (c : Channel) : (s.endTrip c).cond.FreezeSound := by
  cases c with
  | blower => exact State.lower_freezeSound (State.lower_freezeSound h .blowerTrip) .blowerStall
  | heater => exact State.lower_freezeSound h .heaterTrip
  | clutch => exact State.lower_freezeSound h .clutchTrip

theorem State.backInOff_freezeSound {s : State} (h : s.cond.FreezeSound) (c : Channel) : (s.backInOff c).cond.FreezeSound := by
  let t := s.mapDrive fun d => d.setChannel { d.channel c with state := .off, cooldown := .stopped } c
  have ended : (t.endTrip c).cond.FreezeSound := State.endTrip_freezeSound (s := t) h c
  have released := State.lower_freezeSound ended .channelLocked
  unfold State.backInOff State.when
  dsimp only
  split
  · exact released
  · exact ended

/-- A channel back in Off waits after no trip, and its trip conditions have ended (R126, R128). -/
theorem State.DriveFollowed.backInOff {s : State} (h : s.DriveFollowed) (c : Channel) : (s.backInOff c).DriveFollowed where
  freeze := State.backInOff_freezeSound h.freeze c
  locked := h.locked.backInOff c
  trips e := by
    have active {d : Condition} (own : e.trips d = true) : inSet (s.backInOff c).cond.active d =
        (inSet s.cond.active d && !c.trips d) :=
      s.backInOff_active c fun is => absurd (is ▸ own) (by rw [e.trips_channelLocked]; decide)
    rw [(s.backInOff_frame c).2.2.2]
    by_cases same : e = c
    · subst same
      have ended : (s.backInOff e).tripActive e = false := Bool.eq_false_iff.2 fun k => by
        obtain ⟨d, own, now⟩ := (State.tripActive_iff _ _).1 k
        simp [active own, own] at now
      rw [ended, DriveUnit.channel_setChannel]
      rfl
    · rw [DriveUnit.channel_setChannel_of_ne _ _ same, ← h.trips]
      refine State.tripActive_congr fun d own => ?_
      rw [active own, Bool.eq_false_iff.2 fun k => same (Channel.trips_inj own k)]
      simp

theorem State.DriveFollowed.channelEntersOff {s : State} (h : s.DriveFollowed) (c : Channel) : (s.channelEntersOff c).DriveFollowed :=
  (h.backInOff c).channelTakesPlan c

/-- No channel has come to wait after a trip or to be Locked, and none has ceased to. -/
theorem State.DriveFollowed.alike {s t : State} (h : s.DriveFollowed) (cond : t.cond = s.cond)
    (afterTrip : ∀ c : Channel, (t.drive.channel c).state.afterTrip = (s.drive.channel c).state.afterTrip)
    (locked : ∀ c : Channel, (t.drive.channel c).state = .locked ↔ (s.drive.channel c).state = .locked) : t.DriveFollowed where
  freeze := cond ▸ h.freeze
  locked := h.locked.congr (by rw [cond]) (DriveUnit.anyLocked_congr locked)
  trips c := by rw [State.tripActive_congr (s := s) fun d _ => by rw [cond], h.trips, afterTrip]

/-- A channel replaced by one in a state the conditions do not tell from its own. -/
theorem State.DriveFollowed.setChannel {s : State} (h : s.DriveFollowed) {c : Channel} {x : OutputChannel}
    (afterTrip : x.state.afterTrip = (s.drive.channel c).state.afterTrip)
    (locked : x.state = .locked ↔ (s.drive.channel c).state = .locked) : (s.mapDrive fun d => d.setChannel x c).DriveFollowed := by
  refine h.alike rfl (fun e => ?_) fun e => ?_ <;> rw [State.mapDrive_drive] <;> by_cases same : e = c
  · rw [same, DriveUnit.channel_setChannel, afterTrip]
  · rw [DriveUnit.channel_setChannel_of_ne _ _ same]
  · rw [same, DriveUnit.channel_setChannel, locked]
  · rw [DriveUnit.channel_setChannel_of_ne _ _ same]

theorem State.DriveFollowed.unlockChannel {s : State} (h : s.DriveFollowed) (c : Channel) : (s.unlockChannel c).DriveFollowed := by
  unfold State.unlockChannel
  split
  · exact (h.setChannel (c := c) (x := { s.drive.channel c with trips := 0 }) rfl Iff.rfl).channelEntersOff c
  · exact h

/-! ### The actuators, the plans and the take -/

/-- An act of a damper touches no channel, and of the conditions its own stall alone (R138). -/
theorem State.DriveFollowed.applyActuator {s : State} (h : s.DriveFollowed) (x : Damper) (r : ActuatorStep) :
    (s.applyActuator x r).DriveFollowed := by
  have moved : (s.mapDrive fun d => d.setActuator r.act x).DriveFollowed :=
    h.still rfl fun c => by cases x <;> cases c <;> rfl
  unfold State.applyActuator
  dsimp only
  split
  · exact moved
  · exact moved.setCond _ (fun e => by cases x <;> cases e <;> rfl) (by cases x <;> decide)

theorem State.DriveFollowed.handPlan {s : State} (h : s.DriveFollowed) (q : Plan) : (s.handPlan q).DriveFollowed := by
  have planned : (s.mapDrive fun d => { d with plan := q }).DriveFollowed := h.still rfl fun c => by cases c <;> rfl
  exact (planned.channelsTakePlan.applyActuator .fresh _).applyActuator .blend _

theorem State.DriveFollowed.changeTake {s : State} (h : s.DriveFollowed) (f : ShareUnit → ShareUnit) :
    (s.changeTake f).DriveFollowed := by
  have taken : (s.mapShare f).DriveFollowed := h.still rfl fun _ => rfl
  unfold State.changeTake
  dsimp only
  split
  · exact taken.handPlan _
  · exact taken

theorem State.DriveFollowed.settleFresh {s : State} (h : s.DriveFollowed) : s.settleFresh.DriveFollowed :=
  State.DriveFollowed.applyActuator (s := s.mapAir _) (h.still rfl fun _ => rfl) .fresh _

end Sys2Proof.Machine
end

section
/-! The conditions of the owners outside the Drive Unit (Table 11-1): what each owner says of its condition, and the acts that leave
what they say alone. -/

namespace Sys2Proof.Machine

/-! ### What the owners say -/

/-- What the owner of a condition says of it, where one outside the Drive Unit owns it and is followed (Table 11-1). -/
def State.owners (s : State) : Condition → Option Bool
  | .supplyLow => some (decide (s.node.state = .supplyLow))
  | .addressConflict => some s.line.listenOnly
  | .lineOff => some (!s.line.lineOn)
  | .lineDegraded => some s.line.degraded
  | .isolated => some s.line.isolated
  | .allowanceLost => some (decide (s.allowance.state = .lost))
  | .smokeHigh => some s.air.smokeHigh
  | .purgeTimeout => some s.air.lockout.isRunning
  | .cabTempFault => some (s.input.sensors.get .cabTemp).fault
  | .dischargeTempFault => some (s.input.sensors.get .dischargeTemp).fault
  | .intakeTempFault => some (s.input.sensors.get .intakeTemp).fault
  | .intakeSmokeFault => some (s.input.sensors.get .intakeSmoke).fault
  | .cabSmokeFault => some (s.input.sensors.get .cabSmoke).fault
  | _ => none

/-- The conditions of the other blocks of which `o` says something are active exactly as it says. -/
def State.FollowsOwners (s : State) (o : Condition → Option Bool) : Prop :=
  ∀ c b, c.ofDrive = false → o c = some b → inSet s.cond.active c = b

theorem Sensor.fault_other (x : Sensor) : x.fault.ofDrive = false := by cases x <;> rfl

theorem State.owners_fault (s : State) (x : Sensor) : s.owners x.fault = some (s.input.sensors.get x).fault := by cases x <;> rfl

/-! ### Acts that leave what the owners say alone -/

/-- What the Air Unit says of its two conditions. -/
def AirUnit.told (a : AirUnit) : Bool × Bool := (a.smokeHigh, a.lockout.isRunning)

/-- What the Line Interface says of its four conditions. -/
def LineInterface.told (l : LineInterface) : Bool × Bool × Bool × Bool := (l.listenOnly, l.lineOn, l.degraded, l.isolated)

theorem LineInterface.told_of_unmarked {l m : LineInterface} (h : m.unmarked = l.unmarked) : m.told = l.told := by
  rw [LineInterface.eq_of_unmarked h]
  rfl

/-- The Demand and Status timing says nothing of a condition. -/
theorem LineInterface.told_of_same {l m : LineInterface} (h : l.sameOutsideSlots m) : m.told = l.told := by
  rw [h.1]
  rfl

theorem State.owners_congr {s t : State} (node : t.node.state = s.node.state) (line : t.line.told = s.line.told)
    (allowance : t.allowance.state = s.allowance.state) (air : t.air.told = s.air.told)
    (faults : ∀ x, (t.input.sensors.get x).fault = (s.input.sensors.get x).fault) : t.owners = s.owners := by
  obtain ⟨smoke, lockout⟩ := Prod.mk.inj air
  simp only [LineInterface.told, Prod.mk.injEq] at line
  obtain ⟨listenOnly, lineOn, degraded, isolated⟩ := line
  funext c
  cases c <;> simp only [State.owners, node, listenOnly, lineOn, degraded, isolated, allowance, smoke, lockout, faults]

@[simp] theorem State.mapAir_owners {f : AirUnit → AirUnit} {s : State} (told : (f s.air).told = s.air.told) :
    (s.mapAir f).owners = s.owners :=
  State.owners_congr rfl rfl rfl told fun _ => rfl

@[simp] theorem State.mapDrive_owners (f : DriveUnit → DriveUnit) (s : State) : (s.mapDrive f).owners = s.owners := rfl

@[simp] theorem State.mapShare_owners (f : ShareUnit → ShareUnit) (s : State) : (s.mapShare f).owners = s.owners := rfl

@[simp] theorem State.raise_owners (c : Condition) (s : State) : (s.raise c).owners = s.owners :=
  State.owners_congr (by simp) (LineInterface.told_of_unmarked (by simp)) (by simp) (by simp) (by simp)

@[simp] theorem State.lower_owners (c : Condition) (s : State) : (s.lower c).owners = s.owners :=
  State.owners_congr (by simp) (LineInterface.told_of_unmarked (by simp)) (by simp) (by simp) (by simp)

@[simp] theorem State.setCond_owners (b : Bool) (c : Condition) (s : State) : (s.setCond b c).owners = s.owners :=
  State.owners_congr (by simp) (LineInterface.told_of_unmarked (by simp)) (by simp) (by simp) (by simp)

@[simp] theorem State.tripChannel_owners (c : Channel) (k : TripCause) (s : State) : (s.tripChannel c k).owners = s.owners := by
  refine State.owners_congr (by simp) (LineInterface.told_of_unmarked (by simp)) (by simp) ?_ (by simp)
  rw [State.tripChannel_air_eq]
  split <;> rfl

@[simp] theorem State.blowerTakesPlan_owners (s : State) : s.blowerTakesPlan.owners = s.owners :=
  State.owners_congr (by simp) (LineInterface.told_of_unmarked (by simp)) (by simp) (by simp) (by simp)

@[simp] theorem State.settleHeater_owners (s : State) : s.settleHeater.owners = s.owners :=
  State.owners_congr (by simp) (LineInterface.told_of_unmarked (by simp)) (by simp) (by simp) (by simp)

@[simp] theorem State.clutchTakesPlan_owners (s : State) : s.clutchTakesPlan.owners = s.owners :=
  State.owners_congr (by simp) (LineInterface.told_of_unmarked (by simp)) (by simp) (by rw [s.clutchTakesPlan_reported.2]; rfl) (by simp)

@[simp] theorem State.channelTakesPlan_owners (c : Channel) (s : State) : (State.channelTakesPlan c s).owners = s.owners := by
  cases c <;> simp [State.channelTakesPlan]

@[simp] theorem State.channelsTakePlan_owners (s : State) : s.channelsTakePlan.owners = s.owners := by
  simp [State.channelsTakePlan]

@[simp] theorem State.trip_owners (c : Channel) (k : TripCause) (s : State) : (s.trip c k).owners = s.owners := by
  simp [State.trip]

@[simp] theorem State.endTrip_owners (c : Channel) (s : State) : (s.endTrip c).owners = s.owners := by
  cases c <;> simp [State.endTrip]

@[simp] theorem State.channelEntersOff_owners (c : Channel) (s : State) : (s.channelEntersOff c).owners = s.owners := by
  unfold State.channelEntersOff State.when
  dsimp only
  split <;> simp

@[simp] theorem State.unlockChannel_owners (c : Channel) (s : State) : (s.unlockChannel c).owners = s.owners := by
  unfold State.unlockChannel
  split <;> simp

@[simp] theorem State.applyActuator_owners (x : Damper) (r : ActuatorStep) (s : State) : (s.applyActuator x r).owners = s.owners := by
  unfold State.applyActuator
  dsimp only
  split <;> simp

@[simp] theorem State.handPlan_owners (q : Plan) (s : State) : (s.handPlan q).owners = s.owners := by
  simp [State.handPlan, State.actuatorTakesPlan]

@[simp] theorem State.changeTake_owners (f : ShareUnit → ShareUnit) (s : State) : (s.changeTake f).owners = s.owners := by
  unfold State.changeTake
  dsimp only
  split <;> simp [State.makePlan]

@[simp] theorem State.settleFresh_owners (s : State) : s.settleFresh.owners = s.owners :=
  State.owners_congr (by simp) (LineInterface.told_of_unmarked (by simp)) (by simp) (by rw [s.settleFresh_air]; rfl) (by simp)

/-! ### Conditions followed -/

/-- None of the conditions followed has changed. -/
theorem State.FollowsOwners.same {s t : State} {o : Condition → Option Bool} (h : s.FollowsOwners o)
    (active : ∀ c, c.ofDrive = false → inSet t.cond.active c = inSet s.cond.active c) : t.FollowsOwners o :=
  fun c b other said => (active c other).trans (h c b other said)

/-- A condition follows what is newly said of it. -/
theorem State.FollowsOwners.setCond {s : State} {o : Condition → Option Bool} (h : s.FollowsOwners o) (b : Bool) (c : Condition) :
    (s.setCond b c).FollowsOwners (Function.update o c (some b)) := by
  intro d w other said
  rw [Function.update_apply] at said
  rw [State.setCond_active]
  split at said
  next same => rw [if_pos same, Option.some.inj said]
  next differ =>
    rw [if_neg differ]
    exact h d w other said

/-- A condition of which nothing is said may arise or end. -/
theorem State.FollowsOwners.setCond_untied {s : State} {o : Condition → Option Bool} (h : s.FollowsOwners o) (b : Bool) {c : Condition}
    (untied : o c = none) : (s.setCond b c).FollowsOwners o := by
  intro d w other said
  rw [State.setCond_active, if_neg fun same : d = c => by simp [same, untied] at said]
  exact h d w other said

end Sys2Proof.Machine
end

section
/-! The conditions with their owners through what the blocks do in an event: acts of the drives, changes of the take, the air expiry,
the receptions, and the changes of the node state (Table 11-1). -/

namespace Sys2Proof.Machine

/-! ### The laws -/

/-- The conditions follow their owners, and the freeze keeps its laws (R147 to R151, Table 11-1). -/
structure State.CondsSound (s : State) : Prop where
  drive : s.DriveFollowed
  others : s.FollowsOwners s.owners

theorem State.Inv.condsSound {s : State} (inv : s.Inv) : s.CondsSound := by
  refine ⟨inv.driveFollowed, fun c b _ said => ?_⟩
  obtain ⟨supplyLow, conflict, lineOff, degraded, isolated, lost, smoke, purge, fault, -⟩ := inv.owners
  have owned {w : Bool} (k : s.follows c w) (own : s.owners c = some w) : inSet s.cond.active c = b :=
    k.trans (Option.some.inj (own.symm.trans said))
  cases c with
  | supplyLow => exact owned supplyLow rfl
  | addressConflict => exact owned conflict rfl
  | lineOff => exact owned lineOff rfl
  | lineDegraded => exact owned degraded rfl
  | isolated => exact owned isolated rfl
  | allowanceLost => exact owned lost rfl
  | smokeHigh => exact owned smoke rfl
  | purgeTimeout => exact owned purge rfl
  | cabTempFault => exact owned (fault .cabTemp) rfl
  | dischargeTempFault => exact owned (fault .dischargeTemp) rfl
  | intakeTempFault => exact owned (fault .intakeTemp) rfl
  | intakeSmokeFault => exact owned (fault .intakeSmoke) rfl
  | cabSmokeFault => exact owned (fault .cabSmoke) rfl
  | _ => exact (nomatch said)

theorem State.CondsSound.laws {s : State} (h : s.CondsSound) : s.ownersFollowed ∧ s.freezeLaws := by
  obtain ⟨⟨freeze, locked, trips⟩, others⟩ := h
  have said {c : Condition} {b : Bool} (own : s.owners c = some b) (other : c.ofDrive = false) : s.follows c b :=
    others c b other own
  have heater := (Bool.or_false _).symm.trans (trips .heater)
  have clutch := (Bool.or_false _).symm.trans (trips .clutch)
  exact ⟨⟨said rfl rfl, said rfl rfl, said rfl rfl, said rfl rfl, said rfl rfl, said rfl rfl, said rfl rfl, said rfl rfl,
    fun x => said (s.owners_fault x) x.fault_other, locked, heater, clutch, trips .blower⟩, s.freezeLaws_iff.2 freeze⟩

/-! ### Acts on one block -/

/-- Nothing that the laws rest on has changed. -/
theorem State.CondsSound.still {s t : State} (h : s.CondsSound) (cond : t.cond = s.cond) (owners : t.owners = s.owners)
    (states : ∀ c : Channel, (t.drive.channel c).state = (s.drive.channel c).state) : t.CondsSound :=
  ⟨h.drive.still cond states, owners ▸ h.others.same fun _ _ => by rw [cond]⟩

/-- The drives act, and no other owner says otherwise. -/
theorem State.CondsSound.of_drive {s t : State} (h : s.CondsSound) (drive : t.DriveFollowed) (owners : t.owners = s.owners)
    (active : ∀ c, c.ofDrive = false → inSet t.cond.active c = inSet s.cond.active c) : t.CondsSound :=
  ⟨drive, owners ▸ h.others.same active⟩

/-- One owner outside the Drive Unit says otherwise, and its condition follows. -/
theorem State.CondsSound.setCond {s t : State} (h : s.CondsSound) {b : Bool} {c : Condition} (other : c.ofDrive = false)
    (cond : t.cond = s.cond) (drive : t.drive = s.drive) (owners : t.owners = Function.update s.owners c (some b)) :
    (t.setCond b c).CondsSound := by
  refine ⟨(h.drive.still cond fun _ => by rw [drive]).setCond_other b other, ?_⟩
  rw [State.setCond_owners, owners]
  exact State.FollowsOwners.setCond (h.others.same fun _ _ => by rw [cond]) b c

/-- A condition that no law ties to its owner. -/
theorem State.CondsSound.setCond_untied {s : State} (h : s.CondsSound) (b : Bool) {c : Condition} (other : c.ofDrive = false)
    (untied : s.owners c = none) : (s.setCond b c).CondsSound :=
  ⟨h.drive.setCond_other b other, s.setCond_owners b c ▸ h.others.setCond_untied b untied⟩

theorem State.mapNode_owners (f : NodeControl → NodeControl) (s : State) :
    (s.mapNode f).owners = Function.update s.owners .supplyLow (some (decide ((f s.node).state = .supplyLow))) :=
  funext fun d => by cases d <;> rfl

theorem State.CondsSound.mapNode {s : State} (h : s.CondsSound) {f : NodeControl → NodeControl}
    (state : (f s.node).state = .supplyLow ↔ s.node.state = .supplyLow) : (s.mapNode f).CondsSound := by
  refine h.still rfl ?_ fun _ => rfl
  rw [State.mapNode_owners, decide_eq_decide.2 state]
  exact Function.update_eq_self Condition.supplyLow s.owners

theorem State.CondsSound.mapLine {s : State} (h : s.CondsSound) {f : LineInterface → LineInterface}
    (told : (f s.line).told = s.line.told) : (s.mapLine f).CondsSound :=
  h.still rfl (State.owners_congr rfl told rfl rfl fun _ => rfl) fun _ => rfl

theorem State.CondsSound.mapPeers {s : State} (h : s.CondsSound) (f : PeerTable → PeerTable) : (s.mapPeers f).CondsSound :=
  h.still rfl rfl fun _ => rfl

theorem State.CondsSound.mapShare {s : State} (h : s.CondsSound) (f : ShareUnit → ShareUnit) : (s.mapShare f).CondsSound :=
  h.still rfl rfl fun _ => rfl

theorem State.CondsSound.mapAir {s : State} (h : s.CondsSound) {f : AirUnit → AirUnit} (told : (f s.air).told = s.air.told) :
    (s.mapAir f).CondsSound :=
  h.still rfl (State.mapAir_owners told) fun _ => rfl

/-- The Air Unit alone has changed, and says of its conditions what it did. -/
theorem State.CondsSound.of_air {s t : State} (h : s.CondsSound) (same : t = { s with air := t.air })
    (told : t.air.told = s.air.told) : t.CondsSound := by
  rw [same]
  exact h.mapAir (f := fun _ => t.air) told

theorem State.CondsSound.mapInput {s : State} (h : s.CondsSound) {f : InputUnit → InputUnit}
    (faults : ∀ x, ((f s.input).sensors.get x).fault = (s.input.sensors.get x).fault) : (s.mapInput f).CondsSound :=
  h.still rfl (State.owners_congr rfl rfl rfl rfl faults) fun _ => rfl

/-- A request on the Condition Unit, which touches no condition's activity (R149 to R151). -/
theorem State.CondsSound.mapCond {s : State} (h : s.CondsSound) {f : ConditionUnit → ConditionUnit} (freeze : (f s.cond).FreezeSound)
    (active : (f s.cond).active = s.cond.active) : (s.mapCond f).CondsSound := by
  have same (c : Condition) : inSet (s.mapCond f).cond.active c = inSet s.cond.active c := by rw [State.mapCond_cond, active]
  exact ⟨h.drive.same freeze (fun _ d _ => same d) (same _) fun _ => rfl, h.others.same fun c _ => same c⟩

theorem State.CondsSound.handDemand {s : State} (h : s.CondsSound) : s.handDemand.CondsSound :=
  h.mapLine (LineInterface.told_of_same s.handDemand_same)

theorem State.CondsSound.when {s : State} (h : s.CondsSound) {b : Bool} {f : State → State}
    (k : b = true → (f s).CondsSound) : (s.when b f).CondsSound := by
  cases b with
  | false => exact h
  | true => exact k rfl

/-! ### The drives and the take -/

theorem State.CondsSound.applyActuator {s : State} (h : s.CondsSound) (x : Damper) (r : ActuatorStep) :
    (s.applyActuator x r).CondsSound :=
  h.of_drive (h.drive.applyActuator x r) (by simp) fun _ other => by simp [other]

theorem State.CondsSound.trip {s : State} (h : s.CondsSound) {c : Channel} {k : TripCause} (fits : k.fits c = true)
    (driving : (s.drive.channel c).driving = true) : (s.trip c k).CondsSound :=
  h.of_drive (h.drive.trip fits driving) (by simp) fun _ other => by simp [State.trip, other]

theorem State.CondsSound.channelEntersOff {s : State} (h : s.CondsSound) (c : Channel) : (s.channelEntersOff c).CondsSound :=
  h.of_drive (h.drive.channelEntersOff c) (by simp) fun _ other => by simp [other]

theorem State.CondsSound.unlockChannel {s : State} (h : s.CondsSound) (c : Channel) : (s.unlockChannel c).CondsSound :=
  h.of_drive (h.drive.unlockChannel c) (by simp) fun _ other => by simp [other]

theorem State.CondsSound.channelsUnlock {s : State} (h : s.CondsSound) (b1 : Byte) : (s.channelsUnlock b1).CondsSound := by
  have blower := h.when (b := b1.getLsbD 0) fun _ => h.unlockChannel .blower
  have heater := blower.when (b := b1.getLsbD 1) fun _ => blower.unlockChannel .heater
  exact heater.when fun _ => heater.unlockChannel .clutch

theorem State.CondsSound.setChannel {s : State} (h : s.CondsSound) {c : Channel} {x : OutputChannel}
    (afterTrip : x.state.afterTrip = (s.drive.channel c).state.afterTrip)
    (locked : x.state = .locked ↔ (s.drive.channel c).state = .locked) : (s.mapDrive fun d => d.setChannel x c).CondsSound :=
  h.of_drive (h.drive.setChannel afterTrip locked) rfl fun _ _ => rfl

theorem State.CondsSound.handPlan {s : State} (h : s.CondsSound) (q : Plan) : (s.handPlan q).CondsSound :=
  h.of_drive (h.drive.handPlan q) (by simp) fun _ other => by simp [other]

theorem State.CondsSound.changeTake {s : State} (h : s.CondsSound) (f : ShareUnit → ShareUnit) : (s.changeTake f).CondsSound :=
  h.of_drive (h.drive.changeTake f) (by simp) fun _ other => by simp [other]

theorem State.CondsSound.settleFresh {s : State} (h : s.CondsSound) : s.settleFresh.CondsSound :=
  h.of_drive h.drive.settleFresh (by simp) fun _ other => by simp [other]

/-! ### The air expiry -/

theorem State.CondsSound.composeClass {s : State} (h : s.CondsSound) : s.composeClass.CondsSound :=
  h.of_air rfl rfl

theorem State.CondsSound.sourceChanged {s : State} (h : s.CondsSound) : s.sourceChanged.CondsSound := h.composeClass.settleFresh

theorem State.sourceTests_told (s : State) : s.sourceTests.told = s.air.told := by
  rw [s.sourceTests_leaves]
  rfl

theorem heaterStep_told (p : Params) (e : Option Int) (found : Bool) (a : AirUnit) : (heaterStep p e found a).told = a.told := by
  rw [heaterStep_leaves]
  rfl

/-- SmokeHigh follows its flag (R68). -/
theorem State.CondsSound.settleSmoke {s : State} (h : s.CondsSound) : s.settleSmoke.CondsSound :=
  h.setCond (t := s.mapAir fun a => { a with smokeHigh := smokeHighOf s.params (s.reading .intakeSmoke) s.air.smokeHigh })
    (c := .smokeHigh) rfl rfl rfl (funext fun d => by cases d <;> rfl)

theorem State.CondsSound.airStages {s : State} (h : s.CondsSound) : s.airStages.CondsSound := by
  have judged : s.settleSmoke.settleCause.CondsSound := h.settleSmoke.of_air rfl rfl
  have ran : s.settleSmoke.settleCause.runSource.CondsSound := judged.mapAir (State.sourceTests_told _)
  have defrosts : s.settleSmoke.settleCause.runSource.settleDefrost.CondsSound := ran.of_air rfl rfl
  exact defrosts.composeClass.settleFresh

theorem State.CondsSound.settleBlend {s : State} (h : s.CondsSound) : s.settleBlend.CondsSound :=
  (h.mapAir (f := fun a => { a with blend := s.blendNow }) rfl).applyActuator .blend _

theorem State.CondsSound.settleHeaterWant {s : State} (h : s.CondsSound) (found : Bool) : (s.settleHeaterWant found).CondsSound :=
  h.of_air rfl (heaterStep_told _ _ _ _)

/-- HolderConflict arises and ends by the views alone, of which the laws say nothing (R94). -/
theorem State.CondsSound.settleHolder {s : State} (h : s.CondsSound) : s.settleHolder.CondsSound :=
  (h.mapAir (f := fun a => { a with actingHolder := s.node.hold && !s.lowerHolderHeard }) rfl).setCond_untied _ rfl rfl

theorem State.CondsSound.airWants {s : State} (h : s.CondsSound) (found : Bool) : (s.airWants found).CondsSound := by
  have discharge : s.settleDischarge.CondsSound := h.of_air rfl rfl
  have heater := discharge.settleBlend.settleHeaterWant found
  have blower : (s.settleDischarge.settleBlend.settleHeaterWant found).settleBlower.CondsSound := heater.of_air rfl rfl
  have cooling : (s.settleDischarge.settleBlend.settleHeaterWant found).settleBlower.settleCooling.CondsSound := blower.of_air rfl rfl
  have clutch : (s.settleDischarge.settleBlend.settleHeaterWant found).settleBlower.settleCooling.settleHolder.settleClutch.CondsSound :=
    cooling.settleHolder.of_air rfl rfl
  exact (clutch.setCond_untied (c := .coolingUnavailable) _ rfl rfl).of_air rfl rfl

theorem State.CondsSound.airWork {s : State} (h : s.CondsSound) : s.airWork.CondsSound :=
  (((h.mapAir (f := fun a => { a with timer := Timer.start }) rfl).airStages).airWants _).handPlan _

/-! ### Receptions -/

/-- Isolated follows its flag (R13). -/
theorem State.CondsSound.setIsolated {s : State} (h : s.CondsSound) : s.setIsolated.CondsSound :=
  State.CondsSound.changeTake (h.setCond (t := s.mapLine fun l => { l with isolated := true }) (b := true) (c := .isolated) rfl rfl rfl
    (funext fun d => by cases d <;> rfl)) _

theorem State.CondsSound.clearIsolated {s : State} (h : s.CondsSound) : s.clearIsolated.CondsSound :=
  State.CondsSound.changeTake (h.setCond (t := s.mapLine fun l => { l with isolated := false }) (b := false) (c := .isolated) rfl rfl
    rfl (funext fun d => by cases d <;> rfl)) _

/-- LineDegraded follows its flag (R12). -/
theorem State.CondsSound.countReception {s : State} (h : s.CondsSound) (bad : Bool) : (s.countReception bad).CondsSound := by
  refine h.setCond (t := s.mapLine (LineInterface.countReception s.params.errorLimit bad)) rfl rfl rfl (funext fun d => ?_)
  rw [State.mapLine, LineInterface.countReception_eq]
  cases d <;> rfl

theorem State.CondsSound.heardWellFormed {s : State} (h : s.CondsSound) : s.heardWellFormed.CondsSound := by
  have restarted : (s.mapLine (LineInterface.restartSilence s.params)).CondsSound := h.mapLine rfl
  rw [State.heardWellFormed_eq]
  exact restarted.when fun _ => restarted.clearIsolated

theorem State.CondsSound.heardGood {s : State} (h : s.CondsSound) : s.heardGood.CondsSound :=
  (h.countReception false).heardWellFormed

theorem State.setIsolated_owners (s : State) : s.setIsolated.owners = Function.update s.owners .isolated (some true) := by
  rw [State.setIsolated, State.changeTake_owners, State.raise_owners]
  exact funext fun d => by cases d <;> rfl

theorem State.enterListenOnly_owners (s : State) : s.enterListenOnly.owners =
    Function.update (Function.update s.owners .isolated (some true)) .addressConflict (some true) := by
  rw [← s.raise_owners .addressConflict, ← State.setIsolated_owners]
  exact funext fun d => by cases d <;> rfl

/-- The entry into Listen-only sets its own flag and Isolated, each followed by its condition (R14). -/
theorem State.CondsSound.enterListenOnly {s : State} (h : s.CondsSound) : s.enterListenOnly.CondsSound := by
  refine ⟨?_, ?_⟩
  · have raised := h.drive.setCond_other true (c := .addressConflict) rfl
    have isolated := State.DriveFollowed.setCond_other (s := (s.raise .addressConflict).mapLine fun l => { l with isolated := true })
      (raised.still rfl fun _ => rfl) true (c := .isolated) rfl
    exact (isolated.changeTake _).still rfl fun _ => rfl
  · have followed := (h.others.setCond true .isolated).setCond true .addressConflict
    rw [s.enterListenOnly_owners]
    exact followed.same fun d other => by simp [State.enterListenOnly_active, other, Bool.or_comm, Bool.or_left_comm]

theorem State.CondsSound.heardConflict {s : State} (h : s.CondsSound) : s.heardConflict.CondsSound := by
  have counted : ((s.countReception false).mapLine (LineInterface.restartSilence s.params)).CondsSound :=
    (h.countReception false).mapLine rfl
  unfold State.heardConflict
  dsimp only
  split
  · exact counted
  · exact counted.enterListenOnly

/-- An arrival ends the loss, and the condition with it (R31). -/
theorem State.CondsSound.allowanceArrives {s : State} (h : s.CondsSound) (b0 b1 b2 : Byte) :
    (s.allowanceArrives b0 b1 b2).CondsSound :=
  h.setCond (t := s.mapAllowance (AllowanceStore.arrive b0 b1 b2)) (b := false) (c := .allowanceLost) rfl rfl rfl
    (funext fun d => by cases d <;> rfl)

theorem State.CondsSound.panelArrives {s : State} (h : s.CondsSound) (d : PanelBytes) : (s.panelArrives d).CondsSound := by
  have settings : (s.mapAir (AirUnit.takeSettings d)).CondsSound := h.mapAir rfl
  have overrides (a : AirUnit) : (a.takeOverrides d).told = a.told := by
    unfold AirUnit.takeOverrides
    split <;> rfl
  unfold State.panelArrives
  dsimp only
  split
  · exact (settings.mapAir (overrides _)).settleFresh
  · exact settings

theorem LineInterface.handReport_told (c : Report) (l : LineInterface) : (l.handReport c).told = l.told := by
  rw [LineInterface.handReport_eq]
  rfl

theorem State.CondsSound.conditionReads {s : State} (h : s.CondsSound) : s.conditionReads.CondsSound :=
  (h.mapCond h.drive.freeze.freeze rfl).mapLine (LineInterface.handReport_told _ _)

theorem ConditionUnit.release_active (u : ConditionUnit) : u.release.active = u.active := by
  unfold ConditionUnit.release
  split <;> rfl

theorem State.CondsSound.conditionReleases {s : State} (h : s.CondsSound) : s.conditionReleases.CondsSound :=
  h.mapCond h.drive.freeze.release s.cond.release_active

theorem State.CondsSound.rehome {s : State} (h : s.CondsSound) (x : Damper) : (s.rehome x).CondsSound := h.applyActuator x _

/-- A frame taken in keeps the conditions with their owners, whatever its sorting. -/
theorem State.CondsSound.hears {s : State} (h : s.CondsSound) (o : Sorted) : (s.hears o).CondsSound := by
  have good := h.heardGood
  cases o with
  | outside => exact h.heardWellFormed
  | conflict => exact h.heardConflict
  | badLength => exact h.countReception true
  | ignored => exact good
  | allowance b0 b1 b2 => exact good.allowanceArrives b0 b1 b2
  | demand n d => exact good.mapPeers _
  | panel d => exact good.panelArrives d
  | conditionRead => exact good.conditionReads
  | conditionClear b1 b2 b3 => exact good.mapCond (good.drive.freeze.clear _) rfl
  | conditionRelease => exact good.conditionReleases
  | channelUnlock b1 => exact good.channelsUnlock b1
  | rehome => exact (good.rehome .fresh).rehome .blend

theorem State.CondsSound.receives {s : State} (h : s.CondsSound) (r : Reception) : (s.receives r).CondsSound := by
  cases r with
  | error => exact h.countReception true
  | frame f => exact h.hears _

end Sys2Proof.Machine
end

section
/-! The conditions with their owners through the changes of the node state, the end of an event, and the window closes (R108 to R110,
R156 to R159, Table 11-1). -/

namespace Sys2Proof.Machine

/-! ### Sleep and the end of an event -/

theorem State.lowerSensorFaults_active (s : State) (c : Condition) : inSet s.lowerSensorFaults.cond.active c =
    (inSet s.cond.active c && !allSensors.any fun x => decide (c = x.fault)) := by
  simp [State.lowerSensorFaults, allSensors, Bool.and_assoc]

/-- What the entry into Sleep leaves active (R11 to R13, R34, R84, R116). -/
theorem State.lowerAtSleep_active (s : State) (c : Condition) : inSet s.lowerAtSleep.cond.active c =
    (inSet s.cond.active c && !c.endsAtSleep && (decide (c ≠ .isolated) || s.line.listenOnly)) := by
  cases silent : s.line.listenOnly <;> cases c <;>
    simp [State.lowerAtSleep, State.when, State.lowerSensorFaults_active, allSensors, Sensor.fault, Condition.endsAtSleep, silent]

theorem State.DriveFollowed.lowerAtSleep {s : State} (h : s.DriveFollowed) : s.lowerAtSleep.DriveFollowed := by
  have line := (h.setCond_other false (c := .lineOff) rfl).setCond_other false (c := .lineDegraded) rfl
  have isolated := line.when (b := !s.line.listenOnly) fun _ => line.setCond_other false (c := .isolated) rfl
  have lost := isolated.setCond_other false (c := .allowanceLost) rfl
  have faults := List.foldlRecOn (motive := State.DriveFollowed) allSensors (fun t x => t.lower x.fault) lost fun t k x _ =>
    k.setCond_other false x.fault_other
  exact (faults.setCond_other false (c := .smokeHigh) rfl).setCond_other false (c := .purgeTimeout) rfl

theorem State.DriveFollowed.enterSleep {s : State} (h : s.DriveFollowed) : s.enterSleep.DriveFollowed := by
  have asleep {t : State} (k : t.DriveFollowed) :
      ((t.mapNode NodeControl.sleep).mapDrive fun d => { d with plan := d.plan.sleep }).DriveFollowed :=
    k.still rfl fun c => by cases c <;> rfl
  have rests {t : State} (k : t.DriveFollowed) : (t.mapDrive DriveUnit.sleepActuators).DriveFollowed :=
    k.still rfl fun c => by cases c <;> rfl
  exact (rests (asleep h.lowerAtSleep).channelsTakePlan).still rfl fun _ => rfl

/-- What the owners say at the entry into Sleep from a state other than SupplyLow: what ends there has ended. -/
theorem State.enterSleep_owners {s : State} (away : s.node.state ≠ .supplyLow) (c : Condition) : s.enterSleep.owners c =
    (s.owners c).map fun b => b && !c.endsAtSleep && (decide (c ≠ .isolated) || s.line.listenOnly) := by
  have allowance : s.enterSleep.allowance = s.allowance.sleep := by simp [State.enterSleep]
  have told : s.enterSleep.air.told = (false, false) := rfl
  have faults (x : Sensor) : (s.enterSleep.input.sensors.get x).fault = false := by cases x <;> rfl
  obtain ⟨smoke, lockout⟩ := Prod.mk.inj told
  cases c <;> simp [State.owners, s.enterSleep_node, s.enterSleep_line, allowance, smoke, lockout, faults, away, NodeControl.sleep,
    LineInterface.sleep, AllowanceStore.sleep, Condition.endsAtSleep]

theorem State.CondsSound.enterSleep {s : State} (h : s.CondsSound) (away : s.node.state ≠ .supplyLow) : s.enterSleep.CondsSound := by
  refine ⟨h.drive.enterSleep, fun c b other said => ?_⟩
  rw [State.enterSleep_owners away] at said
  obtain ⟨w, found, rfl⟩ := Option.map_eq_some_iff.1 said
  rw [← h.others c w other found, ← State.lowerAtSleep_active]
  simp [State.enterSleep, other]

theorem State.CondsSound.beginLeaving {s : State} (h : s.CondsSound) (parking : s.node.state = .parking) :
    s.beginLeaving.CondsSound := by
  have leaving := h.mapNode (f := fun n => { n with leaving := true }) Iff.rfl
  unfold State.beginLeaving
  dsimp only
  split
  · exact leaving.enterSleep (by simp [parking])
  · exact (leaving.mapNode (f := fun n => { n with leavingTimer := Timer.start }) Iff.rfl).handDemand

/-- The end of an event keeps the conditions with their owners. -/
theorem State.CondsSound.finish {s : State} (h : s.CondsSound) (b : State) : (s.finish b).CondsSound := by
  have parked : (s.settleParking b).CondsSound := by
    unfold State.settleParking
    split
    next waits =>
      simp only [Bool.and_eq_true, decide_eq_true_eq] at waits
      obtain ⟨⟨⟨parking, -⟩, -⟩, -⟩ := waits
      exact h.beginLeaving parking
    next => exact h
  have line := LineInterface.sameOutsideSlots_trans (State.settleDemand_same (demandContent b) (s.settleParking b))
    (State.settleStatus_same _)
  exact parked.still (by simp [State.finish]) (State.owners_congr (by simp [State.finish]) (LineInterface.told_of_same line)
    (by simp [State.finish]) (by simp [State.finish]) (by simp [State.finish])) (by simp [State.finish])

/-! ### Entering Running -/

/-- An entry into Running, with SupplyLow at an end (R156, R157). -/
theorem State.DriveFollowed.enterRunning {s : State} (h : s.DriveFollowed) (fromListening : Bool) :
    (s.enterRunning fromListening).DriveFollowed := by
  have entered : (s.startRunning fromListening).DriveFollowed := h.still rfl fun _ => rfl
  rw [State.enterRunning_eq, State.startSleepDelay_eq]
  exact entered.settleFresh.still rfl fun _ => rfl

theorem State.enterRunning_owners (fromListening : Bool) (s : State) :
    (s.enterRunning fromListening).owners = Function.update s.owners .supplyLow (some false) := by
  have started : (s.startRunning fromListening).owners = Function.update s.owners .supplyLow (some false) := by
    rw [State.startRunning, LineInterface.enterRunning_eq]
    exact funext fun d => by cases d <;> rfl
  rw [State.enterRunning_eq, State.startSleepDelay_eq, ← started, ← (s.startRunning fromListening).settleFresh_owners]
  exact State.owners_congr rfl (LineInterface.told_of_same (State.handDemand_same _)) rfl rfl fun _ => rfl

theorem State.enterRunning_active (fromListening : Bool) (s : State) {c : Condition} (other : c.ofDrive = false) :
    inSet (s.enterRunning fromListening).cond.active c = inSet s.cond.active c := by
  have settled : inSet (s.startRunning fromListening).settleFresh.cond.active c =
      inSet (s.startRunning fromListening).cond.active c := by simp [other]
  rw [State.enterRunning_eq, State.startSleepDelay_eq]
  exact settled

/-- An entry into Running from a state in which SupplyLow is over. -/
theorem State.CondsSound.enterRunning {s : State} (h : s.CondsSound) (away : s.node.state ≠ .supplyLow) (fromListening : Bool) :
    (s.enterRunning fromListening).CondsSound := by
  refine ⟨h.drive.enterRunning fromListening, ?_⟩
  rw [State.enterRunning_owners, Function.update_eq_self_iff.2 (by simp [State.owners, away])]
  exact h.others.same fun _ => s.enterRunning_active fromListening

/-- The return of the supply ends SupplyLow and its condition (R157). -/
theorem State.CondsSound.supplyLow_enterRunning {s : State} (h : s.CondsSound) (fromListening : Bool) :
    (s.endSupplyLow.enterRunning fromListening).CondsSound := by
  refine ⟨State.DriveFollowed.enterRunning (h.drive.setCond_other false (c := .supplyLow) rfl) fromListening, ?_⟩
  rw [State.enterRunning_owners, State.endSupplyLow, State.lower_owners]
  exact (h.others.setCond false .supplyLow).same fun _ => State.enterRunning_active fromListening _

/-! ### Leaving Running -/

theorem State.DriveFollowed.leaveRunning {s : State} (h : s.DriveFollowed) (dest : NodeState) : (s.leaveRunning dest).DriveFollowed := by
  have ceased : (s.ceaseRunning dest).DriveFollowed := by
    refine State.DriveFollowed.setCond_other (State.DriveFollowed.setCond_other ?_ false (c := .holderConflict) rfl) false
      (c := .coolingUnavailable) rfl
    exact h.still rfl fun _ => rfl
  have composed {t : State} (k : t.DriveFollowed) : t.composeClass.DriveFollowed := k.still rfl fun _ => rfl
  rw [State.leaveRunning_eq]
  exact (composed (ceased.handPlan _)).settleFresh

theorem AirUnit.leave_told (a : AirUnit) : a.leave.told = a.told := by
  unfold AirUnit.leave AirUnit.leaveSource
  split <;> rfl

theorem State.leaveRunning_owners (dest : NodeState) (s : State) :
    (s.leaveRunning dest).owners = Function.update s.owners .supplyLow (some (decide (dest = .supplyLow))) := by
  have composed (t : State) : t.composeClass.owners = t.owners := State.mapAir_owners rfl
  rw [State.leaveRunning_eq, State.settleFresh_owners, composed, State.handPlan_owners, State.ceaseRunning, State.lower_owners,
    State.lower_owners, State.mapAir_owners (AirUnit.leave_told _), State.mapShare_owners, State.mapNode_owners]

/-- At a leaving of Running no condition changes of which the owners say something. -/
theorem State.FollowsOwners.leaveRunning {s : State} (h : s.FollowsOwners s.owners) (dest : NodeState) :
    (s.leaveRunning dest).FollowsOwners s.owners := by
  have ceased : (s.ceaseRunning dest).FollowsOwners s.owners := by
    refine State.FollowsOwners.setCond_untied (State.FollowsOwners.setCond_untied ?_ false (c := .holderConflict) rfl) false
      (c := .coolingUnavailable) rfl
    exact h.same fun _ _ => rfl
  have composed {t : State} (k : t.FollowsOwners s.owners) : t.composeClass.FollowsOwners s.owners := k.same fun _ _ => rfl
  have planned : ((s.ceaseRunning dest).handPlan ((s.ceaseRunning dest).leavingPlan dest)).FollowsOwners s.owners :=
    ceased.same fun _ other => by simp [other]
  rw [State.leaveRunning_eq]
  exact (composed planned).same fun _ other => by simp [other]

/-- A leaving of Running for Parking (R158). -/
theorem State.CondsSound.leaveRunning {s : State} (h : s.CondsSound) (running : s.node.state = .running) {dest : NodeState}
    (away : dest ≠ .supplyLow) : (s.leaveRunning dest).CondsSound := by
  refine ⟨h.drive.leaveRunning dest, ?_⟩
  rw [State.leaveRunning_owners, Function.update_eq_self_iff.2 (by simp [State.owners, running, away])]
  exact h.others.leaveRunning dest

/-- A leaving of Running for SupplyLow, whose condition arises (R157). -/
theorem State.CondsSound.supplyFails {s : State} (h : s.CondsSound) : s.supplyFails.CondsSound := by
  unfold State.supplyFails
  split
  · refine ⟨(h.drive.leaveRunning .supplyLow).setCond_other true (c := .supplyLow) rfl, ?_⟩
    rw [State.raise_owners, State.leaveRunning_owners]
    exact (h.others.leaveRunning .supplyLow).setCond true .supplyLow
  · exact h

/-! ### Parking, Listening and the ignition -/

/-- Entering Parking ends SupplyLow and its condition, where the node was there (R158). -/
theorem State.CondsSound.enterParking {s : State} (h : s.CondsSound) : s.enterParking.CondsSound := by
  unfold State.enterParking
  split
  next running =>
    exact (h.leaveRunning running (by decide)).mapNode (iff_of_false (by simp [NodeControl.startParking]) (by simp))
  next =>
    have parked : (((s.mapNode NodeControl.startParking).mapAir AirUnit.lapse).setCond false .supplyLow).CondsSound :=
      h.setCond rfl rfl rfl (s.mapNode_owners NodeControl.startParking)
    exact parked.settleFresh

theorem State.CondsSound.enterListening {s : State} (h : s.CondsSound) (away : s.node.state ≠ .supplyLow) :
    s.enterListening.CondsSound := by
  have entered := h.mapNode (f := fun n => { n with state := .listening, listening := Timer.start })
    (iff_of_false (by simp) away)
  have aged : ((s.mapNode fun n => { n with state := .listening, listening := Timer.start }).mapAllowance
    AllowanceStore.enterListening).CondsSound := entered.still rfl rfl fun _ => rfl
  exact aged.mapInput fun x => by cases x <;> rfl

theorem State.CondsSound.supplyReturns {s : State} (h : s.CondsSound) : s.supplyReturns.CondsSound := by
  unfold State.supplyReturns
  split
  case h_1 => exact h.supplyLow_enterRunning false
  case h_2 listening =>
    split
    · exact h.enterRunning (by simp [listening]) true
    · exact h
  all_goals exact h

/-- The return from Parking to Running or to SupplyLow, whose condition arises (R159). -/
theorem State.CondsSound.unpark {s : State} (h : s.CondsSound) (away : s.node.state ≠ .supplyLow) : s.unpark.CondsSound := by
  have stopped := h.mapNode (f := fun n => { n with parking := .stopped, leavingTimer := .stopped, leaving := false }) Iff.rfl
  unfold State.unpark
  dsimp only
  split
  · exact stopped.enterRunning away false
  · refine State.CondsSound.settleFresh (stopped.setCond (c := .supplyLow) (b := true) rfl rfl rfl ?_)
    exact State.mapNode_owners (fun n => { n with state := .supplyLow }) _

theorem State.CondsSound.ignitionOff {s : State} (h : s.CondsSound) : s.ignitionOff.CondsSound :=
  h.when fun _ => h.mapNode Iff.rfl

theorem State.CondsSound.ignitionOn {s : State} (h : s.CondsSound) : s.ignitionOn.CondsSound := by
  have stopped := h.mapNode (f := fun n => { n with sleepDelay := .stopped }) Iff.rfl
  unfold State.ignitionOn
  dsimp only
  split
  case h_1 parking => exact stopped.unpark (by simp [parking])
  case h_2 asleep => exact stopped.enterListening (by simp [asleep])
  all_goals exact stopped

/-! ### The sensors -/

/-- An act at one sensor that leaves its fault flag. -/
theorem State.CondsSound.mapSensor {s : State} (h : s.CondsSound) (x : Sensor) {f : SensorEntry → SensorEntry}
    (fault : (f (s.input.sensors.get x)).fault = (s.input.sensors.get x).fault) : (s.mapSensor x f).CondsSound :=
  h.mapInput fun y => by
    by_cases same : y = x
    · subst same
      rw [SensorTable.get_set, fault]
    · rw [SensorTable.get_set_of_ne _ _ same]

theorem SensorEntry.take_fault (open_ : Bool) (v : Int) (e : SensorEntry) : (e.take open_ v).fault = e.fault := by
  unfold SensorEntry.take
  split <;> rfl

/-- An edge judges no window, and leaves the fault flag (R104 to R107). -/
theorem SensorEntry.temperatureEdge_fault (open_ rising : Bool) (capture : BitVec 16) (e : SensorEntry) :
    (e.temperatureEdge open_ rising capture).fault = e.fault := by
  rw [← e.inTime_fault]
  unfold SensorEntry.temperatureEdge
  dsimp only
  (repeat' split) <;> first | rfl | exact SensorEntry.take_fault _ _ _

theorem SensorEntry.smokeEdge_fault (open_ rising : Bool) (capture : BitVec 16) (e : SensorEntry) :
    (e.smokeEdge open_ rising capture).fault = e.fault := by
  rw [← e.inTime_fault]
  unfold SensorEntry.smokeEdge
  dsimp only
  (repeat' split) <;> first | rfl | exact SensorEntry.take_fault _ _ _

/-- The fault condition of a fitted sensor follows its flag (R109, R110). -/
theorem State.CondsSound.closeSensor {s : State} (h : s.CondsSound) (x : Sensor) : (s.closeSensor x).CondsSound := by
  unfold State.closeSensor
  dsimp only
  split
  · exact h.setCond (t := s.mapSensor x SensorEntry.close) x.fault_other rfl rfl (funext fun d => by cases x <;> cases d <;> rfl)
  · exact h.mapSensor x rfl

/-- A window's tach value judges the blower's stall timer alone (R125). -/
theorem State.CondsSound.handTach {s : State} (h : s.CondsSound) : s.handTach.CondsSound := by
  unfold State.handTach
  split
  · exact h
  next rpm _ =>
    have judged (c : Channel) : ((s.drive.judgeTach rpm).channel c).state = (s.drive.channel c).state := by
      unfold DriveUnit.judgeTach
      (repeat' split) <;> rfl
    exact h.still rfl rfl judged

theorem State.CondsSound.closeSensors {s : State} (h : s.CondsSound) : s.closeSensors.CondsSound :=
  List.foldlRecOn (motive := State.CondsSound) allSensors (fun t x => t.closeSensor x) h fun _ k x _ => k.closeSensor x

end Sys2Proof.Machine
end

section
/-! Every command and every step keeps the conditions with their owners. -/

namespace Sys2Proof.Machine

/-! ### Answers -/

/-- A command's answer keeps the conditions with their owners. -/
def CondsKept (o : Host.Outcome State Fault Refusal) : Prop := ∀ t, o = .next t → t.CondsSound

theorem State.CondsSound.kept {s : State} (h : s.CondsSound) : CondsKept (.next s) := fun _ e => Host.Outcome.next.inj e ▸ h

/-- An event that may not be under way. -/
theorem State.CondsSound.kept_ite {s u : State} (h : s.CondsSound) {p : Prop} [Decidable p] (k : p → u.CondsSound) :
    CondsKept (.next (if p then u else s)) := by
  refine State.CondsSound.kept ?_
  split
  next hp => exact k hp
  next => exact h

/-- A level commanded on a slow line. -/
theorem State.CondsSound.kept_onSlowEvent {s : State} (h : s.CondsSound) {l : SlowLine} {b : Bool} {f : State → State}
    (k : (s.accept l b).CondsSound → (f (s.accept l b)).CondsSound) : CondsKept (.next (s.onSlowEvent l b f)) := by
  have accepted : (s.accept l b).CondsSound := h.mapInput fun _ => rfl
  rcases s.onSlowEvent_cases l b f with ⟨-, e⟩ | ⟨-, e⟩ | ⟨-, e⟩ <;> rw [e]
  · exact ((k accepted).finish s).kept
  · exact accepted.kept
  · exact h.kept

/-- An accepted edge on a fast input. -/
theorem State.CondsSound.kept_onEdge {s : State} (h : s.CondsSound) (x : FastInput) (rising : Bool) {f : State → State}
    (k : (s.acceptFast x rising).CondsSound → (f (s.acceptFast x rising)).CondsSound) :
    CondsKept (.next (s.onEdge x rising f)) := by
  have accepted : (s.acceptFast x rising).CondsSound := h.mapInput fun _ => rfl
  rcases s.onEdge_cases x rising f with ⟨-, e⟩ | ⟨-, e⟩ | ⟨-, -, e⟩ <;> rw [e]
  · exact (k accepted).kept
  · exact accepted.kept
  · exact h.kept

/-- An edge at a sensor's input, which leaves its fault flag. -/
theorem State.CondsSound.kept_onCapturedEdge {s : State} (h : s.CondsSound) (x : FastInput) (rising : Bool) (capture : BitVec 16)
    (y : Sensor) {f : SensorEntry → SensorEntry} (fault : ∀ e, (f e).fault = e.fault) :
    CondsKept (.next (s.onCapturedEdge x rising capture (State.mapSensor y f))) := by
  unfold State.onCapturedEdge State.when
  split
  · exact h.kept_onEdge x rising fun accepted => accepted.mapSensor y (fault _)
  · exact h.kept

/-- An event at the receiver (R15). -/
theorem State.CondsSound.kept_reception {s : State} (h : s.CondsSound) {f : State → State} (k : (f s).CondsSound) :
    CondsKept (.next (s.reception f)) := h.kept_ite fun _ => k.finish s

/-- A reception of a sorting that the frame may not have. -/
theorem State.CondsSound.kept_reception_ite {s : State} (h : s.CondsSound) {p : Prop} [Decidable p] {f : State → State}
    (k : (f s).CondsSound) : CondsKept (.next (if p then s.reception f else s)) := by
  split
  · exact h.kept_reception k
  · exact h.kept

/-! ### Start-up -/

theorem OutputChannel.cold_afterTrip (fitted : Bool) : (OutputChannel.cold fitted).state.afterTrip = false := by cases fitted <;> rfl

theorem OutputChannel.cold_unlocked (fitted : Bool) : (OutputChannel.cold fitted).state ≠ .locked := by
  cases fitted <;> simp [OutputChannel.cold]

/-- At cold start no condition is active, and no owner says that one is (R147, R153). -/
theorem State.cold_condsSound (straps : Straps) (pins : Pins) (pending : List Instr) (choices : Nat) :
    (State.cold straps pins pending choices).CondsSound := by
  have quiet (c : Condition) : inSet (State.cold straps pins pending choices).cond.active c = false := inSet_zero c
  have cold (c : Channel) : ∃ fitted, (State.cold straps pins pending choices).drive.channel c = OutputChannel.cold fitted := by
    cases c <;> exact ⟨_, rfl⟩
  have free : (State.cold straps pins pending choices).cond.FreezeSound :=
    ⟨fun _ => ⟨rfl, rfl, rfl⟩, fun frozen => (nomatch frozen), Nat.zero_le _⟩
  refine ⟨⟨free, ?_, fun c => ?_⟩, fun c b _ said => ?_⟩
  · refine (quiet .channelLocked).trans (Bool.eq_false_iff.2 fun locked => ?_).symm
    obtain ⟨c, state⟩ := (DriveUnit.anyLocked_iff _).1 locked
    obtain ⟨fitted, same⟩ := cold c
    exact OutputChannel.cold_unlocked fitted (same ▸ state)
  · obtain ⟨fitted, same⟩ := cold c
    rw [same, OutputChannel.cold_afterTrip, State.tripActive, quiet, quiet, Bool.and_false, Bool.or_false]
  · rw [quiet]
    cases c <;> first | exact Option.some.inj said | exact (nomatch (said : none = some b))

theorem ChannelState.of_atRest {x : ChannelState} (h : x.atRest = true) : x.afterTrip = false ∧ x ≠ .locked := by
  revert h
  cases x <;> decide

/-- A heater group at rest is put in force as fitted or not, with no condition of its own (R118, R155). -/
theorem State.CondsSound.applyConfig {s : State} (h : s.CondsSound) (rests : s.drive.heater.state.atRest = true) (p : Params) :
    (s.applyConfig p).CondsSound := by
  obtain ⟨untripped, unlocked⟩ := ChannelState.of_atRest rests
  have configured : { s with params := p }.CondsSound := h.still rfl rfl fun _ => rfl
  have aimed := configured.mapAir (f := fun a => { a with target := p.defaultTarget, dischargeTarget := p.defaultTarget }) rfl
  have pulled := aimed.mapInput (f := fun i => { i with pullUps := p.pullUps }) fun _ => rfl
  have fitted := pulled.setChannel (c := .heater) (x := OutputChannel.cold (decide (0 < p.stagesFitted))) ?_ ?_
  · exact fitted.mapCond (f := fun c => { c with mask := p.reportMask }) ⟨h.drive.freeze.released, h.drive.freeze.held,
      h.drive.freeze.most⟩ rfl
  · exact (OutputChannel.cold_afterTrip _).trans untripped.symm
  · exact iff_of_false (OutputChannel.cold_unlocked _) unlocked

theorem execLoadingComplete_conds {s : State} (inv : s.Inv) (image : Vector Byte 83) : CondsKept (execLoadingComplete image s) := by
  refine inv.condsSound.kept_ite fun loading => State.CondsSound.finish ?_ s
  obtain ⟨-, -, -, -, rests, -⟩ := inv.loading loading
  have applied := inv.condsSound.applyConfig rests (takeImage s.node.cfgm image).1
  have away : (s.applyConfig (takeImage s.node.cfgm image).1).node.state ≠ .supplyLow := fun state =>
    absurd (loading.symm.trans state) (by decide)
  cases (takeImage s.node.cfgm image).2 with
  | image => exact applied.enterListening away
  | clampedImage => exact (applied.setCond_untied true (c := .configClamped) rfl rfl).enterListening (by simpa using away)
  | defaults => exact (applied.setCond_untied true (c := .configDefault) rfl rfl).enterListening (by simpa using away)

/-! ### The node and the line -/

theorem execListeningTimerExpiry_conds {s : State} (h : s.CondsSound) : CondsKept (execListeningTimerExpiry s) := by
  refine h.kept_ite fun ⟨listening, _⟩ => State.CondsSound.finish ?_ s
  have expired := h.mapNode (f := fun n => { n with listening := .expired }) Iff.rfl
  split
  · exact expired.enterRunning (by simp [listening]) true
  · exact expired

theorem execParkingTimerExpiry_conds {s : State} (h : s.CondsSound) : CondsKept (execParkingTimerExpiry s) := by
  refine h.kept_ite fun ⟨parking, _⟩ => State.CondsSound.finish ?_ s
  have expired := h.mapNode (f := fun n => { n with parking := .expired }) Iff.rfl
  split
  · exact expired
  · exact expired.beginLeaving parking

theorem State.CondsSound.offer {s : State} (h : s.CondsSound) : s.offer.CondsSound := by
  unfold State.offer
  split
  · split
    · exact h
    · exact h.mapLine rfl
  · exact h

/-- A failure that leaves the line Off raises LineOff (R11). -/
theorem State.CondsSound.countFailure {s : State} (h : s.CondsSound) :
    ((s.mapLine LineInterface.countFailure).when (!s.line.countFailure.lineOn) (State.raise .lineOff)).CondsSound := by
  have owners : (s.mapLine LineInterface.countFailure).owners =
      Function.update s.owners .lineOff (some (!s.line.countFailure.lineOn)) := by
    rw [State.mapLine, LineInterface.countFailure_eq]
    exact funext fun d => by cases d <;> rfl
  unfold State.when
  split
  next off =>
    rw [off] at owners
    exact h.setCond (t := s.mapLine LineInterface.countFailure) (b := true) (c := .lineOff) rfl rfl rfl owners
  next on =>
    have before : s.line.lineOn = s.line.countFailure.lineOn := by
      rw [LineInterface.countFailure_eq, Bool.not_eq_true, Bool.not_eq_false', Bool.and_eq_true] at on
      obtain ⟨lineOn, below⟩ := on
      rw [LineInterface.countFailure_eq, below, Bool.and_true]
    refine h.mapLine ?_
    rw [LineInterface.told, ← before, LineInterface.countFailure_eq]
    rfl

theorem State.CondsSound.failOffer {s : State} (h : s.CondsSound) : s.failOffer.CondsSound := by
  unfold State.failOffer
  split
  · exact h
  next o _ =>
    have freed : (s.mapLine fun l => { l with onLine := none }).CondsSound := h.mapLine rfl
    dsimp only
    split
    · exact freed
    · exact freed.countFailure

/-- The return of the line ends LineOff (R11). -/
theorem State.CondsSound.lineBack {s : State} (h : s.CondsSound) : ((s.mapLine LineInterface.lineBack).lower .lineOff).CondsSound :=
  h.setCond (t := s.mapLine LineInterface.lineBack) (b := false) (c := .lineOff) rfl rfl rfl (funext fun d => by cases d <;> rfl)

/-- A completed Demand changes Lc and the take state alone, and a leaving one ends in Sleep (R56, R159). -/
theorem State.CondsSound.demandCompletes {s : State} (h : s.CondsSound) (c : Demand) (replaced : Bool) :
    (s.demandCompletes c replaced).CondsSound := by
  have completed : ((s.mapLine (LineInterface.demandCompleted c replaced)).mapShare (ShareUnit.complete c.take)).CondsSound :=
    (h.mapLine rfl).mapShare _
  refine completed.when fun leaves => completed.enterSleep ?_
  simp only [Bool.and_eq_true, decide_eq_true_eq] at leaves
  rw [leaves.1.2]
  decide

theorem execDemandCompletion_conds {s : State} (h : s.CondsSound) : CondsKept (execDemandCompletion s) := by
  refine State.CondsSound.kept ?_
  split
  case h_1 => exact h
  case h_2 o _ =>
    split
    case h_1 c _ =>
      split
      · exact h.mapLine rfl
      · exact (h.demandCompletes c o.replaced).finish s
    all_goals exact h

theorem execFrameCompletion_conds {s : State} (h : s.CondsSound) : CondsKept (execFrameCompletion s) := by
  refine State.CondsSound.kept ?_
  split
  case h_1 => exact h
  case h_2 =>
    split
    case h_1 => exact h
    all_goals
      split
      · exact h.mapLine rfl
      · exact State.CondsSound.finish (h.mapLine rfl) s

theorem execStatusTimerExpiry_conds {s : State} (h : s.CondsSound) : CondsKept (execStatusTimerExpiry s) := by
  refine h.kept_ite fun _ => State.CondsSound.finish ?_ s
  have restarted : (s.mapLine fun l => { l with statusTimer := Timer.start, aOwed := true, bOwed := true }).CondsSound := h.mapLine rfl
  exact restarted.still (by simp) (State.owners_congr (by simp) (LineInterface.told_of_same (State.refreshStatus_same _)) (by simp)
    (by simp) (by simp)) (by simp)

theorem execInhibitTimerExpiry_conds {s : State} (h : s.CondsSound) : CondsKept (execInhibitTimerExpiry s) := by
  refine h.kept_ite fun _ => State.CondsSound.finish ?_ s
  have expired : (s.mapLine fun l => { l with inhibit := .expired }).CondsSound := h.mapLine rfl
  exact expired.when fun _ => expired.handDemand

theorem execRefreshTimerExpiry_conds {s : State} (h : s.CondsSound) : CondsKept (execRefreshTimerExpiry s) := by
  refine h.kept_ite fun _ => State.CondsSound.finish ?_ s
  have expired : (s.mapLine fun l => { l with refresh := .expired }).CondsSound := h.mapLine rfl
  exact expired.when fun _ => expired.handDemand

/-- The loss raises its condition (R32). -/
theorem State.CondsSound.allowanceLost {s : State} (h : s.CondsSound) :
    ((s.mapAllowance AllowanceStore.timeout).raise .allowanceLost).CondsSound :=
  h.setCond (t := s.mapAllowance AllowanceStore.timeout) (b := true) (c := .allowanceLost) rfl rfl rfl
    (funext fun d => by cases d <;> rfl)

/-! ### The Air Unit -/

theorem State.CondsSound.doorCloses {s : State} (h : s.CondsSound) (d : Door) : (s.doorCloses d).CondsSound := by
  unfold State.doorCloses
  split
  · exact State.CondsSound.sourceChanged (h.mapAir rfl)
  · exact h

theorem State.CondsSound.doorOpens {s : State} (h : s.CondsSound) (d : Door) : (s.doorOpens d).CondsSound := by
  unfold State.doorOpens
  split
  · exact State.CondsSound.sourceChanged (h.mapAir rfl)
  · exact h

/-- The purge timer's expiry raises PurgeTimeout and starts the lockout, which the condition follows (R78). -/
theorem State.CondsSound.purgeTimedOut {s : State} (h : s.CondsSound) :
    ((s.raise .purgeTimeout).mapAir AirUnit.purgeTimedOut).CondsSound := by
  refine ⟨State.DriveFollowed.still (h.drive.setCond_other true (c := .purgeTimeout) rfl) rfl fun _ => rfl, ?_⟩
  have owners : ((s.raise .purgeTimeout).mapAir AirUnit.purgeTimedOut).owners =
      Function.update s.owners .purgeTimeout (some true) := by
    rw [← s.raise_owners .purgeTimeout]
    exact funext fun d => by cases d <;> rfl
  rw [owners]
  exact h.others.setCond true .purgeTimeout

/-- The end of the lockout ends PurgeTimeout (R79). -/
theorem State.CondsSound.lockoutEnds {s : State} (h : s.CondsSound) :
    ((s.mapAir fun a => { a with lockout := .expired }).lower .purgeTimeout).CondsSound :=
  h.setCond (t := s.mapAir fun a => { a with lockout := .expired }) (b := false) (c := .purgeTimeout) rfl rfl rfl
    (funext fun d => by cases d <;> rfl)

/-! ### The inputs -/

theorem execTachEdge_conds {s : State} (h : s.CondsSound) : CondsKept (execTachEdge s) := by
  refine h.kept_onEdge .tach true fun accepted => accepted.mapInput fun _ => ?_
  rw [InputUnit.countTach_eq]

/-- A window close judges the fitted sensors, and their conditions follow (R108 to R111). -/
theorem execWindowClose_conds {s : State} (h : s.CondsSound) : CondsKept (execWindowClose s) := by
  refine h.kept_ite fun _ => State.CondsSound.finish (State.CondsSound.handTach ?_) s
  have restarted : (s.mapInput fun i => { i with windowTimer := Timer.start }).CondsSound := h.mapInput fun _ => rfl
  exact restarted.closeSensors.mapInput fun _ => rfl

/-! ### The channels and the actuators -/

theorem execCoastTimerExpiry_conds {s : State} (h : s.CondsSound) (d : Damper) : CondsKept (execCoastTimerExpiry d s) :=
  h.kept_ite fun _ => h.still rfl rfl fun c => by cases d <;> cases c <;> rfl

theorem execChannelLock_conds {s : State} (h : s.CondsSound) (c : Channel) (k : TripCause) : CondsKept (execChannelLock c k s) := by
  refine h.kept_ite fun ⟨trips, _⟩ => State.CondsSound.finish ?_ s
  cases k with
  | overCurrent =>
    simp only [State.tripsBy, Bool.and_eq_true] at trips
    exact State.CondsSound.trip (s := s.accept c.line true) (h.mapInput fun _ => rfl) rfl trips.2
  | stall =>
    simp only [State.tripsBy, Bool.and_eq_true, decide_eq_true_eq] at trips
    obtain ⟨⟨rfl, -⟩, running⟩ := trips
    exact h.trip rfl ((OutputChannel.driving_iff _).2 (.inr running))

/-- A Tripped channel whose line clears waits on in Cooldown (R126). -/
theorem State.CondsSound.lineCleared {s : State} (h : s.CondsSound) (c : Channel) :
    (s.mapDrive fun d => d.setChannel (d.channel c).lineCleared c).CondsSound := by
  refine h.setChannel (c := c) (x := (s.drive.channel c).lineCleared) (OutputChannel.lineCleared_readsAs _).afterTrip ?_
  unfold OutputChannel.lineCleared
  split
  next tripped => simp [tripped]
  next => rfl

theorem OutputChannel.of_driving {c : OutputChannel} (h : c.driving = true) : c.state.afterTrip = false ∧ c.state ≠ .locked := by
  rcases (OutputChannel.driving_iff _).1 h with state | state <;> rw [state] <;> decide

/-- The ramp moves a driven blower, and leaves it driven (R121). -/
theorem State.CondsSound.rampExpired {s : State} (h : s.CondsSound) (driving : s.drive.blower.driving = true) :
    ((s.mapDrive DriveUnit.rampExpired).settleHeater).CondsSound := by
  have others {c : Channel} (away : c ≠ .blower) : s.drive.rampExpired.channel c = s.drive.channel c := by
    rw [DriveUnit.rampExpired_eq]
    cases c <;> first | rfl | exact absurd rfl away
  obtain ⟨untripped, unlocked⟩ := OutputChannel.of_driving driving
  obtain ⟨untripped', unlocked'⟩ : (s.drive.rampExpired.channel .blower).state.afterTrip = false ∧
      (s.drive.rampExpired.channel .blower).state ≠ .locked := by
    unfold DriveUnit.rampExpired
    dsimp only
    split
    · exact ⟨untripped, unlocked⟩
    · exact OutputChannel.of_driving ((OutputChannel.driving_iff _).2 (.inr (OutputChannel.run_state _)))
  have ramped : (s.mapDrive DriveUnit.rampExpired).DriveFollowed := by
    refine h.drive.alike rfl (fun c => ?_) fun c => ?_ <;> by_cases own : c = .blower
    · exact own ▸ untripped'.trans untripped.symm
    · exact congrArg (fun x => x.state.afterTrip) (others own)
    · exact own ▸ iff_of_false unlocked' unlocked
    · exact iff_of_eq (congrArg (fun x => x.state = .locked) (others own))
  exact h.of_drive ramped.settleHeater (by simp) fun _ other => by simp [other]

/-! ### One microsecond -/

theorem ConditionUnit.FreezeSound.tick {u : ConditionUnit} (h : u.FreezeSound) :
    ({ u with autoRelease := u.autoRelease.tick } : ConditionUnit).FreezeSound where
  released runs := by
    obtain ⟨pending, swallowed, stopped⟩ := h.released runs
    exact ⟨pending, swallowed, by rw [stopped]; rfl⟩
  held frozen := (Timer.isRunning_tick _).trans (h.held frozen)
  most := h.most

theorem State.CondsSound.advance {s : State} (h : s.CondsSound) : s.advance.CondsSound := by
  have owners : s.advance.owners = s.owners := State.owners_congr rfl rfl rfl
    (Prod.ext rfl (Timer.isRunning_tick s.air.lockout)) fun x => by cases x <;> rfl
  refine ⟨h.drive.same h.drive.freeze.tick (fun _ _ _ => rfl) rfl fun c => by cases c <;> rfl, ?_⟩
  rw [owners]
  exact h.others.same fun _ _ => rfl

/-- Sampling reaches the samplers of the pins and the queue alone. -/
theorem State.CondsSound.sample {s : State} (h : s.CondsSound) : s.sample.CondsSound := by
  have fast := List.foldlRecOn (motive := State.CondsSound) allFastInputs State.sampleFastInput h fun t k x _ => by
    unfold State.sampleFastInput
    dsimp only
    split <;> exact k.still rfl rfl fun _ => rfl
  unfold State.sample
  dsimp only
  split
  · refine List.foldlRecOn (motive := State.CondsSound) allSlowLines State.sampleSlowLine fast fun t k l _ => ?_
    unfold State.sampleSlowLine
    dsimp only
    split <;> exact k.still rfl rfl fun _ => rfl
  · exact fast

/-! ### Every command -/

/-- Every command keeps the conditions with their owners. -/
theorem exec_conds (c : Instr) {s : State} (inv : s.Inv) : CondsKept (exec c s) := by
  have h := inv.condsSound
  cases c with
  | coldStart straps => exact (State.cold_condsSound _ _ _ _).kept
  | loadingComplete image => exact execLoadingComplete_conds inv image
  | listeningTimerExpiry => exact execListeningTimerExpiry_conds h
  | supplyOkAsserted => exact h.kept_onSlowEvent fun accepted => accepted.supplyReturns
  | supplyOkDeasserted => exact h.kept_onSlowEvent fun accepted => accepted.supplyFails
  | ignAcceptedLow => exact h.kept_onSlowEvent fun accepted => accepted.ignitionOff
  | ignAcceptedHigh => exact h.kept_onSlowEvent fun accepted => accepted.ignitionOn
  | sleepDelayExpiry => exact h.kept_ite fun _ => h.enterParking.finish s
  | parkingTimerExpiry => exact execParkingTimerExpiry_conds h
  | leavingTimerExpiry => exact h.kept_ite fun ⟨parking, _⟩ => (h.enterSleep (by rw [parking]; decide)).finish s
  | allowanceArrival nodeField b0 b1 b2 => exact h.kept_reception (h.hears _)
  | demandArrival sender data => exact h.kept_reception (h.hears _)
  | panelArrival data => exact h.kept_reception (h.hears _)
  | conditionRead => exact h.kept_reception (h.hears _)
  | conditionClear b1 b2 b3 => exact h.kept_reception (h.hears _)
  | conditionRelease => exact h.kept_reception (h.hears _)
  | channelUnlock b1 => exact h.kept_reception (h.hears _)
  | rehomeDampers => exact h.kept_reception (h.hears _)
  | ignoredFrame f => exact h.kept_reception_ite (h.hears _)
  | outsideExchangeFrame f b => exact h.kept_reception_ite (h.hears _)
  | receiveError => exact h.kept_reception (h.countReception true)
  | addressConflict f => exact h.kept_reception_ite (h.hears _)
  | errorWindowClose r => exact h.kept_reception_ite (h.receives r)
  | offerFrame => exact h.offer.kept
  | lostArbitration => exact State.CondsSound.kept (h.mapLine rfl)
  | transmitFailure => exact (h.failOffer.finish s).kept
  | lineOff => exact h.kept_ite fun _ => h.failOffer.finish s
  | demandCompletion => exact execDemandCompletion_conds h
  | frameCompletion => exact execFrameCompletion_conds h
  | lineOffTimerExpiry => exact h.kept_ite fun _ => h.lineBack.finish s
  | inhibitTimerExpiry => exact execInhibitTimerExpiry_conds h
  | refreshTimerExpiry => exact execRefreshTimerExpiry_conds h
  | statusTimerExpiry => exact execStatusTimerExpiry_conds h
  | statusBGuardExpiry => exact h.kept_ite fun _ => State.CondsSound.finish (h.mapLine rfl) s
  | silenceTimerExpiry =>
    exact h.kept_ite fun _ => (State.CondsSound.setIsolated (h.mapLine (f := fun l => { l with silence := .expired }) rfl)).finish s
  | peerAging n => exact h.kept_ite fun _ => (h.mapPeers _).finish s
  | peerStale n => exact h.kept_ite fun _ => (h.mapPeers _).finish s
  | peerHoldLimit n => exact h.kept_ite fun _ => (h.mapPeers _).finish s
  | allowanceTimeout => exact h.kept_ite fun _ => h.allowanceLost.finish s
  | shareExpiry => exact h.kept_ite fun _ => (h.changeTake _).finish s
  | airExpiry => exact h.kept_ite fun _ => h.airWork.finish s
  | clearingHoldComplete => exact h.kept_ite fun _ => h.airWork.finish s
  | doorCloseEvent d => exact h.kept_onSlowEvent fun accepted => accepted.doorCloses d
  | doorOpenEvent d => exact h.kept_onSlowEvent fun accepted => accepted.doorOpens d
  | boostTimerExpiry =>
    exact h.kept_ite fun _ => (State.CondsSound.sourceChanged (h.mapAir (f := AirUnit.endBoost) rfl)).finish s
  | purgeTimerExpiry => exact h.kept_ite fun _ => h.purgeTimedOut.sourceChanged.finish s
  | lockoutTimerExpiry => exact h.kept_ite fun _ => h.lockoutEnds.finish s
  | minimumOnExpiry => exact h.kept_ite fun _ => h.mapAir rfl
  | minimumOffExpiry => exact h.kept_ite fun _ => h.mapAir rfl
  | overrideLifetimeExpiry =>
    exact h.kept_ite fun _ => (State.CondsSound.settleFresh (h.mapAir (f := AirUnit.lapse) rfl)).finish s
  | temperatureEdge t rising capture =>
    exact h.kept_onCapturedEdge t.line rising capture t.sensor (SensorEntry.temperatureEdge_fault _ rising capture)
  | smokeEdge k rising capture =>
    exact h.kept_onCapturedEdge k.line rising capture k.sensor (SensorEntry.smokeEdge_fault _ rising capture)
  | tachEdge => exact execTachEdge_conds h
  | edgeTimeoutExpiry x => exact h.kept_ite fun _ => h.mapSensor x rfl
  | windowClose => exact execWindowClose_conds h
  | hallEdge d => exact h.kept_onEdge d.line true fun accepted => (accepted.applyActuator d _).finish s
  | overCurrentAsserted c => exact h.kept_onSlowEvent fun accepted => accepted.when fun driving => accepted.trip rfl driving
  | channelLock c cause => exact execChannelLock_conds h c cause
  | overCurrentCleared c => exact h.kept_onSlowEvent fun accepted => accepted.lineCleared c
  | rampTimerExpiry => exact h.kept_ite fun ⟨_, driving⟩ => (h.rampExpired driving).finish s
  | blowerStallExpiry =>
    exact h.kept_ite fun ⟨_, running⟩ =>
      (h.trip (c := .blower) (k := .stall) rfl ((OutputChannel.driving_iff _).2 (.inr running))).finish s
  | cooldownTimerExpiry c => exact h.kept_ite fun _ => (h.channelEntersOff c).finish s
  | cleanRunExpiry c => exact h.kept_ite fun _ => h.setChannel (c := c) rfl Iff.rfl
  | damperStall d => exact h.kept_ite fun _ => (h.applyActuator d _).finish s
  | coastTimerExpiry d => exact execCoastTimerExpiry_conds h d
  | reversalTimerExpiry d => exact h.kept_ite fun _ => (h.applyActuator d _).finish s
  | homingTimerExpiry d => exact h.kept_ite fun _ => (h.applyActuator d _).finish s
  | retryTimerExpiry d => exact h.kept_ite fun _ => (h.applyActuator d _).finish s
  | autoReleaseExpiry => exact h.kept_ite fun _ => h.conditionReleases.finish s
  | frameDiscardedForLength f => exact h.kept_reception_ite (h.hears _)

/-! ### Every step -/

theorem step_keeps_conds {s t : State} (inv : s.Inv) (h : step s = .next t) : t.CondsSound := by
  unfold step at h
  split at h
  case h_1 c rest _ => exact exec_conds c (inv.with_queue rest s.choices) t h
  case h_2 =>
    unfold idle at h
    split at h
    case h_1 =>
      cases h
      exact inv.condsSound.advance.sample
    case h_2 c _ => exact exec_conds c (inv.with_queue s.pending (s.choices + 1)) t h

/-- Settles O58: the conditions follow their owners, and the freeze keeps its laws, through each act that touches an owner or the
Condition Unit, and every command is composed of such acts and of acts that touch neither. -/
theorem conditionsFollowOwnersKept : Obligations.ConditionsFollowOwnersKept := by
  intro s t inv h
  exact (step_keeps_conds inv h).laws

end Sys2Proof.Machine
end

section
/-! The requests on the Condition Unit and the auto-release (R149 to R151), each to the end of its event. -/

namespace Sys2Proof.Machine

/-! ### The report slot -/

/-- A handing of a report changes its slot and what is replaced, no more (R5). -/
theorem LineInterface.handReport_same (c : Report) (l : LineInterface) :
    ({ l with reportSlot := (l.handReport c).reportSlot } : LineInterface).sameOutsideSlots (l.handReport c) := by
  rw [LineInterface.handReport_eq]
  refine ⟨rfl, ?_⟩
  cases l.onLine <;> simp [OnLine.bare]

/-- The end of an event without a test of Parking hands no report, and leaves a report on the line as it is. -/
theorem State.finish_report_onLine {s u : State} {o : OnLine} {c : Report}
    (steady : u.node.state = .parking → s.node.state = .parking ∧ s.drive.fresh.state = u.drive.fresh.state)
    (on : u.line.onLine = some o) (report : o.frame = .report c) : (u.finish s).line.onLine = some o := by
  have kept (d t : Bool) : o.afterHanding d t false = o := by
    rcases o with ⟨f, r, v⟩
    obtain rfl : f = .report c := report
    simp [OnLine.afterHanding]
  rw [State.finish_of_steady steady, State.settleStatus_onLine]
  rcases u.settleDemand_cases (demandContent s) with ⟨handed, -⟩ | ⟨still, -⟩
  · rw [handed, State.handDemand_line, on, Option.map_some, Option.map_some, kept, kept]
  · rw [still, on, Option.map_some, kept]

/-! ### What a good frame leaves of the line -/

theorem State.heardGood_listenOnly (s : State) : s.heardGood.line.listenOnly = s.line.listenOnly := by
  rw [LineInterface.eq_of_unmarked s.heardGood_unmarked]

theorem State.heardGood_reportSlot (s : State) : s.heardGood.line.reportSlot = s.line.reportSlot := by
  rw [LineInterface.eq_of_unmarked s.heardGood_unmarked]

theorem State.heardGood_onLine (s : State) : s.heardGood.line.onLine = s.line.onLine := by
  rw [LineInterface.eq_of_unmarked s.heardGood_unmarked]

/-! ### The requests -/

/-- A request that acts on the Condition Unit alone, by a function that leaves the active set (R149 to R151). -/
theorem State.request_finish {s : State} (take : s.takeLaws) {f : ConditionUnit → ConditionUnit}
    (active : (f s.heardGood.cond).active = s.heardGood.cond.active) :
    ((s.heardGood.mapCond f).finish s).cond = f s.heardGood.cond ∧
    s.heardGood.line.sameOutsideSlots ((s.heardGood.mapCond f).finish s).line ∧
    s.heardGood.sameExcept [.cond, .line] ((s.heardGood.mapCond f).finish s) := by
  have arrived : (s.heardGood.mapCond f).DrivesAs s.heardGood := ⟨rfl, rfl, rfl, fun _ _ => by rw [State.mapCond_cond, active]⟩
  obtain ⟨blocks, cond, line⟩ := State.arrival_finish (u := s.heardGood.mapCond f) take s.heardGood_frame.2.1 arrived
  exact ⟨cond, line, State.sameExcept_trans (by simp [State.sameExcept]) blocks (by simp)⟩

/-- A read, to the end of its event (R149). -/
theorem State.conditionReads_finish {s : State} (take : s.takeLaws) :
    (s.heardGood.conditionReads.finish s).cond = s.heardGood.cond.freeze ∧
    (s.heardGood.conditionReads.finish s).line.reportSlot =
      (if s.line.listenOnly then s.line.reportSlot else some (reportContent (s.heardGood.mapCond ConditionUnit.freeze))) ∧
    (∀ o c, s.line.onLine = some o → o.frame = .report c →
      (s.heardGood.conditionReads.finish s).line.onLine = some { o with replaced := o.replaced || !s.line.listenOnly }) ∧
    ({ s.heardGood.line with reportSlot := (s.heardGood.conditionReads.finish s).line.reportSlot } :
      LineInterface).sameOutsideSlots (s.heardGood.conditionReads.finish s).line ∧
    s.heardGood.sameExcept [.cond, .line] (s.heardGood.conditionReads.finish s) := by
  set u := s.heardGood.conditionReads with hu
  have node : u.node = s.node := s.heardGood_frame.2.1
  have arrived : u.DrivesAs s.heardGood := ⟨rfl, rfl, rfl, fun _ _ => rfl⟩
  have steady := (State.replannedOnFall_congr s.heardGood_replanned (State.DrivesAs.refl s) rfl rfl rfl arrived).steady take node
  obtain ⟨blocks, cond, line⟩ := State.arrival_finish take node arrived
  have handed : u.line = s.heardGood.line.handReport (reportContent (s.heardGood.mapCond ConditionUnit.freeze)) := rfl
  have slot : (u.finish s).line.reportSlot = u.line.reportSlot := by rw [line.1]
  refine ⟨cond, ?_, fun o c on report => ?_, ?_,
    State.sameExcept_trans (by simp [State.sameExcept, hu, State.conditionReads]) blocks (by simp)⟩
  · rw [slot, handed, LineInterface.handReport_eq, s.heardGood_listenOnly, s.heardGood_reportSlot]
  · refine State.finish_report_onLine (c := c) steady ?_ report
    rw [handed, LineInterface.handReport_eq, s.heardGood_listenOnly, s.heardGood_onLine, on, Option.map_some, OnLine.afterHanding,
      report]
  · rw [slot]
    exact LineInterface.sameOutsideSlots_trans (handed ▸ LineInterface.handReport_same _ _) line

theorem ConditionUnit.release_of_frozen {u : ConditionUnit} (frozen : u.frozen = true) : u.release = { u with
    latched := u.latched ||| u.pending, pending := 0, swallowed := 0, frozen := false, autoRelease := .stopped } :=
  if_pos frozen

/-- Settles O55: each request acts on the Condition Unit that the good frame leaves, a read hands its report besides, and the expiry
acts as a release. -/
theorem conditionRequests : Obligations.ConditionRequests := by
  refine ⟨fun s inv receives => ?_, fun b1 b2 b3 s inv receives => ?_, fun s inv receives => ?_, fun s frozen runs => ?_⟩
  · obtain ⟨cond, slot, onLine, line, blocks⟩ := State.conditionReads_finish inv.take
    refine ⟨s.heardGood.conditionReads.finish s, congrArg Host.Outcome.next (if_pos receives), cond, ?_, onLine, line, blocks⟩
    rw [cond]
    exact slot
  · exact ⟨_, congrArg Host.Outcome.next (if_pos receives), State.request_finish inv.take rfl⟩
  · exact ⟨_, congrArg Host.Outcome.next (if_pos receives), State.request_finish inv.take (ConditionUnit.release_active _)⟩
  · obtain ⟨blocks, line⟩ := State.finish_undriven (s := s) (u := s.mapCond ConditionUnit.release) rfl rfl
    have cond := State.finish_cond_of_steady (s := s) (u := s.mapCond ConditionUnit.release) fun parking => ⟨parking, rfl⟩
    exact ⟨_, congrArg Host.Outcome.next (if_pos runs), cond.trans (ConditionUnit.release_of_frozen frozen), line,
      State.sameExcept_trans (by simp [State.sameExcept]) blocks (by simp)⟩

end Sys2Proof.Machine
end
